-- ==== Sys2Proof/Word.lean ====
section
/-! DEFINITION. The word, byte and item types of the hub. -/

namespace Sys2Proof

/-- A register, a bus word, a gather register: 32 bits. -/
abbrev Word := BitVec 32

/-- One byte of memory or of a frame. -/
abbrev Byte := BitVec 8

/-- A queue item (R138, R269): 64 bits. -/
abbrev Item := BitVec 64

end Sys2Proof
end

