-- ==== Sys2Proof/Syntax.lean ====
section
/-! DEFINITION. The commands of the hub: one constructor of `Instr` per row of `spec/opcode_table.json`, with the
operands the row's step needs. A command is one indivisible step (spec/95): a write or read of a register, an
instruction that a Dexgar core executes, a frame that arrives, an event on a ball, or the end of a timed step. -/

namespace Sys2Proof

/-- Cores C0–C7 and the Oasis core C8 (index 8). -/
abbrev Core := Fin 9
/-- An analogue channel, 0–95 (R88). -/
abbrev Chan := Fin 96
/-- A gather register g0–g7 (R179). -/
abbrev GReg := Fin 8
/-- A queue, 0–63 (R265). -/
abbrev QIx := Fin 64
/-- A DMA channel, 0–15. -/
abbrev Dma := Fin 16
/-- An ACT output, 0–47. -/
abbrev Out := Fin 48
/-- A launch-table entry, 0–1,023 (R314). -/
abbrev LIx := Fin 1024
/-- A HIC source, 0–255 (R243). -/
abbrev Src := Fin 256
/-- A Caer link or an Ethernet port. -/
abbrev Port := Fin 2
/-- A two-wire port. -/
abbrev TPort := Fin 4
/-- A mains phase. -/
abbrev Phase := Fin 3

/-- Who makes an access: a core, the DMA engine, the debug and service port (R460), or the settings loader. -/
inductive Req where
  | core (c : Core)
  | dme
  | dbg
  | boot
  deriving DecidableEq, Repr

/-- The condition codes of R183. -/
inductive Cond where
  | al | eq | ne | cs | cc | mi | ge | ts
  deriving DecidableEq, Repr

/-- How an instruction is encoded: its condition (the stop condition in a run of XCMP or XFND, R209), its length in
words (short form, EXT words included, R185) or bytes (byte form, R216), and the NOFLAGS prefix (R217). -/
structure Enc where
  cond : Cond
  len : Nat
  noFlags : Bool
  deriving DecidableEq, Repr

/-- The special registers that MOV names (R180, R205). `pcView` is index 6, which is read only. -/
inductive Special where
  | lr | flags | vbase | crcv | crcp | crcc | pcView
  deriving DecidableEq, Repr

/-- The configuration registers of an EVT rule unit (R147). -/
inductive EvtReg where
  | cfg | hi | lo | hyst | rate | stuck
  deriving DecidableEq, Repr

/-- The shadow registers of a DMA channel (R297). -/
inductive ShadowReg where
  | scfg | slist | sfix
  deriving DecidableEq, Repr

/-- The four counters of an Ethernet port (ETH_PORT_OK, BAD, TX, DROP). -/
inductive EthCounter where
  | ok | bad | tx | drop
  deriving DecidableEq, Repr

/-- Where an offset sample of the servo comes from (R308). -/
inductive SampleFrom where
  | firmware
  | caer (n : Port)
  deriving DecidableEq, Repr

/-- A fabric unit that pushes whole items with 64-bit beats (R272, R275). -/
inductive Pusher where
  | flt | teu | time
  | caer (n : Port)
  | dme (k : Dma)
  deriving DecidableEq, Repr

/-- The header of a received Caer frame, but for TYPE, which the command names, and LEN, which the payload gives
(R357). -/
structure CaerHdr where
  hops : BitVec 4
  src : BitVec 4
  dst : BitVec 4
  bc : Bool
  ackv : Bool
  dstq : BitVec 6
  lseq : BitVec 12
  ackseq : BitVec 12
  deriving DecidableEq, Repr

/-- How a two-wire controller command ended on the bus (the RESULT codes of R391 that the bus decides). -/
inductive TwpEnd where
  | ok | addrNack | dataNack | arbLost | arbRestart | stopLost | aborted | busErr | stuck | cleared
  deriving DecidableEq, Repr

/-- A port at which TOUT expires, with the bytes that the bus had acknowledged and sent till then (R391, R393). -/
structure TwpStall where
  port : TPort
  sent : Nat
  received : List Byte
  deriving DecidableEq, Repr

/-- The path a service command arrives on (R463, R464). -/
inductive Path where
  | usb | dap
  deriving DecidableEq, Repr

/-- An Uhlas command frame as received (R465), but for CMD, which the command names. -/
structure UFrame where
  path : Path
  magic : Byte
  ver : Byte
  tag : Byte
  len : Nat
  payload : List Byte
  crc : Word
  deriving DecidableEq, Repr

/-- A fast read that the BFPT lists (R398): its instruction, and its mode and dummy cycles. -/
structure FastRead where
  instr : Byte
  mode : Nat
  dummy : Nat
  deriving DecidableEq, Repr

/-- The read instructions of a 4-byte Address Instruction Table (R398), by the read modes of R397. -/
structure FourByte where
  r111 : Byte
  r112 : Byte
  r122 : Byte
  r114 : Byte
  r144 : Byte
  deriving DecidableEq, Repr

/-- What BOOT reads of the flash's SFDP tables (R398–R400): whether the signature is there, the major revision (JESD216 is 1), the DWORDs of
the BFPT, the density in bytes, QER, the Quad Enable bit that it names, the 4-byte Address Instruction Table where there is one, and
the fast reads that the BFPT lists. -/
structure Sfdp where
  present : Bool
  major : Nat
  dwords : Nat
  density : Nat
  qer : BitVec 3
  qe : Bool
  fourByte : Option FourByte
  r144 : Option FastRead
  r114 : Option FastRead
  r122 : Option FastRead
  r112 : Option FastRead
  deriving DecidableEq, Repr

/-- A vendor command (R452, R460). -/
inductive VendorOp where
  | toMaker | toOpen
  | other (code : Byte)
  deriving DecidableEq, Repr

/-- A standard request on endpoint 0, as USB 2.0 chapter 9 lays out its SETUP packet (R463): bmRequestType, bRequest, wValue, wIndex,
wLength. -/
structure UsbRequest where
  typ : Byte
  req : Byte
  value : BitVec 16
  index : BitVec 16
  length : BitVec 16
  deriving DecidableEq, Repr

/-- USB_VBUS against its two thresholds (R463): above 4.0 V, from 3.6 V to 4.0 V, below 3.6 V. -/
inductive VbusLevel where
  | low | mid | high
  deriving DecidableEq, Repr

/-- A DAP debug command on a core (R460). -/
inductive DebugOp where
  | hold | resume
  | readGather (r : GReg)
  | readSpecial (k : Special)
  | readSavedPc | readSavedFlags | readPc
  deriving DecidableEq, Repr

/-- THE COMMANDS, in the table's order. -/
inductive Instr where
  -- system control, resets, supplies (chapters 00, 03)
  | registerWrite (by_ : Req) (addr v : Word)
  | porstNAssert
  | vaoBrownOut
  | porstNRelease
  | vcoreRise
  | pllFLock
  | pllTLock
  | vcoreWarn
  | vcoreBrownOut
  | vio33Low (low : Bool)
  | avddLow (low : Bool)
  | resetNAssert
  | warmResetRelease (addr : BitVec 3)
  | softWarmReset
  | softAoReset
  | pfailNFall
  | flushComplete
  | refLoss
  | refReturn
  | xt32Ok
  | xt32Stop
  | pwrto
  | tempConversion (t0 t1 t2 t3 : Int)
  | eccClear
  | gpioSet (v : Word)
  | gpioClr (v : Word)
  | gpioDirWrite (v : Word)
  | gpioInputChange (n : Fin 15) (level : Bool)
  -- analogue front end (chapter 04)
  | afeChCfgWrite (n : Chan) (v : Word)
  | channelRestartEnd (n : Chan)
  | overload (n : Chan)
  | integratorClear (n : Chan)
  | refrdy
  | testStart (v : Word)
  | testAbort
  | testPhaseEnd
  | testDwellEnd (results : List (Chan × Int))
  | watchResult (w : Fin 8) (bits : List Bool)
  -- filter and events (chapter 05)
  | sampleItem (n : Chan) (bits : List Bool)
  | syncInEdge (at_ : Nat)
  | syncApply
  | fltChCfgWrite (n : Chan) (v : Word)
  | fltProfileWrite (p : Fin 8) (isB : Bool) (v : Word)
  | evtConfigWrite (r : EvtReg) (u : Chan) (v : Word)
  -- thermal estimator (chapter 06)
  | teuSoftwareStep
  | teuStepComplete
  | teuSwapWrite (v : Word)
  | validate (val0 val1 : Bool)
  | validationDone
  | teuEntryLowStore (by_ : Req) (b : Fin 2) (i : Fin 8192) (v : Word)
  | teuEntryHighStore (by_ : Req) (b : Fin 2) (i : Fin 8192) (v : Word)
  | teuStateStore (i : Fin 512) (v : Word)
  | teuEnable
  -- Dexgar instructions (chapters 07, 08): the core, the encoding, the operands
  | nop (c : Core) (e : Enc)
  | add (c : Core) (e : Enc) (d s : GReg)
  | sub (c : Core) (e : Enc) (d s : GReg)
  | adc (c : Core) (e : Enc) (d s : GReg)
  | sbc (c : Core) (e : Enc) (d s : GReg)
  | and (c : Core) (e : Enc) (d s : GReg)
  | or (c : Core) (e : Enc) (d s : GReg)
  | xor (c : Core) (e : Enc) (d s : GReg)
  | mov (c : Core) (e : Enc) (d s : GReg)
  | movFromSpecial (c : Core) (e : Enc) (d : GReg) (k : Special)
  | movToSpecial (c : Core) (e : Enc) (k : Special) (s : GReg)
  | cmp (c : Core) (e : Enc) (d s : GReg)
  | tst (c : Core) (e : Enc) (d s : GReg)
  | neg (c : Core) (e : Enc) (d : GReg)
  | not (c : Core) (e : Enc) (d : GReg)
  | mul (c : Core) (e : Enc) (d s : GReg)
  | mulh (c : Core) (e : Enc) (d s : GReg)
  | mulhu (c : Core) (e : Enc) (d s : GReg)
  | div (c : Core) (e : Enc) (d s : GReg)
  | divu (c : Core) (e : Enc) (d s : GReg)
  | rem (c : Core) (e : Enc) (d s : GReg)
  | remu (c : Core) (e : Enc) (d s : GReg)
  | shl (c : Core) (e : Enc) (d s : GReg)
  | shr (c : Core) (e : Enc) (d s : GReg)
  | sar (c : Core) (e : Enc) (d s : GReg)
  | ror (c : Core) (e : Enc) (d s : GReg)
  | addi (c : Core) (e : Enc) (d : GReg) (imm : Word)
  | movi (c : Core) (e : Enc) (d : GReg) (imm : Word)
  | ld (c : Core) (e : Enc) (d s : GReg) (disp : Word)
  | ldh (c : Core) (e : Enc) (d s : GReg) (disp : Word)
  | ldb (c : Core) (e : Enc) (d s : GReg) (disp : Word)
  | st (c : Core) (e : Enc) (d s : GReg) (disp : Word)
  | sth (c : Core) (e : Enc) (d s : GReg) (disp : Word)
  | stb (c : Core) (e : Enc) (d s : GReg) (disp : Word)
  | br (c : Core) (e : Enc) (off : Word)
  | call (c : Core) (e : Enc) (off : Word)
  | callReg (c : Core) (e : Enc) (s : GReg)
  | ret (c : Core) (e : Enc)
  | jr (c : Core) (e : Enc) (s : GReg)
  | reti (c : Core) (e : Enc)
  | sleep (c : Core) (e : Enc)
  | waitev (c : Core) (e : Enc)
  | waitevResume (c : Core)
  | ckpt (c : Core) (e : Enc)
  | ckptAck (c : Core)
  | par (c : Core) (e : Enc) (d : GReg)
  | brev (c : Core) (e : Enc) (d : GReg)
  | brevb (c : Core) (e : Enc) (d : GReg)
  | crcb (c : Core) (e : Enc) (s : GReg)
  | crcw (c : Core) (e : Enc) (s : GReg)
  | xcpy (c : Core) (e : Enc)
  | xfil (c : Core) (e : Enc)
  | xcmp (c : Core) (e : Enc)
  | xfnd (c : Core) (e : Enc)
  | xcrc (c : Core) (e : Enc)
  | xcpyRun (c : Core) (e : Enc)
  | xfilRun (c : Core) (e : Enc)
  | xcmpRun (c : Core) (e : Enc)
  | xfndRun (c : Core) (e : Enc)
  | xcrcRun (c : Core) (e : Enc)
  | tstc (c : Core) (e : Enc) (t : Cond)
  -- the core cluster (chapter 08)
  | fetchBlockArrival (c : Core) (block : Word)
  | loadResponse (c : Core)
  | storeDrain (c : Core)
  | coreRun (c : Core) (run : Bool)
  | coreClrflt (c : Core)
  | coreDiv (c : Fin 8) (div : Byte)
  | faultEscalation
  | programWindowStore (by_ : Req) (c : Core) (w : BitVec 14) (v : Word)
  | watchdogEnable (c : Core)
  | watchdogKick (c : Core) (v : Word)
  | watchdogAdvance (ao : Bool)
  | watchdogBite (c : Fin 8)
  | oasisWatchdogBite
  | doorbellRing (v : Word)
  | doorbellClear (v : Word)
  | eventSet (v : Word)
  -- interrupts, power states (chapter 09)
  | sourceEvent (s : Src)
  | coalesceTimeout (s : Src)
  | levelChange (s : Src)
  | interruptAccept (c : Core)
  | interruptGrant (c : Core)
  | vectorEntry (c : Core)
  | claimComplete (c : Core)
  | softwareRaise (v : Word)
  | pendClear (j : Fin 8) (v : Word)
  | sourceConfigWrite (s : Fin 255) (v : Word)
  | powerRequest (v : Word)
  | powerEntryComplete
  | wakeTimer
  | dapWake
  | oasisWatchAssert
  | wakeComplete
  -- queues (chapter 10)
  | pushl (by_ : Req) (q : QIx) (v : Word)
  | pushh (by_ : Req) (q : QIx) (v : Word)
  | push (u : Pusher) (q : QIx) (item : Item)
  | popl (by_ : Req) (q : QIx)
  | held (by_ : Req) (q : QIx)
  | peekl (by_ : Req) (q : QIx)
  | pop (q : QIx)
  | commit (q : QIx)
  | rewind (q : QIx)
  | flush (q : QIx)
  | commitAck (q : QIx)
  | queueConfigWrite (q : QIx) (v : Word)
  | restoreScanEnd (q : QIx)
  | qmDropsRead (q : QIx)
  -- DMA (chapter 11)
  | dmeArm (k : Dma)
  | dmeEnable (k : Dma)
  | dmeAbort (k : Dma)
  | dmeShadowWrite (k : Dma) (r : ShadowReg) (v : Word)
  | shadowCopy (k : Dma)
  | elementFetch (k : Dma)
  | dmeBurst
  | elementComplete (k : Dma)
  | dmeBusError (k : Dma)
  | abortComplete (k : Dma)
  | qwaitRetry (k : Dma)
  -- time, launches, actuation (chapter 12)
  | timeCapture (by_ : Req)
  | counterSet
  | holdWrite (hold : Bool)
  | counterStep (v : Word)
  | servoSample (frm : SampleFrom) (o : Word)
  | servoFreqLoad (v : Word)
  | holdoverTimeout
  | secondBoundary
  | launchWordStore (by_ : Req) (i : LIx) (w : Fin 3) (v : Word)
  | launchCommit (by_ : Req) (i : LIx) (v : Word)
  | launchCancel (by_ : Req) (i : LIx) (v : Word)
  | launchArm (i : LIx)
  | lateEntryHandle (i : LIx)
  | actSet (i : LIx)
  | actDuty (i : LIx)
  | actMode (i : LIx)
  | fltSync (i : LIx)
  | fltResponseChange (i : LIx)
  | teuStep (i : LIx)
  | teuBankSwap (i : LIx)
  | qmPush (i : LIx)
  | hicRaise (i : LIx)
  | caerMessage (i : LIx)
  | actSafe (i : LIx)
  | pwmCycleStart (k : Fin 4)
  | pwmDutyEnd (n : Out)
  | genWrite (k : Fin 4) (v : Word)
  | zxDecision (n : Out)
  | halfDecision (n : Out) (positive : Bool)
  | mainsEdge (p : Phase) (at_ : Nat)
  | mainsLostTimeout (p : Phase)
  | predictedCrossing (p : Phase)
  | mainsConfigWrite (p : Phase) (v : Word)
  | safeCommand (j : Fin 2) (v : Word)
  | outputConfigWrite (n : Out) (v : Word)
  | outputDutyWrite (n : Out) (v : Word)
  -- Ethernet (chapter 13)
  | frameReceive (n : Port) (bytes : List Byte) (fcsOk : Bool)
  | frameForward (n : Port)
  | txTailWrite (v : Word)
  | txSlot
  | txFrameDone
  | ringEnable (v : Word)
  | mdioStart (v : Word)
  | mdioDone (data : BitVec 16) (noAck : Bool)
  | ethCounterRead (n : Port) (k : EthCounter)
  -- Caer (chapter 14)
  | linkEnable (n : Port) (v : Word)
  | identTimer (n : Port)
  | linkFail (n : Port)
  | ident (n : Port) (hub : BitVec 4) (upEnd pen : Bool) (variant : BitVec 2) (partner : BitVec 4)
  | ack (n : Port) (h : CaerHdr)
  | time (n : Port) (h : CaerHdr) (t1 xn t2 t3 : Nat)
  | dreq (n : Port) (h : CaerHdr) (t3 xn t4 : Nat)
  | dresp (n : Port) (h : CaerHdr) (t4 xn : Nat)
  | launch (n : Port) (h : CaerHdr) (time : BitVec 64) (arg : Word) (action : BitVec 16) (flags : Byte)
  | msg (n : Port) (h : CaerHdr) (word : Word)
  | peer (n : Port) (h : CaerHdr) (idx : BitVec 6) (value : Word)
  | cmd (n : Port) (h : CaerHdr) (code : Byte)
  | heart (n : Port) (h : CaerHdr) (jseq : Word)
  | jrnl (n : Port) (h : CaerHdr) (record : List Byte)
  | qitems (n : Port) (h : CaerHdr) (items : List Item)
  | resendTimeout (n : Port)
  | ackTimer (n : Port)
  | exchangeStart (n : Port) (t1 : Nat)
  | exchangeTimeout (n : Port)
  | messageSend (v : Word)
  | peerExportTick
  | qfwdSend (j : Fin 8)
  | lineCommand (v : Word)
  | caerErrRead (n : Port)
  | pairEnable (v : Word)
  | pairEnter
  | pairTimeout
  | retry
  | take
  | release
  | heartTimer
  | partnerSilence
  | pairOkLow
  | takeoverDelayEnd
  | takeoverSeen
  -- two-wire ports (chapter 15)
  | targetAddress (p : TPort) (addr : BitVec 7) (read : Bool)
  | targetByteReceived (p : TPort) (b : Byte)
  | targetByteSent (p : TPort)
  | targetStop (p : TPort)
  | targetTimeout (p : TPort)
  | targetPointerWrite (p : TPort) (v : Word)
  | go (p : TPort) (v : Word)
  | abort (p : TPort)
  | recover (p : TPort)
  | busFree (p : TPort)
  | controllerEnd (p : TPort) (r : TwpEnd) (sent : Nat) (received : List Byte)
  | controllerTimeout (x : TwpStall)
  -- settings loader (chapter 16)
  | bootStart
  | signatureVerifyDone
  | sectionEnd (body : List Byte)
  | retainedCopyDone
  | imageCommit (v : Word)
  | updateRequest (v : Word)
  | flashCommand (v : Word) (answer : List Byte)
  | flashStatusPoll (sr : Byte)
  | flashPollTimeout
  -- journal (chapter 17)
  | recordSubmit
  | recordAck
  | lineWrite
  | flushIdleTimeout
  | lineWriteDone (ok : Bool)
  | replayRestore
  | replayFinish
  | coldResume
  | lineRead (v : Word)
  | lineReadDone (crcOk : Bool)
  | partnerRingConfig (v : Word)
  | baselineStart
  -- life cycle and service (chapter 18)
  | hello (f : UFrame)
  | read32 (f : UFrame)
  | write32 (f : UFrame)
  | jrnread (f : UFrame)
  | flashcmd (f : UFrame) (answer : List Byte)
  | nonce (f : UFrame)
  | token (f : UFrame)
  | tokenCheckDone
  | endsvc (f : UFrame)
  | reset (f : UFrame)
  | lock (f : UFrame)
  | vendorCommand (f : UFrame) (op : VendorOp)
  | lcsLock
  | lcsEndsvc
  | serviceExpiry
  | vbusChange (level : VbusLevel)
  | usbBusReset
  -- rows the table adds at its end
  | vcoreRecovery (warnOnly : Bool)
  | vaoRecovery
  | resetNRelease
  | pfailNRise
  | frameCrcError (n : Port)
  | takeoverReleased
  | headersRead (sfdp : Sfdp) (a b : List Byte)
  | resetCommandDelayEnd
  | syncOutPulseEnd
  | standardRequest (r : UsbRequest)
  | debugCommand (f : UFrame) (c : Core) (op : DebugOp)
  | rowWordStore (b : Fin 2) (sect : Fin 4) (row : Fin 512) (v : Word)
  | reservedEncoding (c : Core) (breaking : Nat)
  deriving DecidableEq, Repr

end Sys2Proof
end

