-- ==== Sys2Proof/Decode.lean ====
section
/-! DEFINITION. The commands that words spell: the opcode table gives no row any bits, so no word spells a command. (What a
Dexgar core decodes from its program memory and its byte-form code stands in Machine/Dexgar.lean.) -/

namespace Sys2Proof

/-- The command that a word spells by the table's bits: none, since no row of the table gives bits. (DESIGN CHOICE, log 2) -/
def decodeTableWord (_nbits _w : Nat) : Option Instr := none

end Sys2Proof
end

