-- ==== Sys2Proof/Config.lean ====
section
/-! DEFINITION. What the spec leaves open: constants without a body, so that no proof can lean on a value. Each is named in
the assumption log. -/

namespace Sys2Proof.Config

/-- A fresh 32-bit value nothing constrains, per use (the index is the state's counter of free values). (DESIGN CHOICE, log 7) -/
opaque freeWord : Nat → Word

/-- The low four bits of the codes of the two vendor commands that the spec describes (R452): BLANK to MAKER (`false`) and MAKER
to OPEN (`true`). (DESIGN CHOICE, log 65) -/
opaque vendorCode : Bool → BitVec 4

/-- The factory calibration of excitation source `k`, AFE_EXC_CAL.CALPPM. (DESIGN CHOICE, log 8) -/
opaque excCal : Nat → BitVec 16

/-- The factory pin delay, ACT_PINCAL.TPD. (DESIGN CHOICE, log 8) -/
opaque pinDelay : BitVec 8

/-- Which of the temperatures within the error of R137 the conversion of a voltage or resistance `num / den` gives. (PRESUMED, log 18) -/
opaque convPick (sensor : Nat) (num : Int) (den : Nat) (tcj : Int) : Nat

/-- The temperature that FLT computes for a thermocouple with a cold junction outside its reference function, for which R134 states
none. (PRESUMED, log 18) -/
opaque coldOutside (sensor : Nat) (num : Int) (den : Nat) (tcj : Int) : Int

/-- The code of a DAP debug command (R460, R464), by its kind. (DESIGN CHOICE, log 65) -/
opaque debugCode : Nat → Byte

/-- Bytes of the USB descriptors that the spec does not give (R463), by the model's number. (DEDUCED, log 68) -/
opaque usbByte : Nat → Byte

/-- The texts of the USB string descriptors that the spec does not give (R463): 0 the languages, 1 the manufacturer, 2 the product. (DEDUCED, log 68) -/
opaque usbText : Nat → List Byte

/-- Whether the serial number writes its letters as capitals (R463). (DEDUCED, log 68) -/
opaque usbCapitals : Bool

end Sys2Proof.Config
end

