-- ==== Sys2Proof/Machine/RegMap.lean ====
section
/-! DEFINITION. The register map: the address of every register (its unit's window base of R15 plus its offset) and the
place of every field, from the register tables of the unit chapters. -/

namespace Sys2Proof.Machine

/-- A field of a register: its lowest bit and its width. -/
structure Fld where
  lo : Nat
  w : Nat
  deriving DecidableEq, Repr

-- addresses
def SYS_STATUS : Nat := 0x40000010
def SYS_RESETCAUSE : Nat := 0x40000014
def SYS_RSTCTL : Nat := 0x40000018
def SYS_DIETEMP : Nat := 0x40000020
def SYS_TEMPCFG : Nat := 0x40000024
def SYS_CLKOUT : Nat := 0x40000028
def SYS_ECC_CNT : Nat := 0x40000030
def SYS_ECC_ADDR : Nat := 0x40000034
def SYS_ECC_INFO : Nat := 0x40000038
def SYS_ECC_CTL : Nat := 0x4000003c
def SYS_GPIO_DIR : Nat := 0x40000040
def SYS_GPIO_OUT : Nat := 0x40000044
def SYS_GPIO_SET : Nat := 0x40000048
def SYS_GPIO_CLR : Nat := 0x4000004c
def SYS_GPIO_IN : Nat := 0x40000050
def AFE_CTRL : Nat := 0x40010000
def AFE_STATUS : Nat := 0x40010004
def AFE_TEST_CTL : Nat := 0x40010020
def AFE_TEST_MASK (i : Nat) : Nat := 0x40010024 + 4 * i
def AFE_TEST_POS : Nat := 0x40010030
def AFE_OVL (i : Nat) : Nat := 0x40010040 + 4 * i
def AFE_EXC_CFG (i : Nat) : Nat := 0x40010080 + 4 * i
def AFE_EXC_CAL (i : Nat) : Nat := 0x400100c0 + 4 * i
def AFE_WATCH_CFG (i : Nat) : Nat := 0x40010100 + 4 * i
def AFE_CH_CFG (i : Nat) : Nat := 0x40010400 + 4 * i
def AFE_TEST_RES (i : Nat) : Nat := 0x40010600 + 4 * i
def FLT_STATUS : Nat := 0x40020004
def FLT_SYNC_CTL : Nat := 0x40020010
def FLT_CJFIX : Nat := 0x40020014
def FLT_EXTREF : Nat := 0x40020018
def FLT_PROF_A (i : Nat) : Nat := 0x40020040 + 8 * i
def FLT_PROF_B (i : Nat) : Nat := 0x40020044 + 8 * i
def FLT_CH_CFG (i : Nat) : Nat := 0x40020400 + 4 * i
def FLT_CH_ROUTE (i : Nat) : Nat := 0x40020600 + 4 * i
def FLT_CH_STAT (i : Nat) : Nat := 0x40020800 + 4 * i
def FLT_CH_OFFS (i : Nat) : Nat := 0x40020c00 + 4 * i
def EVT_STATUS : Nat := 0x40030004
def EVT_ACTIVE (i : Nat) : Nat := 0x40030010 + 4 * i
def EVT_CFG (i : Nat) : Nat := 0x40030400 + 4 * i
def EVT_HI (i : Nat) : Nat := 0x40030800 + 4 * i
def EVT_LO (i : Nat) : Nat := 0x40030c00 + 4 * i
def EVT_HYST (i : Nat) : Nat := 0x40031000 + 4 * i
def EVT_RATE (i : Nat) : Nat := 0x40031400 + 4 * i
def EVT_STUCK (i : Nat) : Nat := 0x40031800 + 4 * i
def EVT_FLAG (i : Nat) : Nat := 0x40031c00 + 4 * i
def TEU_CTL : Nat := 0x40040000
def TEU_STATUS : Nat := 0x40040004
def TEU_CFG : Nat := 0x40040008
def TEU_SWAP : Nat := 0x4004000c
def TEU_BANK_CFG (i : Nat) : Nat := 0x40040010 + 4 * i
def TEU_CHECK (i : Nat) : Nat := 0x40040018 + 4 * i
def TEU_STEPCNT : Nat := 0x40040020
def TEU_STEPTIME : Nat := 0x40040024
def TEU_SATROW : Nat := 0x40040028
def TEU_PROUTE : Nat := 0x4004002c
def TEU_CMASK (i : Nat) : Nat := 0x40040030 + 4 * i
def TEU_INVALID (i : Nat) : Nat := 0x40040040 + 4 * i
def TEU_PMASK (i : Nat) : Nat := 0x40040050 + 4 * i
def TEU_PEER (i : Nat) : Nat := 0x40040100 + 4 * i
def TEU_PROBE (i : Nat) : Nat := 0x40040200 + 4 * i
def TEU_RESID (i : Nat) : Nat := 0x40040300 + 4 * i
def CORE_STATUS : Nat := 0x40110004
def CORE_ESC : Nat := 0x40110008
def CORE_DBELL_SET : Nat := 0x40110010
def CORE_DBELL_CLR : Nat := 0x40110014
def CORE_EVSET : Nat := 0x40110018
def CORE_DBELL_EVMASK (i : Nat) : Nat := 0x40110040 + 4 * i
def CORE_CTL (i : Nat) : Nat := if i = 8 then 0x40100100 else 0x40110100 + 32 * i
def CORE_START (i : Nat) : Nat := if i = 8 then 0x40100104 else 0x40110104 + 32 * i
def CORE_FAULT (i : Nat) : Nat := if i = 8 then 0x40100108 else 0x40110108 + 32 * i
def CORE_FLTPC (i : Nat) : Nat := if i = 8 then 0x4010010c else 0x4011010c + 32 * i
def CORE_FLTADDR (i : Nat) : Nat := if i = 8 then 0x40100110 else 0x40110110 + 32 * i
def CORE_WDOG (i : Nat) : Nat := if i = 8 then 0x40100114 else 0x40110114 + 32 * i
def CORE_WDKICK (i : Nat) : Nat := if i = 8 then 0x40100118 else 0x40110118 + 32 * i
def CORE_INFO (i : Nat) : Nat := if i = 8 then 0x4010011c else 0x4011011c + 32 * i
def HIC_STATUS : Nat := 0x40050004
def HIC_RAISE : Nat := 0x40050010
def HIC_PEND (i : Nat) : Nat := 0x40050040 + 4 * i
def HIC_INSVC (i : Nat) : Nat := 0x40050060 + 4 * i
def HIC_LEVEL (i : Nat) : Nat := 0x40050080 + 4 * i
def HIC_CORE (i : Nat) : Nat := 0x40050100 + 4 * i
def HIC_SRC_CFG (i : Nat) : Nat := 0x40050400 + 4 * i
def HIC_SRC_CTIME (i : Nat) : Nat := 0x40050800 + 4 * i
def OAS_STATUS : Nat := 0x40100004
def OAS_PWRREQ : Nat := 0x40100010
def OAS_PWRSTATE : Nat := 0x40100014
def OAS_WAKECAUSE : Nat := 0x40100018
def OAS_WAKETMR : Nat := 0x4010001c
def OAS_WAKE (i : Nat) : Nat := 0x40100040 + 4 * i
def OAS_WHI (i : Nat) : Nat := 0x401000c0 + 4 * i
def OAS_WLO (i : Nat) : Nat := 0x401000e0 + 4 * i
def OAS_WRES (i : Nat) : Nat := 0x40100140 + 4 * i
def QM_STATUS : Nat := 0x40060004
def QM_FLOW (i : Nat) : Nat := 0x40060040 + 4 * i
def QM_Q_CFG (i : Nat) : Nat := 0x40061000 + 64 * i
def QM_Q_PTR (i : Nat) : Nat := 0x40061004 + 64 * i
def QM_Q_MARK (i : Nat) : Nat := 0x40061008 + 64 * i
def QM_Q_AVAIL (i : Nat) : Nat := 0x4006100c + 64 * i
def QM_Q_OCC (i : Nat) : Nat := 0x40061010 + 64 * i
def QM_Q_CTL (i : Nat) : Nat := 0x40061014 + 64 * i
def QM_Q_DROPS (i : Nat) : Nat := 0x40061018 + 64 * i
def QM_Q_HI (i : Nat) : Nat := 0x4006101c + 64 * i
def QM_Q_LO (i : Nat) : Nat := 0x40061020 + 64 * i
def QM_Q_FLAGS (i : Nat) : Nat := 0x40061024 + 64 * i
def DME_STATUS : Nat := 0x40070004
def DME_CH_CTL (i : Nat) : Nat := 0x40070100 + 64 * i
def DME_CH_STAT (i : Nat) : Nat := 0x40070104 + 64 * i
def DME_CH_SCFG (i : Nat) : Nat := 0x40070108 + 64 * i
def DME_CH_SLIST (i : Nat) : Nat := 0x4007010c + 64 * i
def DME_CH_SFIX (i : Nat) : Nat := 0x40070110 + 64 * i
def DME_CH_CFG (i : Nat) : Nat := 0x40070114 + 64 * i
def DME_CH_LIST (i : Nat) : Nat := 0x40070118 + 64 * i
def DME_CH_ADDR (i : Nat) : Nat := 0x4007011c + 64 * i
def DME_CH_REM (i : Nat) : Nat := 0x40070120 + 64 * i
def DME_CH_FIX (i : Nat) : Nat := 0x40070124 + 64 * i
def DME_CH_DONEB (i : Nat) : Nat := 0x40070128 + 64 * i
def DME_CH_ERRADDR (i : Nat) : Nat := 0x4007012c + 64 * i
def TIME_CTL : Nat := 0x40080000
def TIME_STATUS : Nat := 0x40080004
def TIME_NOW0 : Nat := 0x40080010
def TIME_NOW1 : Nat := 0x40080014
def TIME_NOW2 : Nat := 0x40080018
def TIME_SET0 : Nat := 0x40080030
def TIME_SET1 : Nat := 0x40080034
def TIME_SET2 : Nat := 0x40080038
def TIME_STEPNS : Nat := 0x4008003c
def TIME_SRV_CFG : Nat := 0x40080040
def TIME_SRV_HOLD : Nat := 0x40080044
def TIME_SRV_OFFS : Nat := 0x40080048
def TIME_SRV_STAT : Nat := 0x4008004c
def TIME_SRV_LAST : Nat := 0x40080050
def TIME_SRV_FREQ : Nat := 0x40080054
def TIME_PERIOD (i : Nat) : Nat := 0x40080080 + 4 * i
def TIME_QLOW (i : Nat) : Nat := 0x400800a0 + 4 * i
def TIME_BCPOOL : Nat := 0x400800c0
def TIME_SEQ : Nat := 0x400800c4
def TIME_LTERR : Nat := 0x400800c8
def TIME_LATEINFO : Nat := 0x400800cc
def TIME_FREE : Nat := 0x400800d0
def ACT_CTL : Nat := 0x40090000
def ACT_STATUS : Nat := 0x40090004
def ACT_SAFECMD (i : Nat) : Nat := 0x40090010 + 4 * i
def ACT_PINCAL : Nat := 0x40090018
def ACT_GEN (i : Nat) : Nat := 0x40090020 + 4 * i
def ACT_MAINS_CFG (i : Nat) : Nat := 0x40090040 + 4 * i
def ACT_MAINS_STAT (i : Nat) : Nat := 0x40090060 + 4 * i
def ACT_MAINS_ZX (i : Nat) : Nat := 0x40090080 + 4 * i
def ACT_OUT_CFG (i : Nat) : Nat := 0x40090100 + 4 * i
def ACT_OUT_DUTY (i : Nat) : Nat := 0x40090200 + 4 * i
def ACT_OUT_STAT (i : Nat) : Nat := 0x40090300 + 4 * i
def ETH_CTL : Nat := 0x400a0000
def ETH_STATUS : Nat := 0x400a0004
def ETH_MAC_LO : Nat := 0x400a0010
def ETH_MAC_HI : Nat := 0x400a0014
def ETH_MCAST_LO (i : Nat) : Nat := 0x400a0020 + 8 * i
def ETH_MCAST_HI (i : Nat) : Nat := 0x400a0024 + 8 * i
def ETH_PTP_CFG : Nat := 0x400a0040
def ETH_PORT_CFG (i : Nat) : Nat := 0x400a0100 + 32 * i
def ETH_PORT_LAT (i : Nat) : Nat := 0x400a0104 + 32 * i
def ETH_P2P_DELAY (i : Nat) : Nat := 0x400a0108 + 32 * i
def ETH_PORT_OK (i : Nat) : Nat := 0x400a010c + 32 * i
def ETH_PORT_BAD (i : Nat) : Nat := 0x400a0110 + 32 * i
def ETH_PORT_TX (i : Nat) : Nat := 0x400a0114 + 32 * i
def ETH_PORT_DROP (i : Nat) : Nat := 0x400a0118 + 32 * i
def ETH_RX_BASE : Nat := 0x400a0200
def ETH_TX_BASE : Nat := 0x400a0210
def ETH_RX_CFG : Nat := 0x400a0204
def ETH_TX_CFG : Nat := 0x400a0214
def ETH_TX_TAIL : Nat := 0x400a0218
def ETH_MDIO : Nat := 0x400a0300
def CAER_ID : Nat := 0x400b0000
def CAER_STATUS : Nat := 0x400b0004
def CAER_MSGTX_DATA : Nat := 0x400b0010
def CAER_MSGTX_HUB : Nat := 0x400b0014
def CAER_MBOX_STAT : Nat := 0x400b0018
def CAER_CMD : Nat := 0x400b001c
def CAER_PAIR_CFG : Nat := 0x400b0020
def CAER_PAIR_STAT : Nat := 0x400b0024
def CAER_PEXP_CFG : Nat := 0x400b0028
def CAER_DIR : Nat := 0x400b002c
def CAER_LINK_CFG (i : Nat) : Nat := 0x400b0100 + 64 * i
def CAER_LINK_STAT (i : Nat) : Nat := 0x400b0104 + 64 * i
def CAER_LINK_ASYM (i : Nat) : Nat := 0x400b0108 + 64 * i
def CAER_LINK_DELAY (i : Nat) : Nat := 0x400b010c + 64 * i
def CAER_LINK_OFFS (i : Nat) : Nat := 0x400b0110 + 64 * i
def CAER_LINK_ERR (i : Nat) : Nat := 0x400b0114 + 64 * i
def CAER_MBOX (i : Nat) : Nat := 0x400b0200 + 4 * i
def CAER_QFWD (i : Nat) : Nat := 0x400b0300 + 4 * i
def CAER_PEXP (i : Nat) : Nat := 0x400b0400 + 4 * i
def TWP_STATUS : Nat := 0x400c0004
def TWP_CFG (i : Nat) : Nat := 0x400c0100 + 64 * i
def TWP_TIMA (i : Nat) : Nat := 0x400c0104 + 64 * i
def TWP_TIMB (i : Nat) : Nat := 0x400c0108 + 64 * i
def TWP_WBASE (i : Nat) : Nat := 0x400c010c + 64 * i
def TWP_WSIZE (i : Nat) : Nat := 0x400c0110 + 64 * i
def TWP_WLIM (i : Nat) : Nat := 0x400c0114 + 64 * i
def TWP_TSTAT (i : Nat) : Nat := 0x400c0118 + 64 * i
def TWP_TPTR (i : Nat) : Nat := 0x400c011c + 64 * i
def TWP_CCMD (i : Nat) : Nat := 0x400c0120 + 64 * i
def TWP_CBUF (i : Nat) : Nat := 0x400c0124 + 64 * i
def TWP_CSTAT (i : Nat) : Nat := 0x400c0128 + 64 * i
def TWP_BUS (i : Nat) : Nat := 0x400c012c + 64 * i
def BOOT_STATUS : Nat := 0x400d0004
def BOOT_SEQ : Nat := 0x400d0008
def BOOT_VER : Nat := 0x400d000c
def BOOT_INFO : Nat := 0x400d0010
def BOOT_DENS : Nat := 0x400d0014
def BOOT_COMMIT : Nat := 0x400d0018
def BOOT_UPDATE : Nat := 0x400d001c
def BOOT_RET0 : Nat := 0x400d0020
def BOOT_RET1 : Nat := 0x400d0024
def BOOT_FCMD : Nat := 0x400d0040
def BOOT_FADDR : Nat := 0x400d0044
def BOOT_FLEN : Nat := 0x400d0048
def BOOT_FBUF : Nat := 0x400d004c
def BOOT_FSTAT : Nat := 0x400d0050
def JRN_STATUS : Nat := 0x400e0004
def JRN_POLICY : Nat := 0x400e0008
def JRN_PCFG : Nat := 0x400e000c
def JRN_JSEQ : Nat := 0x400e0010
def JRN_FILL : Nat := 0x400e0014
def JRN_HEAD : Nat := 0x400e0018
def JRN_RSTAT : Nat := 0x400e0020
def JRN_RQ0 : Nat := 0x400e0024
def JRN_RQ1 : Nat := 0x400e0028
def JRN_RDMA : Nat := 0x400e002c
def JRN_SUP : Nat := 0x400e0030
def JRN_PSTAT : Nat := 0x400e0034
def JRN_PLAST : Nat := 0x400e0038
def JRN_CKQ0 (i : Nat) : Nat := 0x400e0040 + 4 * i
def JRN_CKQ1 (i : Nat) : Nat := 0x400e0060 + 4 * i
def JRN_RDCTL : Nat := 0x400e0100
def JRN_RDDATA (i : Nat) : Nat := 0x400e0140 + 4 * i
def SYS_CAPS : Nat := 0x40000008
def SYS_UNITS : Nat := 0x40000004
def LCS_STATE : Nat := 0x400f0008
def LCS_STATUS : Nat := 0x400f0004
def LCS_DEVID (i : Nat) : Nat := 0x400f0010 + 4 * i
def LCS_KEYS : Nat := 0x400f0020
def LCS_CMD : Nat := 0x400f0030
def LCS_SVC : Nat := 0x400f0034
def LCS_USB : Nat := 0x400f0040
def LCS_USBID : Nat := 0x400f0044

-- fields
def SYS_STATUS_CFGERR : Fld := ⟨31, 1⟩
def SYS_STATUS_PWRTO : Fld := ⟨11, 1⟩
def SYS_STATUS_FLUSHED : Fld := ⟨10, 1⟩
def SYS_STATUS_PFAIL : Fld := ⟨9, 1⟩
def SYS_STATUS_TEMPHI : Fld := ⟨8, 1⟩
def SYS_STATUS_BOWARN : Fld := ⟨7, 1⟩
def SYS_STATUS_AVDDLOW : Fld := ⟨6, 1⟩
def SYS_STATUS_VIO33LOW : Fld := ⟨5, 1⟩
def SYS_STATUS_VCOREWARN : Fld := ⟨4, 1⟩
def SYS_STATUS_REFLOSS : Fld := ⟨3, 1⟩
def SYS_STATUS_XT32OK : Fld := ⟨2, 1⟩
def SYS_STATUS_PLLLOCK : Fld := ⟨1, 1⟩
def SYS_STATUS_REFOK : Fld := ⟨0, 1⟩
def SYS_RESETCAUSE_WARMCNT : Fld := ⟨16, 8⟩
def SYS_RESETCAUSE_CORE : Fld := ⟨12, 3⟩
def SYS_RESETCAUSE_SOFTAO : Fld := ⟨9, 1⟩
def SYS_RESETCAUSE_OASWDOG : Fld := ⟨8, 1⟩
def SYS_RESETCAUSE_VCOREBOR : Fld := ⟨7, 1⟩
def SYS_RESETCAUSE_CAER : Fld := ⟨6, 1⟩
def SYS_RESETCAUSE_SOFT : Fld := ⟨5, 1⟩
def SYS_RESETCAUSE_COREFLT : Fld := ⟨4, 1⟩
def SYS_RESETCAUSE_WDOG : Fld := ⟨3, 1⟩
def SYS_RESETCAUSE_RESETN : Fld := ⟨2, 1⟩
def SYS_RESETCAUSE_VAOBOR : Fld := ⟨1, 1⟩
def SYS_RESETCAUSE_PORST : Fld := ⟨0, 1⟩
def SYS_RSTCTL_KEY : Fld := ⟨16, 16⟩
def SYS_RSTCTL_REQ : Fld := ⟨0, 2⟩
def SYS_DIETEMP_T3 : Fld := ⟨24, 8⟩
def SYS_DIETEMP_T2 : Fld := ⟨16, 8⟩
def SYS_DIETEMP_T1 : Fld := ⟨8, 8⟩
def SYS_DIETEMP_T0 : Fld := ⟨0, 8⟩
def SYS_TEMPCFG_HYST : Fld := ⟨8, 4⟩
def SYS_TEMPCFG_TEMP_HI : Fld := ⟨0, 8⟩
def SYS_CLKOUT_SEL : Fld := ⟨0, 3⟩
def SYS_ECC_CNT_UNCORR : Fld := ⟨16, 16⟩
def SYS_ECC_CNT_CORR : Fld := ⟨0, 16⟩
def SYS_ECC_ADDR_ADDR : Fld := ⟨0, 32⟩
def SYS_ECC_INFO_V : Fld := ⟨31, 1⟩
def SYS_ECC_INFO_MEM : Fld := ⟨8, 4⟩
def SYS_ECC_INFO_SYNDROME : Fld := ⟨0, 8⟩
def SYS_ECC_CTL_CLEAR : Fld := ⟨0, 1⟩
def SYS_GPIO_DIR_OE : Fld := ⟨0, 15⟩
def SYS_GPIO_OUT_OUT : Fld := ⟨0, 15⟩
def SYS_GPIO_SET_SET : Fld := ⟨0, 15⟩
def SYS_GPIO_CLR_CLR : Fld := ⟨0, 15⟩
def SYS_GPIO_IN_FROZEN : Fld := ⟨31, 1⟩
def SYS_GPIO_IN_IN : Fld := ⟨0, 15⟩
def AFE_CTRL_REFEN : Fld := ⟨0, 1⟩
def AFE_STATUS_CFGERR : Fld := ⟨31, 1⟩
def AFE_STATUS_TESTCOLL : Fld := ⟨4, 1⟩
def AFE_STATUS_TESTABORT : Fld := ⟨3, 1⟩
def AFE_STATUS_TESTDONE : Fld := ⟨2, 1⟩
def AFE_STATUS_TESTBUSY : Fld := ⟨1, 1⟩
def AFE_STATUS_REFRDY : Fld := ⟨0, 1⟩
def AFE_TEST_CTL_START : Fld := ⟨31, 1⟩
def AFE_TEST_CTL_ABORT : Fld := ⟨30, 1⟩
def AFE_TEST_CTL_DWELL : Fld := ⟨8, 8⟩
def AFE_TEST_CTL_VLT : Fld := ⟨4, 2⟩
def AFE_TEST_CTL_SEQ : Fld := ⟨2, 1⟩
def AFE_TEST_CTL_MODE : Fld := ⟨0, 2⟩
def AFE_TEST_MASK_MASK : Fld := ⟨0, 32⟩
def AFE_TEST_POS_CH : Fld := ⟨0, 7⟩
def AFE_OVL_OVL : Fld := ⟨0, 32⟩
def AFE_EXC_CFG_CH : Fld := ⟨8, 7⟩
def AFE_EXC_CFG_DEST : Fld := ⟨4, 2⟩
def AFE_EXC_CFG_CUR : Fld := ⟨0, 3⟩
def AFE_EXC_CAL_CALPPM : Fld := ⟨0, 16⟩
def AFE_WATCH_CFG_BO : Fld := ⟨5, 2⟩
def AFE_WATCH_CFG_REF : Fld := ⟨4, 1⟩
def AFE_WATCH_CFG_RANGE : Fld := ⟨1, 3⟩
def AFE_WATCH_CFG_EN : Fld := ⟨0, 1⟩
def AFE_CH_CFG_INSEL : Fld := ⟨12, 3⟩
def AFE_CH_CFG_BO : Fld := ⟨8, 2⟩
def AFE_CH_CFG_BIAS : Fld := ⟨5, 1⟩
def AFE_CH_CFG_REF : Fld := ⟨4, 1⟩
def AFE_CH_CFG_RANGE : Fld := ⟨1, 3⟩
def AFE_CH_CFG_EN : Fld := ⟨0, 1⟩
def AFE_TEST_RES_MODE : Fld := ⟨18, 1⟩
def AFE_TEST_RES_OVER : Fld := ⟨17, 1⟩
def AFE_TEST_RES_VALID : Fld := ⟨16, 1⟩
def AFE_TEST_RES_VALUE : Fld := ⟨0, 16⟩
def FLT_STATUS_CFGERR : Fld := ⟨31, 1⟩
def FLT_STATUS_PENDREPL : Fld := ⟨4, 1⟩
def FLT_STATUS_CJERR : Fld := ⟨3, 1⟩
def FLT_STATUS_RTDERR : Fld := ⟨2, 1⟩
def FLT_STATUS_SYNCIN : Fld := ⟨1, 1⟩
def FLT_SYNC_CTL_INGRP : Fld := ⟨0, 16⟩
def FLT_CJFIX_TCJ : Fld := ⟨0, 32⟩
def FLT_EXTREF_UV : Fld := ⟨0, 22⟩
def FLT_PROF_A_FM1 : Fld := ⟨8, 8⟩
def FLT_PROF_A_D1SEL : Fld := ⟨2, 3⟩
def FLT_PROF_A_RESP : Fld := ⟨0, 2⟩
def FLT_PROF_B_D2 : Fld := ⟨16, 13⟩
def FLT_PROF_B_L2 : Fld := ⟨0, 13⟩
def FLT_CH_CFG_CJCH : Fld := ⟨20, 7⟩
def FLT_CH_CFG_CJSEL : Fld := ⟨18, 2⟩
def FLT_CH_CFG_EXC : Fld := ⟨12, 4⟩
def FLT_CH_CFG_SENSOR : Fld := ⟨8, 4⟩
def FLT_CH_CFG_GROUP : Fld := ⟨4, 4⟩
def FLT_CH_CFG_PROF : Fld := ⟨0, 3⟩
def FLT_CH_ROUTE_QEN : Fld := ⟨8, 1⟩
def FLT_CH_ROUTE_QSEL : Fld := ⟨0, 5⟩
def FLT_CH_STAT_PENDV : Fld := ⟨11, 1⟩
def FLT_CH_STAT_PENDPROF : Fld := ⟨8, 3⟩
def FLT_CH_STAT_STATE : Fld := ⟨4, 2⟩
def FLT_CH_STAT_ACTPROF : Fld := ⟨0, 3⟩
def FLT_CH_OFFS_OFFS : Fld := ⟨0, 24⟩
def EVT_STATUS_CFGERR : Fld := ⟨31, 1⟩
def EVT_ACTIVE_ACT : Fld := ⟨0, 32⟩
def EVT_CFG_ONUM : Fld := ⟨24, 8⟩
def EVT_CFG_RK : Fld := ⟨16, 4⟩
def EVT_CFG_RDIR : Fld := ⟨13, 2⟩
def EVT_CFG_OPENEN : Fld := ⟨12, 1⟩
def EVT_CFG_STUCKEN : Fld := ⟨11, 1⟩
def EVT_CFG_RATEEN : Fld := ⟨10, 1⟩
def EVT_CFG_LOEN : Fld := ⟨9, 1⟩
def EVT_CFG_HIEN : Fld := ⟨8, 1⟩
def EVT_CFG_IN : Fld := ⟨0, 8⟩
def EVT_HI_HI : Fld := ⟨0, 32⟩
def EVT_LO_LO : Fld := ⟨0, 32⟩
def EVT_HYST_HYST : Fld := ⟨0, 24⟩
def EVT_RATE_RLIM : Fld := ⟨0, 31⟩
def EVT_STUCK_SCOUNT : Fld := ⟨16, 16⟩
def EVT_STUCK_SBAND : Fld := ⟨0, 16⟩
def EVT_FLAG_ARM : Fld := ⟨8, 5⟩
def EVT_FLAG_OPEN : Fld := ⟨4, 1⟩
def EVT_FLAG_STUCK : Fld := ⟨3, 1⟩
def EVT_FLAG_RATE : Fld := ⟨2, 1⟩
def EVT_FLAG_LO : Fld := ⟨1, 1⟩
def EVT_FLAG_HI : Fld := ⟨0, 1⟩
def TEU_CTL_STEP : Fld := ⟨16, 1⟩
def TEU_CTL_VAL1 : Fld := ⟨9, 1⟩
def TEU_CTL_VAL0 : Fld := ⟨8, 1⟩
def TEU_CTL_ENABLE : Fld := ⟨0, 1⟩
def TEU_STATUS_CFGERR : Fld := ⟨31, 1⟩
def TEU_STATUS_VALID1 : Fld := ⟨19, 1⟩
def TEU_STATUS_VALID0 : Fld := ⟨18, 1⟩
def TEU_STATUS_PENDBANK : Fld := ⟨17, 1⟩
def TEU_STATUS_PENDV : Fld := ⟨16, 1⟩
def TEU_STATUS_ABANK : Fld := ⟨15, 1⟩
def TEU_STATUS_WARMING : Fld := ⟨14, 1⟩
def TEU_STATUS_VALBUSY : Fld := ⟨13, 1⟩
def TEU_STATUS_BUSY : Fld := ⟨12, 1⟩
def TEU_STATUS_SNAPSKIP : Fld := ⟨7, 1⟩
def TEU_STATUS_ACTWR : Fld := ⟨6, 1⟩
def TEU_STATUS_VALDONE : Fld := ⟨5, 1⟩
def TEU_STATUS_ECCFAIL : Fld := ⟨4, 1⟩
def TEU_STATUS_SWAPERR : Fld := ⟨3, 1⟩
def TEU_STATUS_TABERR : Fld := ⟨2, 1⟩
def TEU_STATUS_OVERRUN : Fld := ⟨1, 1⟩
def TEU_STATUS_SAT : Fld := ⟨0, 1⟩
def TEU_CFG_WARMUP : Fld := ⟨16, 8⟩
def TEU_CFG_STALE : Fld := ⟨8, 8⟩
def TEU_CFG_SNAPDIV : Fld := ⟨0, 8⟩
def TEU_SWAP_BANK : Fld := ⟨0, 1⟩
def TEU_BANK_CFG_NSTATES : Fld := ⟨16, 10⟩
def TEU_BANK_CFG_NENT : Fld := ⟨0, 14⟩
def TEU_CHECK_VALID : Fld := ⟨31, 1⟩
def TEU_CHECK_REASON : Fld := ⟨28, 3⟩
def TEU_CHECK_INDEX : Fld := ⟨0, 14⟩
def TEU_STEPCNT_COUNT : Fld := ⟨0, 32⟩
def TEU_STEPTIME_MAX : Fld := ⟨16, 16⟩
def TEU_STEPTIME_LAST : Fld := ⟨0, 16⟩
def TEU_SATROW_V : Fld := ⟨31, 1⟩
def TEU_SATROW_SECT : Fld := ⟨10, 2⟩
def TEU_SATROW_ROW : Fld := ⟨0, 10⟩
def TEU_PROUTE_QEN : Fld := ⟨8, 1⟩
def TEU_PROUTE_QSEL : Fld := ⟨0, 5⟩
def TEU_CMASK_CMASK : Fld := ⟨0, 32⟩
def TEU_INVALID_INV : Fld := ⟨0, 32⟩
def TEU_PMASK_PMASK : Fld := ⟨0, 32⟩
def TEU_PEER_VALUE : Fld := ⟨0, 32⟩
def TEU_PROBE_VALUE : Fld := ⟨0, 32⟩
def TEU_RESID_VALUE : Fld := ⟨0, 32⟩
def CORE_STATUS_CFGERR : Fld := ⟨31, 1⟩
def CORE_STATUS_PMWR : Fld := ⟨24, 1⟩
def CORE_STATUS_FAULT : Fld := ⟨16, 8⟩
def CORE_STATUS_SLEEPING : Fld := ⟨8, 8⟩
def CORE_STATUS_RUNNING : Fld := ⟨0, 8⟩
def CORE_ESC_ESC : Fld := ⟨0, 8⟩
def CORE_DBELL_SET_RING : Fld := ⟨0, 16⟩
def CORE_DBELL_CLR_PEND : Fld := ⟨0, 16⟩
def CORE_EVSET_SET : Fld := ⟨0, 9⟩
def CORE_DBELL_EVMASK_CORES : Fld := ⟨0, 9⟩
def CORE_CTL_DIV : Fld := ⟨8, 8⟩
def CORE_CTL_CLRFLT : Fld := ⟨2, 1⟩
def CORE_CTL_RUN : Fld := ⟨0, 1⟩
def CORE_START_START : Fld := ⟨0, 32⟩
def CORE_FAULT_KIND : Fld := ⟨8, 4⟩
def CORE_FAULT_CAUSE : Fld := ⟨0, 4⟩
def CORE_FLTPC_PC : Fld := ⟨0, 32⟩
def CORE_FLTADDR_ADDR : Fld := ⟨0, 32⟩
def CORE_WDOG_EN : Fld := ⟨31, 1⟩
def CORE_WDOG_TIMEOUT : Fld := ⟨0, 20⟩
def CORE_WDKICK_KEY : Fld := ⟨0, 16⟩
def CORE_INFO_CKPTFAIL : Fld := ⟨31, 1⟩
def CORE_INFO_CKPTSKIP : Fld := ⟨30, 1⟩
def CORE_INFO_WDBADKEY : Fld := ⟨29, 1⟩
def CORE_INFO_WDWARN : Fld := ⟨28, 1⟩
def CORE_INFO_CKCNT : Fld := ⟨0, 16⟩
def HIC_STATUS_CFGERR : Fld := ⟨31, 1⟩
def HIC_STATUS_SPURCNT : Fld := ⟨0, 16⟩
def HIC_RAISE_SRC : Fld := ⟨0, 8⟩
def HIC_PEND_PEND : Fld := ⟨0, 32⟩
def HIC_INSVC_INSVC : Fld := ⟨0, 32⟩
def HIC_LEVEL_LEVEL : Fld := ⟨0, 32⟩
def HIC_CORE_INH : Fld := ⟨31, 1⟩
def HIC_CORE_OFFER : Fld := ⟨30, 1⟩
def HIC_CORE_EVENTS : Fld := ⟨16, 8⟩
def HIC_CORE_CLAIM : Fld := ⟨0, 10⟩
def HIC_SRC_CFG_EN : Fld := ⟨31, 1⟩
def HIC_SRC_CFG_CCOUNT : Fld := ⟨16, 8⟩
def HIC_SRC_CFG_POL : Fld := ⟨15, 1⟩
def HIC_SRC_CFG_KIND : Fld := ⟨14, 1⟩
def HIC_SRC_CFG_HOST : Fld := ⟨12, 2⟩
def HIC_SRC_CFG_TGT : Fld := ⟨0, 9⟩
def HIC_SRC_CTIME_CTIME : Fld := ⟨0, 16⟩
def OAS_STATUS_CFGERR : Fld := ⟨31, 1⟩
def OAS_STATUS_REQIGN : Fld := ⟨1, 1⟩
def OAS_STATUS_ENTRYABRT : Fld := ⟨0, 1⟩
def OAS_PWRREQ_KEY : Fld := ⟨16, 16⟩
def OAS_PWRREQ_STATE : Fld := ⟨0, 3⟩
def OAS_PWRSTATE_TRANS : Fld := ⟨8, 1⟩
def OAS_PWRSTATE_STATE : Fld := ⟨0, 3⟩
def OAS_WAKECAUSE_VALID : Fld := ⟨31, 1⟩
def OAS_WAKECAUSE_CAUSE : Fld := ⟨8, 4⟩
def OAS_WAKECAUSE_SRC : Fld := ⟨0, 8⟩
def OAS_WAKETMR_TICKS : Fld := ⟨0, 24⟩
def OAS_WAKE_INV : Fld := ⟨10, 1⟩
def OAS_WAKE_C8ONLY : Fld := ⟨9, 1⟩
def OAS_WAKE_EN : Fld := ⟨8, 1⟩
def OAS_WAKE_SRC : Fld := ⟨0, 8⟩
def OAS_WHI_WHI : Fld := ⟨0, 24⟩
def OAS_WLO_WLO : Fld := ⟨0, 24⟩
def OAS_WRES_VALID : Fld := ⟨24, 1⟩
def OAS_WRES_CODE : Fld := ⟨0, 24⟩
def QM_STATUS_CFGERR : Fld := ⟨31, 1⟩
def QM_STATUS_RESTORE : Fld := ⟨3, 1⟩
def QM_STATUS_PARERR : Fld := ⟨2, 1⟩
def QM_STATUS_LOCKERR : Fld := ⟨1, 1⟩
def QM_STATUS_BADPUSH : Fld := ⟨0, 1⟩
def QM_FLOW_EN : Fld := ⟨8, 1⟩
def QM_FLOW_INV : Fld := ⟨7, 1⟩
def QM_FLOW_QSEL : Fld := ⟨0, 5⟩
def QM_Q_CFG_EN : Fld := ⟨31, 1⟩
def QM_Q_CFG_JRNEN : Fld := ⟨30, 1⟩
def QM_Q_CFG_MEN : Fld := ⟨29, 1⟩
def QM_Q_CFG_SRC : Fld := ⟨24, 2⟩
def QM_Q_CFG_LOG2SIZE : Fld := ⟨16, 4⟩
def QM_Q_CFG_BASE : Fld := ⟨0, 16⟩
def QM_Q_PTR_WR : Fld := ⟨16, 16⟩
def QM_Q_PTR_RD : Fld := ⟨0, 16⟩
def QM_Q_MARK_MARK : Fld := ⟨0, 16⟩
def QM_Q_AVAIL_AVAIL : Fld := ⟨0, 17⟩
def QM_Q_OCC_OCC : Fld := ⟨0, 17⟩
def QM_Q_CTL_FLUSH : Fld := ⟨2, 1⟩
def QM_Q_CTL_REWIND : Fld := ⟨1, 1⟩
def QM_Q_CTL_COMMIT : Fld := ⟨0, 1⟩
def QM_Q_DROPS_DROPS : Fld := ⟨0, 32⟩
def QM_Q_HI_HI : Fld := ⟨0, 17⟩
def QM_Q_LO_LO : Fld := ⟨0, 17⟩
def QM_Q_FLAGS_ABOVE : Fld := ⟨7, 1⟩
def QM_Q_FLAGS_CULLET : Fld := ⟨6, 1⟩
def QM_Q_FLAGS_RESTORE : Fld := ⟨5, 1⟩
def QM_Q_FLAGS_COMMITBUSY : Fld := ⟨4, 1⟩
def QM_Q_FLAGS_QMFAIL : Fld := ⟨3, 1⟩
def QM_Q_FLAGS_SEQERR : Fld := ⟨2, 1⟩
def QM_Q_FLAGS_PARERR : Fld := ⟨1, 1⟩
def QM_Q_FLAGS_LOST : Fld := ⟨0, 1⟩
def DME_STATUS_CFGERR : Fld := ⟨31, 1⟩
def DME_STATUS_BUSY : Fld := ⟨0, 16⟩
def DME_CH_CTL_ARM : Fld := ⟨1, 1⟩
def DME_CH_CTL_EN : Fld := ⟨0, 1⟩
def DME_CH_STAT_ERRLIST : Fld := ⟨17, 1⟩
def DME_CH_STAT_ERRSIDE : Fld := ⟨16, 1⟩
def DME_CH_STAT_KIND : Fld := ⟨12, 4⟩
def DME_CH_STAT_SHCOLL : Fld := ⟨8, 1⟩
def DME_CH_STAT_PTFAIL : Fld := ⟨7, 1⟩
def DME_CH_STAT_ABORTED : Fld := ⟨6, 1⟩
def DME_CH_STAT_ERROR : Fld := ⟨5, 1⟩
def DME_CH_STAT_DONE_FULL : Fld := ⟨4, 1⟩
def DME_CH_STAT_DONE_HALF : Fld := ⟨3, 1⟩
def DME_CH_STAT_SHVALID : Fld := ⟨1, 1⟩
def DME_CH_STAT_BUSY : Fld := ⟨0, 1⟩
def DME_CH_SCFG_JRNEN : Fld := ⟨10, 1⟩
def DME_CH_SCFG_FULLIE : Fld := ⟨8, 1⟩
def DME_CH_SCFG_HALFIE : Fld := ⟨7, 1⟩
def DME_CH_SCFG_QWAIT : Fld := ⟨6, 1⟩
def DME_CH_SCFG_FIXMODE : Fld := ⟨4, 2⟩
def DME_CH_SCFG_LISTSIDE : Fld := ⟨2, 1⟩
def DME_CH_SCFG_PRI : Fld := ⟨0, 2⟩
def DME_CH_SLIST_LIST : Fld := ⟨0, 32⟩
def DME_CH_SFIX_FIX : Fld := ⟨0, 32⟩
def DME_CH_CFG_CFG : Fld := ⟨0, 32⟩
def DME_CH_LIST_LIST : Fld := ⟨0, 32⟩
def DME_CH_ADDR_ADDR : Fld := ⟨0, 32⟩
def DME_CH_REM_REM : Fld := ⟨0, 24⟩
def DME_CH_FIX_FIX : Fld := ⟨0, 32⟩
def DME_CH_DONEB_DONEB : Fld := ⟨0, 32⟩
def DME_CH_ERRADDR_ADDR : Fld := ⟨0, 32⟩
def TIME_CTL_SET : Fld := ⟨1, 1⟩
def TIME_CTL_HOLD : Fld := ⟨0, 1⟩
def TIME_STATUS_CFGERR : Fld := ⟨31, 1⟩
def TIME_STATUS_AOHOLD : Fld := ⟨4, 1⟩
def TIME_STATUS_STEPPED : Fld := ⟨3, 1⟩
def TIME_STATUS_MISSED : Fld := ⟨2, 1⟩
def TIME_STATUS_SKIPPED : Fld := ⟨1, 1⟩
def TIME_STATUS_LTERR : Fld := ⟨0, 1⟩
def TIME_NOW0_NS : Fld := ⟨0, 32⟩
def TIME_NOW1_SECLO : Fld := ⟨0, 32⟩
def TIME_NOW2_FRAC : Fld := ⟨16, 16⟩
def TIME_NOW2_SECHI : Fld := ⟨0, 16⟩
def TIME_SET0_NS : Fld := ⟨0, 32⟩
def TIME_SET1_SECLO : Fld := ⟨0, 32⟩
def TIME_SET2_SECHI : Fld := ⟨0, 16⟩
def TIME_STEPNS_STEP : Fld := ⟨0, 32⟩
def TIME_SRV_CFG_STEPTHR : Fld := ⟨24, 8⟩
def TIME_SRV_CFG_LOCKTHR : Fld := ⟨16, 8⟩
def TIME_SRV_CFG_KI : Fld := ⟨8, 4⟩
def TIME_SRV_CFG_KP : Fld := ⟨4, 4⟩
def TIME_SRV_CFG_SRC : Fld := ⟨0, 2⟩
def TIME_SRV_HOLD_HOTIME : Fld := ⟨0, 16⟩
def TIME_SRV_OFFS_OFFS : Fld := ⟨0, 32⟩
def TIME_SRV_STAT_REFLOST : Fld := ⟨2, 1⟩
def TIME_SRV_STAT_STATE : Fld := ⟨0, 2⟩
def TIME_SRV_LAST_OFFS : Fld := ⟨0, 32⟩
def TIME_SRV_FREQ_TRIM : Fld := ⟨0, 32⟩
def TIME_PERIOD_NS : Fld := ⟨0, 32⟩
def TIME_QLOW_LOW : Fld := ⟨0, 32⟩
def TIME_BCPOOL_COUNT : Fld := ⟨16, 11⟩
def TIME_BCPOOL_BASE : Fld := ⟨0, 10⟩
def TIME_SEQ_SEQ : Fld := ⟨0, 32⟩
def TIME_LTERR_V : Fld := ⟨31, 1⟩
def TIME_LTERR_KIND : Fld := ⟨16, 4⟩
def TIME_LTERR_INDEX : Fld := ⟨0, 10⟩
def TIME_LATEINFO_LATENESS : Fld := ⟨16, 16⟩
def TIME_LATEINFO_POLICY : Fld := ⟨12, 2⟩
def TIME_LATEINFO_INDEX : Fld := ⟨0, 10⟩
def TIME_FREE_FREE : Fld := ⟨0, 11⟩
def ACT_CTL_SAFEREF : Fld := ⟨1, 1⟩
def ACT_CTL_SAFEWARM : Fld := ⟨0, 1⟩
def ACT_STATUS_CFGERR : Fld := ⟨31, 1⟩
def ACT_STATUS_SAFEDONE : Fld := ⟨0, 1⟩
def ACT_SAFECMD_SAFE : Fld := ⟨0, 32⟩
def ACT_PINCAL_TPD : Fld := ⟨0, 8⟩
def ACT_GEN_SLOW : Fld := ⟨24, 1⟩
def ACT_GEN_PER : Fld := ⟨0, 24⟩
def ACT_MAINS_CFG_EN : Fld := ⟨31, 1⟩
def ACT_MAINS_CFG_ADV : Fld := ⟨16, 13⟩
def ACT_MAINS_CFG_ZXDLY : Fld := ⟨0, 13⟩
def ACT_MAINS_STAT_OK : Fld := ⟨31, 1⟩
def ACT_MAINS_STAT_PERIOD : Fld := ⟨0, 16⟩
def ACT_MAINS_ZX_NS : Fld := ⟨0, 30⟩
def ACT_OUT_CFG_LEVEL : Fld := ⟨20, 1⟩
def ACT_OUT_CFG_INV : Fld := ⟨16, 1⟩
def ACT_OUT_CFG_SAFE : Fld := ⟨12, 2⟩
def ACT_OUT_CFG_PHASE : Fld := ⟨8, 2⟩
def ACT_OUT_CFG_GEN : Fld := ⟨4, 2⟩
def ACT_OUT_CFG_MODE : Fld := ⟨0, 2⟩
def ACT_OUT_DUTY_DUTY : Fld := ⟨0, 17⟩
def ACT_OUT_STAT_OWNED : Fld := ⟨31, 1⟩
def ACT_OUT_STAT_PIN : Fld := ⟨30, 1⟩
def ACT_OUT_STAT_POSTED : Fld := ⟨0, 17⟩
def ETH_CTL_BRIDGE : Fld := ⟨2, 1⟩
def ETH_CTL_TXEN : Fld := ⟨1, 1⟩
def ETH_CTL_RXEN : Fld := ⟨0, 1⟩
def ETH_STATUS_CFGERR : Fld := ⟨31, 1⟩
def ETH_STATUS_RINGLOCK : Fld := ⟨3, 1⟩
def ETH_STATUS_RXOVF : Fld := ⟨2, 1⟩
def ETH_STATUS_TXERR : Fld := ⟨1, 1⟩
def ETH_STATUS_FWDDROP : Fld := ⟨0, 1⟩
def ETH_MAC_LO_A : Fld := ⟨0, 32⟩
def ETH_MAC_HI_A : Fld := ⟨0, 16⟩
def ETH_MCAST_LO_A : Fld := ⟨0, 32⟩
def ETH_MCAST_HI_EN : Fld := ⟨31, 1⟩
def ETH_MCAST_HI_A : Fld := ⟨0, 16⟩
def ETH_PTP_CFG_PTPINT : Fld := ⟨2, 1⟩
def ETH_PTP_CFG_TCMODE : Fld := ⟨0, 2⟩
def ETH_PORT_CFG_RXDLY : Fld := ⟨5, 1⟩
def ETH_PORT_CFG_TXDLY : Fld := ⟨4, 1⟩
def ETH_PORT_CFG_SPEED : Fld := ⟨1, 2⟩
def ETH_PORT_CFG_EN : Fld := ⟨0, 1⟩
def ETH_PORT_LAT_TXLAT : Fld := ⟨16, 12⟩
def ETH_PORT_LAT_RXLAT : Fld := ⟨0, 12⟩
def ETH_P2P_DELAY_DELAY : Fld := ⟨0, 32⟩
def ETH_PORT_OK_COUNT : Fld := ⟨0, 32⟩
def ETH_PORT_BAD_COUNT : Fld := ⟨0, 32⟩
def ETH_PORT_TX_COUNT : Fld := ⟨0, 32⟩
def ETH_PORT_DROP_COUNT : Fld := ⟨0, 32⟩
def ETH_RX_BASE_BASE : Fld := ⟨0, 32⟩
def ETH_TX_BASE_BASE : Fld := ⟨0, 32⟩
def ETH_RX_CFG_HEAD : Fld := ⟨16, 8⟩
def ETH_RX_CFG_COUNT : Fld := ⟨0, 9⟩
def ETH_TX_CFG_HEAD : Fld := ⟨16, 8⟩
def ETH_TX_CFG_COUNT : Fld := ⟨0, 9⟩
def ETH_TX_TAIL_TAIL : Fld := ⟨0, 8⟩
def ETH_MDIO_START : Fld := ⟨31, 1⟩
def ETH_MDIO_BUSY : Fld := ⟨30, 1⟩
def ETH_MDIO_OP : Fld := ⟨28, 2⟩
def ETH_MDIO_NOACK : Fld := ⟨27, 1⟩
def ETH_MDIO_PHYAD : Fld := ⟨21, 5⟩
def ETH_MDIO_REGAD : Fld := ⟨16, 5⟩
def ETH_MDIO_DATA : Fld := ⟨0, 16⟩
def CAER_ID_UPLINK : Fld := ⟨5, 1⟩
def CAER_ID_HUB : Fld := ⟨0, 4⟩
def CAER_STATUS_CFGERR : Fld := ⟨31, 1⟩
def CAER_STATUS_IDLOCK : Fld := ⟨4, 1⟩
def CAER_STATUS_NODEST : Fld := ⟨3, 1⟩
def CAER_STATUS_LOOP : Fld := ⟨2, 1⟩
def CAER_STATUS_CMDREF : Fld := ⟨1, 1⟩
def CAER_STATUS_STREAMGAP : Fld := ⟨0, 1⟩
def CAER_MSGTX_DATA_WORD : Fld := ⟨0, 32⟩
def CAER_MSGTX_HUB_HUB : Fld := ⟨0, 4⟩
def CAER_MBOX_STAT_OVR : Fld := ⟨16, 16⟩
def CAER_MBOX_STAT_NEW : Fld := ⟨0, 16⟩
def CAER_CMD_KEY : Fld := ⟨16, 16⟩
def CAER_CMD_ALL : Fld := ⟨8, 1⟩
def CAER_CMD_HUB : Fld := ⟨0, 4⟩
def CAER_PAIR_CFG_TAKE : Fld := ⟨31, 1⟩
def CAER_PAIR_CFG_RELEASE : Fld := ⟨30, 1⟩
def CAER_PAIR_CFG_RETRY : Fld := ⟨29, 1⟩
def CAER_PAIR_CFG_AUTOTK : Fld := ⟨4, 1⟩
def CAER_PAIR_CFG_PLINK : Fld := ⟨1, 1⟩
def CAER_PAIR_CFG_PEN : Fld := ⟨0, 1⟩
def CAER_PAIR_STAT_PHUB : Fld := ⟨12, 4⟩
def CAER_PAIR_STAT_TKDRV : Fld := ⟨10, 1⟩
def CAER_PAIR_STAT_TKIN : Fld := ⟨9, 1⟩
def CAER_PAIR_STAT_PAIROK : Fld := ⟨8, 1⟩
def CAER_PAIR_STAT_STATE : Fld := ⟨0, 3⟩
def CAER_PEXP_CFG_TRIG : Fld := ⟨0, 2⟩
def CAER_LINK_CFG_SYNCRATE : Fld := ⟨4, 2⟩
def CAER_LINK_CFG_EN : Fld := ⟨0, 1⟩
def CAER_LINK_STAT_PEERPEN : Fld := ⟨13, 1⟩
def CAER_LINK_STAT_PEERUP : Fld := ⟨12, 1⟩
def CAER_LINK_STAT_PEERHUB : Fld := ⟨8, 4⟩
def CAER_LINK_STAT_CODE : Fld := ⟨4, 3⟩
def CAER_LINK_STAT_LOCK : Fld := ⟨3, 1⟩
def CAER_LINK_STAT_STATE : Fld := ⟨0, 3⟩
def CAER_LINK_ASYM_ASYM : Fld := ⟨0, 16⟩
def CAER_LINK_DELAY_DELAY : Fld := ⟨0, 32⟩
def CAER_LINK_OFFS_OFFS : Fld := ⟨0, 32⟩
def CAER_LINK_ERR_CRC : Fld := ⟨24, 8⟩
def CAER_LINK_ERR_RETRY : Fld := ⟨16, 8⟩
def CAER_LINK_ERR_LOSTSYNC : Fld := ⟨8, 8⟩
def CAER_LINK_ERR_DROP : Fld := ⟨0, 8⟩
def CAER_MBOX_WORD : Fld := ⟨0, 32⟩
def CAER_QFWD_EN : Fld := ⟨31, 1⟩
def CAER_QFWD_DSTQ : Fld := ⟨24, 6⟩
def CAER_QFWD_DSTHUB : Fld := ⟨16, 4⟩
def CAER_QFWD_SRCQ : Fld := ⟨0, 6⟩
def CAER_PEXP_EN : Fld := ⟨31, 1⟩
def CAER_PEXP_BCAST : Fld := ⟨30, 1⟩
def CAER_PEXP_DSTHUB : Fld := ⟨24, 4⟩
def CAER_PEXP_IDX : Fld := ⟨16, 6⟩
def CAER_PEXP_SEL : Fld := ⟨0, 8⟩
def TWP_STATUS_CFGERR : Fld := ⟨31, 1⟩
def TWP_STATUS_CMDCOLL : Fld := ⟨0, 4⟩
def TWP_CFG_TOUT : Fld := ⟨24, 8⟩
def TWP_CFG_TMASK : Fld := ⟨16, 3⟩
def TWP_CFG_TADDR : Fld := ⟨8, 7⟩
def TWP_CFG_STRETCHSU : Fld := ⟨6, 1⟩
def TWP_CFG_PTRW : Fld := ⟨5, 1⟩
def TWP_CFG_ADDRMODE : Fld := ⟨4, 1⟩
def TWP_CFG_AUTOREC : Fld := ⟨3, 1⟩
def TWP_CFG_ROLE : Fld := ⟨1, 2⟩
def TWP_CFG_EN : Fld := ⟨0, 1⟩
def TWP_TIMA_SCLL : Fld := ⟨16, 10⟩
def TWP_TIMA_SCLH : Fld := ⟨0, 10⟩
def TWP_TIMB_HOLD : Fld := ⟨16, 8⟩
def TWP_TIMB_SETUP : Fld := ⟨0, 8⟩
def TWP_WBASE_BASE : Fld := ⟨0, 20⟩
def TWP_WSIZE_SIZEM1 : Fld := ⟨0, 16⟩
def TWP_WLIM_WRLIM : Fld := ⟨0, 17⟩
def TWP_TSTAT_TGTTO : Fld := ⟨31, 1⟩
def TWP_TSTAT_PTRERR : Fld := ⟨30, 1⟩
def TWP_TSTAT_WRREJ : Fld := ⟨29, 1⟩
def TWP_TSTAT_WRAP : Fld := ⟨28, 1⟩
def TWP_TSTAT_TECC : Fld := ⟨27, 1⟩
def TWP_TSTAT_RCNT : Fld := ⟨12, 12⟩
def TWP_TSTAT_WCNT : Fld := ⟨0, 12⟩
def TWP_TPTR_PTR : Fld := ⟨0, 16⟩
def TWP_CCMD_GO : Fld := ⟨31, 1⟩
def TWP_CCMD_ABORT : Fld := ⟨30, 1⟩
def TWP_CCMD_RECOVER : Fld := ⟨29, 1⟩
def TWP_CCMD_ADDR : Fld := ⟨16, 7⟩
def TWP_CCMD_RLEN : Fld := ⟨8, 8⟩
def TWP_CCMD_WLEN : Fld := ⟨0, 8⟩
def TWP_CBUF_BASE : Fld := ⟨0, 20⟩
def TWP_CSTAT_BUSY : Fld := ⟨31, 1⟩
def TWP_CSTAT_DONE : Fld := ⟨30, 1⟩
def TWP_CSTAT_RESULT : Fld := ⟨24, 4⟩
def TWP_CSTAT_COUNT : Fld := ⟨0, 9⟩
def TWP_BUS_PEND : Fld := ⟨3, 1⟩
def TWP_BUS_FREE : Fld := ⟨2, 1⟩
def TWP_BUS_SCL : Fld := ⟨1, 1⟩
def TWP_BUS_SDA : Fld := ⟨0, 1⟩
def BOOT_STATUS_CFGERR : Fld := ⟨31, 1⟩
def BOOT_STATUS_FAILB : Fld := ⟨24, 4⟩
def BOOT_STATUS_FAILA : Fld := ⟨20, 4⟩
def BOOT_STATUS_RETBAD : Fld := ⟨15, 1⟩
def BOOT_STATUS_FALLBACK : Fld := ⟨14, 1⟩
def BOOT_STATUS_NOSFDP : Fld := ⟨13, 1⟩
def BOOT_STATUS_TRIAL : Fld := ⟨12, 1⟩
def BOOT_STATUS_RETNONE : Fld := ⟨11, 1⟩
def BOOT_STATUS_RETVALID : Fld := ⟨10, 1⟩
def BOOT_STATUS_FROM : Fld := ⟨8, 2⟩
def BOOT_STATUS_PHASE : Fld := ⟨0, 4⟩
def BOOT_SEQ_SEQ : Fld := ⟨0, 32⟩
def BOOT_VER_VERSION : Fld := ⟨0, 32⟩
def BOOT_INFO_FLOOR : Fld := ⟨16, 6⟩
def BOOT_INFO_ROLLBACK : Fld := ⟨8, 6⟩
def BOOT_INFO_ADDR4 : Fld := ⟨3, 1⟩
def BOOT_INFO_MODE : Fld := ⟨0, 3⟩
def BOOT_DENS_BYTES : Fld := ⟨0, 32⟩
def BOOT_COMMIT_KEY : Fld := ⟨16, 16⟩
def BOOT_COMMIT_COMMIT : Fld := ⟨0, 1⟩
def BOOT_UPDATE_KEY : Fld := ⟨16, 16⟩
def BOOT_UPDATE_FLASH : Fld := ⟨0, 1⟩
def BOOT_RET0_RETSEQ : Fld := ⟨0, 32⟩
def BOOT_RET1_RETLINES : Fld := ⟨0, 14⟩
def BOOT_FCMD_GO : Fld := ⟨31, 1⟩
def BOOT_FCMD_LANES : Fld := ⟨26, 2⟩
def BOOT_FCMD_ADDR4 : Fld := ⟨25, 1⟩
def BOOT_FCMD_ADDREN : Fld := ⟨24, 1⟩
def BOOT_FCMD_WRITE : Fld := ⟨23, 1⟩
def BOOT_FCMD_WREN : Fld := ⟨22, 1⟩
def BOOT_FCMD_DUMMY : Fld := ⟨16, 4⟩
def BOOT_FCMD_INSTR : Fld := ⟨0, 8⟩
def BOOT_FADDR_ADDR : Fld := ⟨0, 32⟩
def BOOT_FLEN_LEN : Fld := ⟨0, 9⟩
def BOOT_FBUF_BASE : Fld := ⟨0, 20⟩
def BOOT_FSTAT_BUSY : Fld := ⟨31, 1⟩
def BOOT_FSTAT_DONE : Fld := ⟨30, 1⟩
def BOOT_FSTAT_RESULT : Fld := ⟨24, 4⟩
def BOOT_FSTAT_SR : Fld := ⟨0, 8⟩
def JRN_STATUS_CFGERR : Fld := ⟨31, 1⟩
def JRN_STATUS_NVFAULT : Fld := ⟨3, 1⟩
def JRN_STATUS_REFUSED : Fld := ⟨2, 1⟩
def JRN_STATUS_REPLAYING : Fld := ⟨1, 1⟩
def JRN_STATUS_FLUSHBUSY : Fld := ⟨0, 1⟩
def JRN_POLICY_FLUSHIDLE : Fld := ⟨24, 8⟩
def JRN_POLICY_RLIMIT : Fld := ⟨16, 4⟩
def JRN_POLICY_KINDEN : Fld := ⟨1, 6⟩
def JRN_PCFG_PLINES : Fld := ⟨0, 14⟩
def JRN_JSEQ_JSEQ : Fld := ⟨0, 32⟩
def JRN_FILL_UNFL : Fld := ⟨16, 7⟩
def JRN_FILL_RINGLINES : Fld := ⟨0, 14⟩
def JRN_HEAD_BAD : Fld := ⟨16, 14⟩
def JRN_HEAD_LINE : Fld := ⟨0, 14⟩
def JRN_RSTAT_MODE : Fld := ⟨30, 2⟩
def JRN_RSTAT_WHY : Fld := ⟨24, 4⟩
def JRN_RSTAT_CATCHUP : Fld := ⟨20, 4⟩
def JRN_RSTAT_TEUOLD : Fld := ⟨19, 1⟩
def JRN_RSTAT_TEUFAIL : Fld := ⟨18, 1⟩
def JRN_RSTAT_TEU : Fld := ⟨17, 1⟩
def JRN_RSTAT_CORES : Fld := ⟨0, 8⟩
def JRN_RQ0_RQ : Fld := ⟨0, 32⟩
def JRN_RQ1_RQ : Fld := ⟨0, 32⟩
def JRN_RDMA_RDMA : Fld := ⟨0, 16⟩
def JRN_SUP_LISTFULL : Fld := ⟨16, 8⟩
def JRN_SUP_DIVERGE : Fld := ⟨8, 8⟩
def JRN_SUP_ACTIVE : Fld := ⟨0, 8⟩
def JRN_PSTAT_PVALID : Fld := ⟨31, 1⟩
def JRN_PSTAT_PGAP : Fld := ⟨30, 1⟩
def JRN_PSTAT_FROZEN : Fld := ⟨29, 1⟩
def JRN_PSTAT_BASELINE : Fld := ⟨28, 1⟩
def JRN_PSTAT_PHEAD : Fld := ⟨0, 14⟩
def JRN_PLAST_JSEQ : Fld := ⟨0, 32⟩
def JRN_CKQ0_Q : Fld := ⟨0, 32⟩
def JRN_CKQ1_Q : Fld := ⟨0, 32⟩
def JRN_RDCTL_GO : Fld := ⟨31, 1⟩
def JRN_RDCTL_BUSY : Fld := ⟨30, 1⟩
def JRN_RDCTL_ERR : Fld := ⟨29, 1⟩
def JRN_RDCTL_LINE : Fld := ⟨0, 14⟩
def JRN_RDDATA_DATA : Fld := ⟨0, 32⟩
def SYS_CAPS_NCAER : Fld := ⟨30, 2⟩
def SYS_CAPS_NETH : Fld := ⟨28, 2⟩
def SYS_CAPS_TEUK : Fld := ⟨24, 4⟩
def SYS_CAPS_NACT : Fld := ⟨16, 6⟩
def SYS_CAPS_NCORE : Fld := ⟨8, 4⟩
def SYS_CAPS_MIRROR : Fld := ⟨7, 1⟩
def SYS_CAPS_NCH : Fld := ⟨0, 7⟩
def SYS_UNITS_PRESENT : Fld := ⟨0, 17⟩
def LCS_STATE_PEND : Fld := ⟨24, 3⟩
def LCS_STATE_ROLES : Fld := ⟨16, 5⟩
def LCS_STATE_STATE : Fld := ⟨0, 3⟩
def LCS_STATUS_CFGERR : Fld := ⟨31, 1⟩
def LCS_STATUS_TOKFAIL : Fld := ⟨8, 4⟩
def LCS_STATUS_HELDRET : Fld := ⟨1, 1⟩
def LCS_STATUS_DENIED : Fld := ⟨0, 1⟩
def LCS_DEVID_ID : Fld := ⟨0, 32⟩
def LCS_KEYS_VENDOR : Fld := ⟨8, 1⟩
def LCS_KEYS_REVOKED : Fld := ⟨4, 4⟩
def LCS_KEYS_PROG : Fld := ⟨0, 4⟩
def LCS_CMD_KEY : Fld := ⟨16, 16⟩
def LCS_CMD_ENDSVC : Fld := ⟨1, 1⟩
def LCS_CMD_LOCK : Fld := ⟨0, 1⟩
def LCS_SVC_LEFT : Fld := ⟨16, 9⟩
def LCS_SVC_SLOT : Fld := ⟨0, 2⟩
def LCS_USB_CONFIGURED : Fld := ⟨3, 1⟩
def LCS_USB_ATTACHED : Fld := ⟨2, 1⟩
def LCS_USB_VBUS : Fld := ⟨1, 1⟩
def LCS_USB_EN : Fld := ⟨0, 1⟩
def LCS_USBID_PID : Fld := ⟨16, 16⟩
def LCS_USBID_VID : Fld := ⟨0, 16⟩

end Sys2Proof.Machine
end

