-- ==== Sys2Proof/Machine/RegTable.lean ====
section
/-! DEFINITION. The register tables of the unit chapters as data: for every register its address, stride and count, and for
every field its access code (R9), its reset value (R14) and the encodings that are reserved or refused (R12). -/

namespace Sys2Proof.Machine

/-- The access codes of R9. -/
inductive Acc where
  | rw | ro | wo | w1c | w1s | rc
  deriving DecidableEq, Repr

/-- One row of a register table: the field, its access code, its reset value, and the closed ranges of its reserved or
refused encodings. -/
structure FieldSpec where
  fld : Fld
  acc : Acc
  rst : Nat
  resv : List (Nat × Nat)
  deriving DecidableEq, Repr

/-- One register table: `count` registers from `base`, `stride` bytes apart. -/
structure RegSpec where
  base : Nat
  stride : Nat
  count : Nat
  fields : List FieldSpec
  deriving DecidableEq, Repr

/-- The register tables of SYS. -/
def sysRegs : List RegSpec := [
  ⟨0x40000010, 4, 1, [⟨⟨31, 1⟩, .w1c, 0x0, []⟩, ⟨⟨11, 1⟩, .w1c, 0x0, []⟩, ⟨⟨10, 1⟩, .w1c, 0x0, []⟩, ⟨⟨9, 1⟩, .ro, 0x0, []⟩, ⟨⟨8, 1⟩, .w1c, 0x0, []⟩, ⟨⟨7, 1⟩, .w1c, 0x0, []⟩, ⟨⟨6, 1⟩, .ro, 0x0, []⟩, ⟨⟨5, 1⟩, .ro, 0x0, []⟩, ⟨⟨4, 1⟩, .ro, 0x0, []⟩, ⟨⟨3, 1⟩, .w1c, 0x0, []⟩, ⟨⟨2, 1⟩, .ro, 0x0, []⟩, ⟨⟨1, 1⟩, .ro, 0x0, []⟩, ⟨⟨0, 1⟩, .ro, 0x0, []⟩]⟩,  -- SYS_STATUS
  ⟨0x40000014, 4, 1, [⟨⟨16, 8⟩, .ro, 0x0, []⟩, ⟨⟨12, 3⟩, .ro, 0x0, []⟩, ⟨⟨9, 1⟩, .w1c, 0x0, []⟩, ⟨⟨8, 1⟩, .w1c, 0x0, []⟩, ⟨⟨7, 1⟩, .w1c, 0x0, []⟩, ⟨⟨6, 1⟩, .w1c, 0x0, []⟩, ⟨⟨5, 1⟩, .w1c, 0x0, []⟩, ⟨⟨4, 1⟩, .w1c, 0x0, []⟩, ⟨⟨3, 1⟩, .w1c, 0x0, []⟩, ⟨⟨2, 1⟩, .w1c, 0x0, []⟩, ⟨⟨1, 1⟩, .w1c, 0x0, []⟩, ⟨⟨0, 1⟩, .w1c, 0x0, []⟩]⟩,  -- SYS_RESETCAUSE
  ⟨0x40000018, 4, 1, [⟨⟨16, 16⟩, .wo, 0x0, []⟩, ⟨⟨0, 2⟩, .wo, 0x0, [(3, 3)]⟩]⟩,  -- SYS_RSTCTL
  ⟨0x40000020, 4, 1, [⟨⟨24, 8⟩, .ro, 0x0, []⟩, ⟨⟨16, 8⟩, .ro, 0x0, []⟩, ⟨⟨8, 8⟩, .ro, 0x0, []⟩, ⟨⟨0, 8⟩, .ro, 0x0, []⟩]⟩,  -- SYS_DIETEMP
  ⟨0x40000024, 4, 1, [⟨⟨8, 4⟩, .rw, 0x5, []⟩, ⟨⟨0, 8⟩, .rw, 0xcc, []⟩]⟩,  -- SYS_TEMPCFG
  ⟨0x40000028, 4, 1, [⟨⟨0, 3⟩, .rw, 0x0, [(5, 7)]⟩]⟩,  -- SYS_CLKOUT
  ⟨0x40000030, 4, 1, [⟨⟨16, 16⟩, .ro, 0x0, []⟩, ⟨⟨0, 16⟩, .ro, 0x0, []⟩]⟩,  -- SYS_ECC_CNT
  ⟨0x40000034, 4, 1, [⟨⟨0, 32⟩, .ro, 0x0, []⟩]⟩,  -- SYS_ECC_ADDR
  ⟨0x40000038, 4, 1, [⟨⟨31, 1⟩, .ro, 0x0, []⟩, ⟨⟨8, 4⟩, .ro, 0x0, []⟩, ⟨⟨0, 8⟩, .ro, 0x0, []⟩]⟩,  -- SYS_ECC_INFO
  ⟨0x4000003c, 4, 1, [⟨⟨0, 1⟩, .wo, 0x0, []⟩]⟩,  -- SYS_ECC_CTL
  ⟨0x40000040, 4, 1, [⟨⟨0, 15⟩, .rw, 0x0, []⟩]⟩,  -- SYS_GPIO_DIR
  ⟨0x40000044, 4, 1, [⟨⟨0, 15⟩, .rw, 0x0, []⟩]⟩,  -- SYS_GPIO_OUT
  ⟨0x40000048, 4, 1, [⟨⟨0, 15⟩, .wo, 0x0, []⟩]⟩,  -- SYS_GPIO_SET
  ⟨0x4000004c, 4, 1, [⟨⟨0, 15⟩, .wo, 0x0, []⟩]⟩,  -- SYS_GPIO_CLR
  ⟨0x40000050, 4, 1, [⟨⟨31, 1⟩, .ro, 0x0, []⟩, ⟨⟨0, 15⟩, .ro, 0x0, []⟩]⟩,  -- SYS_GPIO_IN
  ⟨0x40000008, 4, 1, [⟨⟨30, 2⟩, .ro, 0x0, []⟩, ⟨⟨28, 2⟩, .ro, 0x0, []⟩, ⟨⟨24, 4⟩, .ro, 0x0, []⟩, ⟨⟨16, 6⟩, .ro, 0x0, []⟩, ⟨⟨8, 4⟩, .ro, 0x0, []⟩, ⟨⟨7, 1⟩, .ro, 0x0, []⟩, ⟨⟨0, 7⟩, .ro, 0x0, []⟩]⟩,  -- SYS_CAPS
  ⟨0x40000004, 4, 1, [⟨⟨0, 17⟩, .ro, 0x0, []⟩]⟩  -- SYS_UNITS
]

/-- The register tables of AFE. -/
def afeRegs : List RegSpec := [
  ⟨0x40010000, 4, 1, [⟨⟨0, 1⟩, .rw, 0x1, []⟩]⟩,  -- AFE_CTRL
  ⟨0x40010004, 4, 1, [⟨⟨31, 1⟩, .w1c, 0x0, []⟩, ⟨⟨4, 1⟩, .w1c, 0x0, []⟩, ⟨⟨3, 1⟩, .w1c, 0x0, []⟩, ⟨⟨2, 1⟩, .w1c, 0x0, []⟩, ⟨⟨1, 1⟩, .ro, 0x0, []⟩, ⟨⟨0, 1⟩, .ro, 0x0, []⟩]⟩,  -- AFE_STATUS
  ⟨0x40010020, 4, 1, [⟨⟨31, 1⟩, .wo, 0x0, []⟩, ⟨⟨30, 1⟩, .wo, 0x0, []⟩, ⟨⟨8, 8⟩, .rw, 0xa, [(0, 0)]⟩, ⟨⟨4, 2⟩, .rw, 0x1, [(3, 3)]⟩, ⟨⟨2, 1⟩, .rw, 0x1, []⟩, ⟨⟨0, 2⟩, .rw, 0x1, [(0, 0), (3, 3)]⟩]⟩,  -- AFE_TEST_CTL
  ⟨0x40010024, 4, 3, [⟨⟨0, 32⟩, .rw, 0x0, []⟩]⟩,  -- AFE_TEST_MASK
  ⟨0x40010030, 4, 1, [⟨⟨0, 7⟩, .ro, 0x7f, []⟩]⟩,  -- AFE_TEST_POS
  ⟨0x40010040, 4, 3, [⟨⟨0, 32⟩, .w1c, 0x0, []⟩]⟩,  -- AFE_OVL
  ⟨0x40010080, 4, 16, [⟨⟨8, 7⟩, .rw, 0x0, []⟩, ⟨⟨4, 2⟩, .rw, 0x0, [(3, 3)]⟩, ⟨⟨0, 3⟩, .rw, 0x0, []⟩]⟩,  -- AFE_EXC_CFG
  ⟨0x400100c0, 4, 16, [⟨⟨0, 16⟩, .ro, 0x0, []⟩]⟩,  -- AFE_EXC_CAL
  ⟨0x40010100, 4, 8, [⟨⟨5, 2⟩, .rw, 0x0, [(3, 3)]⟩, ⟨⟨4, 1⟩, .rw, 0x0, []⟩, ⟨⟨1, 3⟩, .rw, 0x0, [(3, 7)]⟩, ⟨⟨0, 1⟩, .rw, 0x0, []⟩]⟩,  -- AFE_WATCH_CFG
  ⟨0x40010400, 4, 96, [⟨⟨12, 3⟩, .rw, 0x0, [(4, 7)]⟩, ⟨⟨8, 2⟩, .rw, 0x0, [(3, 3)]⟩, ⟨⟨5, 1⟩, .rw, 0x0, []⟩, ⟨⟨4, 1⟩, .rw, 0x0, []⟩, ⟨⟨1, 3⟩, .rw, 0x0, [(5, 7)]⟩, ⟨⟨0, 1⟩, .rw, 0x0, []⟩]⟩,  -- AFE_CH_CFG
  ⟨0x40010600, 4, 96, [⟨⟨18, 1⟩, .ro, 0x0, []⟩, ⟨⟨17, 1⟩, .ro, 0x0, []⟩, ⟨⟨16, 1⟩, .ro, 0x0, []⟩, ⟨⟨0, 16⟩, .ro, 0x0, []⟩]⟩  -- AFE_TEST_RES
]

/-- The register tables of FLT. -/
def fltRegs : List RegSpec := [
  ⟨0x40020004, 4, 1, [⟨⟨31, 1⟩, .w1c, 0x0, []⟩, ⟨⟨4, 1⟩, .w1c, 0x0, []⟩, ⟨⟨3, 1⟩, .w1c, 0x0, []⟩, ⟨⟨2, 1⟩, .w1c, 0x0, []⟩, ⟨⟨1, 1⟩, .w1c, 0x0, []⟩]⟩,  -- FLT_STATUS
  ⟨0x40020010, 4, 1, [⟨⟨0, 16⟩, .rw, 0x0, []⟩]⟩,  -- FLT_SYNC_CTL
  ⟨0x40020014, 4, 1, [⟨⟨0, 32⟩, .rw, 0x190000, []⟩]⟩,  -- FLT_CJFIX
  ⟨0x40020018, 4, 1, [⟨⟨0, 22⟩, .rw, 0x2625a0, [(0, 2399999), (2600001, 4194303)]⟩]⟩,  -- FLT_EXTREF
  ⟨0x40020040, 8, 8, [⟨⟨8, 8⟩, .rw, 0x0, []⟩, ⟨⟨2, 3⟩, .rw, 0x5, []⟩, ⟨⟨0, 2⟩, .rw, 0x0, [(3, 3)]⟩]⟩,  -- FLT_PROF_A
  ⟨0x40020044, 8, 8, [⟨⟨16, 13⟩, .rw, 0x1, []⟩, ⟨⟨0, 13⟩, .rw, 0x1, []⟩]⟩,  -- FLT_PROF_B
  ⟨0x40020400, 4, 96, [⟨⟨20, 7⟩, .rw, 0x0, []⟩, ⟨⟨18, 2⟩, .rw, 0x0, [(3, 3)]⟩, ⟨⟨12, 4⟩, .rw, 0x0, []⟩, ⟨⟨8, 4⟩, .rw, 0x0, [(11, 15)]⟩, ⟨⟨4, 4⟩, .rw, 0x0, []⟩, ⟨⟨0, 3⟩, .rw, 0x0, []⟩]⟩,  -- FLT_CH_CFG
  ⟨0x40020600, 4, 96, [⟨⟨8, 1⟩, .rw, 0x0, []⟩, ⟨⟨0, 5⟩, .rw, 0x0, []⟩]⟩,  -- FLT_CH_ROUTE
  ⟨0x40020800, 4, 96, [⟨⟨11, 1⟩, .ro, 0x0, []⟩, ⟨⟨8, 3⟩, .ro, 0x0, []⟩, ⟨⟨4, 2⟩, .ro, 0x0, []⟩, ⟨⟨0, 3⟩, .ro, 0x0, []⟩]⟩,  -- FLT_CH_STAT
  ⟨0x40020c00, 4, 96, [⟨⟨0, 24⟩, .rw, 0x0, []⟩]⟩  -- FLT_CH_OFFS
]

/-- The register tables of EVT. -/
def evtRegs : List RegSpec := [
  ⟨0x40030004, 4, 1, [⟨⟨31, 1⟩, .w1c, 0x0, []⟩]⟩,  -- EVT_STATUS
  ⟨0x40030010, 4, 3, [⟨⟨0, 32⟩, .ro, 0x0, []⟩]⟩,  -- EVT_ACTIVE
  ⟨0x40030400, 4, 96, [⟨⟨24, 8⟩, .rw, 0x1, [(0, 0)]⟩, ⟨⟨16, 4⟩, .rw, 0x0, []⟩, ⟨⟨13, 2⟩, .rw, 0x3, [(0, 0)]⟩, ⟨⟨12, 1⟩, .rw, 0x0, []⟩, ⟨⟨11, 1⟩, .rw, 0x0, []⟩, ⟨⟨10, 1⟩, .rw, 0x0, []⟩, ⟨⟨9, 1⟩, .rw, 0x0, []⟩, ⟨⟨8, 1⟩, .rw, 0x0, []⟩, ⟨⟨0, 8⟩, .rw, 0x0, []⟩]⟩,  -- EVT_CFG
  ⟨0x40030800, 4, 96, [⟨⟨0, 32⟩, .rw, 0x7fffffff, []⟩]⟩,  -- EVT_HI
  ⟨0x40030c00, 4, 96, [⟨⟨0, 32⟩, .rw, 0x80000000, []⟩]⟩,  -- EVT_LO
  ⟨0x40031000, 4, 96, [⟨⟨0, 24⟩, .rw, 0x0, []⟩]⟩,  -- EVT_HYST
  ⟨0x40031400, 4, 96, [⟨⟨0, 31⟩, .rw, 0x7fffffff, []⟩]⟩,  -- EVT_RATE
  ⟨0x40031800, 4, 96, [⟨⟨16, 16⟩, .rw, 0xffff, [(0, 0)]⟩, ⟨⟨0, 16⟩, .rw, 0x0, []⟩]⟩,  -- EVT_STUCK
  ⟨0x40031c00, 4, 96, [⟨⟨8, 5⟩, .ro, 0x1f, []⟩, ⟨⟨4, 1⟩, .w1c, 0x0, []⟩, ⟨⟨3, 1⟩, .w1c, 0x0, []⟩, ⟨⟨2, 1⟩, .w1c, 0x0, []⟩, ⟨⟨1, 1⟩, .w1c, 0x0, []⟩, ⟨⟨0, 1⟩, .w1c, 0x0, []⟩]⟩  -- EVT_FLAG
]

/-- The register tables of TEU. -/
def teuRegs : List RegSpec := [
  ⟨0x40040000, 4, 1, [⟨⟨16, 1⟩, .wo, 0x0, []⟩, ⟨⟨9, 1⟩, .wo, 0x0, []⟩, ⟨⟨8, 1⟩, .wo, 0x0, []⟩, ⟨⟨0, 1⟩, .rw, 0x0, []⟩]⟩,  -- TEU_CTL
  ⟨0x40040004, 4, 1, [⟨⟨31, 1⟩, .w1c, 0x0, []⟩, ⟨⟨19, 1⟩, .ro, 0x0, []⟩, ⟨⟨18, 1⟩, .ro, 0x0, []⟩, ⟨⟨17, 1⟩, .ro, 0x0, []⟩, ⟨⟨16, 1⟩, .ro, 0x0, []⟩, ⟨⟨15, 1⟩, .ro, 0x0, []⟩, ⟨⟨14, 1⟩, .ro, 0x0, []⟩, ⟨⟨13, 1⟩, .ro, 0x0, []⟩, ⟨⟨12, 1⟩, .ro, 0x0, []⟩, ⟨⟨7, 1⟩, .w1c, 0x0, []⟩, ⟨⟨6, 1⟩, .w1c, 0x0, []⟩, ⟨⟨5, 1⟩, .w1c, 0x0, []⟩, ⟨⟨4, 1⟩, .w1c, 0x0, []⟩, ⟨⟨3, 1⟩, .w1c, 0x0, []⟩, ⟨⟨2, 1⟩, .w1c, 0x0, []⟩, ⟨⟨1, 1⟩, .w1c, 0x0, []⟩, ⟨⟨0, 1⟩, .w1c, 0x0, []⟩]⟩,  -- TEU_STATUS
  ⟨0x40040008, 4, 1, [⟨⟨16, 8⟩, .rw, 0xa, []⟩, ⟨⟨8, 8⟩, .rw, 0x0, []⟩, ⟨⟨0, 8⟩, .rw, 0x0, []⟩]⟩,  -- TEU_CFG
  ⟨0x4004000c, 4, 1, [⟨⟨0, 1⟩, .wo, 0x0, []⟩]⟩,  -- TEU_SWAP
  ⟨0x40040010, 4, 2, [⟨⟨16, 10⟩, .rw, 0x0, []⟩, ⟨⟨0, 14⟩, .rw, 0x0, []⟩]⟩,  -- TEU_BANK_CFG
  ⟨0x40040018, 4, 2, [⟨⟨31, 1⟩, .ro, 0x0, []⟩, ⟨⟨28, 3⟩, .ro, 0x7, []⟩, ⟨⟨0, 14⟩, .ro, 0x0, []⟩]⟩,  -- TEU_CHECK
  ⟨0x40040020, 4, 1, [⟨⟨0, 32⟩, .ro, 0x0, []⟩]⟩,  -- TEU_STEPCNT
  ⟨0x40040024, 4, 1, [⟨⟨16, 16⟩, .ro, 0x0, []⟩, ⟨⟨0, 16⟩, .ro, 0x0, []⟩]⟩,  -- TEU_STEPTIME
  ⟨0x40040028, 4, 1, [⟨⟨31, 1⟩, .ro, 0x0, []⟩, ⟨⟨10, 2⟩, .ro, 0x0, []⟩, ⟨⟨0, 10⟩, .ro, 0x0, []⟩]⟩,  -- TEU_SATROW
  ⟨0x4004002c, 4, 1, [⟨⟨8, 1⟩, .rw, 0x0, []⟩, ⟨⟨0, 5⟩, .rw, 0x0, []⟩]⟩,  -- TEU_PROUTE
  ⟨0x40040030, 4, 3, [⟨⟨0, 32⟩, .rw, 0xffffffff, []⟩]⟩,  -- TEU_CMASK
  ⟨0x40040040, 4, 3, [⟨⟨0, 32⟩, .ro, 0x0, []⟩]⟩,  -- TEU_INVALID
  ⟨0x40040050, 4, 2, [⟨⟨0, 32⟩, .rw, 0x0, []⟩]⟩,  -- TEU_PMASK
  ⟨0x40040100, 4, 64, [⟨⟨0, 32⟩, .rw, 0x0, []⟩]⟩,  -- TEU_PEER
  ⟨0x40040200, 4, 64, [⟨⟨0, 32⟩, .ro, 0x0, []⟩]⟩,  -- TEU_PROBE
  ⟨0x40040300, 4, 96, [⟨⟨0, 32⟩, .ro, 0x0, []⟩]⟩  -- TEU_RESID
]

/-- The register tables of CORE. -/
def coreRegs : List RegSpec := [
  ⟨0x40110004, 4, 1, [⟨⟨31, 1⟩, .w1c, 0x0, []⟩, ⟨⟨24, 1⟩, .w1c, 0x0, []⟩, ⟨⟨16, 8⟩, .ro, 0x0, []⟩, ⟨⟨8, 8⟩, .ro, 0x0, []⟩, ⟨⟨0, 8⟩, .ro, 0x0, []⟩]⟩,  -- CORE_STATUS
  ⟨0x40110008, 4, 1, [⟨⟨0, 8⟩, .rw, 0x0, []⟩]⟩,  -- CORE_ESC
  ⟨0x40110010, 4, 1, [⟨⟨0, 16⟩, .w1s, 0x0, []⟩]⟩,  -- CORE_DBELL_SET
  ⟨0x40110014, 4, 1, [⟨⟨0, 16⟩, .w1c, 0x0, []⟩]⟩,  -- CORE_DBELL_CLR
  ⟨0x40110018, 4, 1, [⟨⟨0, 9⟩, .wo, 0x0, []⟩]⟩,  -- CORE_EVSET
  ⟨0x40110040, 4, 16, [⟨⟨0, 9⟩, .rw, 0x0, []⟩]⟩,  -- CORE_DBELL_EVMASK
  ⟨0x40110100, 32, 8, [⟨⟨8, 8⟩, .rw, 0x3c, []⟩, ⟨⟨2, 1⟩, .wo, 0x0, []⟩, ⟨⟨0, 1⟩, .rw, 0x0, []⟩]⟩,  -- CORE_CTL
  ⟨0x40110104, 32, 8, [⟨⟨0, 32⟩, .rw, 0x0, []⟩]⟩,  -- CORE_START
  ⟨0x40110108, 32, 8, [⟨⟨8, 4⟩, .ro, 0x0, []⟩, ⟨⟨0, 4⟩, .ro, 0x0, []⟩]⟩,  -- CORE_FAULT
  ⟨0x4011010c, 32, 8, [⟨⟨0, 32⟩, .ro, 0x0, []⟩]⟩,  -- CORE_FLTPC
  ⟨0x40110110, 32, 8, [⟨⟨0, 32⟩, .ro, 0x0, []⟩]⟩,  -- CORE_FLTADDR
  ⟨0x40110114, 32, 8, [⟨⟨31, 1⟩, .w1s, 0x0, []⟩, ⟨⟨0, 20⟩, .rw, 0x2710, [(0, 0)]⟩]⟩,  -- CORE_WDOG
  ⟨0x40110118, 32, 8, [⟨⟨0, 16⟩, .wo, 0x0, []⟩]⟩,  -- CORE_WDKICK
  ⟨0x4011011c, 32, 8, [⟨⟨31, 1⟩, .w1c, 0x0, []⟩, ⟨⟨30, 1⟩, .w1c, 0x0, []⟩, ⟨⟨29, 1⟩, .w1c, 0x0, []⟩, ⟨⟨28, 1⟩, .w1c, 0x0, []⟩, ⟨⟨0, 16⟩, .ro, 0x0, []⟩]⟩  -- CORE_INFO
]

/-- The register tables of OAS. -/
def oasRegs : List RegSpec := [
  ⟨0x40100100, 4, 1, [⟨⟨2, 1⟩, .wo, 0x0, []⟩, ⟨⟨0, 1⟩, .rw, 0x0, []⟩]⟩,  -- OAS_C8_CTL
  ⟨0x40100104, 4, 1, [⟨⟨0, 32⟩, .rw, 0x0, []⟩]⟩,  -- OAS_C8_START
  ⟨0x40100108, 4, 1, [⟨⟨8, 4⟩, .ro, 0x0, []⟩, ⟨⟨0, 4⟩, .ro, 0x0, []⟩]⟩,  -- OAS_C8_FAULT
  ⟨0x4010010c, 4, 1, [⟨⟨0, 32⟩, .ro, 0x0, []⟩]⟩,  -- OAS_C8_FLTPC
  ⟨0x40100110, 4, 1, [⟨⟨0, 32⟩, .ro, 0x0, []⟩]⟩,  -- OAS_C8_FLTADDR
  ⟨0x40100114, 4, 1, [⟨⟨31, 1⟩, .w1s, 0x0, []⟩, ⟨⟨0, 20⟩, .rw, 0x2710, [(0, 0)]⟩]⟩,  -- OAS_C8_WDOG
  ⟨0x40100118, 4, 1, [⟨⟨0, 16⟩, .wo, 0x0, []⟩]⟩,  -- OAS_C8_WDKICK
  ⟨0x4010011c, 4, 1, [⟨⟨31, 1⟩, .w1c, 0x0, []⟩, ⟨⟨30, 1⟩, .w1c, 0x0, []⟩, ⟨⟨29, 1⟩, .w1c, 0x0, []⟩, ⟨⟨28, 1⟩, .w1c, 0x0, []⟩, ⟨⟨0, 16⟩, .ro, 0x0, []⟩]⟩,  -- OAS_C8_INFO
  ⟨0x40100004, 4, 1, [⟨⟨31, 1⟩, .w1c, 0x0, []⟩, ⟨⟨1, 1⟩, .w1c, 0x0, []⟩, ⟨⟨0, 1⟩, .w1c, 0x0, []⟩]⟩,  -- OAS_STATUS
  ⟨0x40100010, 4, 1, [⟨⟨16, 16⟩, .wo, 0x0, []⟩, ⟨⟨0, 3⟩, .wo, 0x0, [(4, 7)]⟩]⟩,  -- OAS_PWRREQ
  ⟨0x40100014, 4, 1, [⟨⟨8, 1⟩, .ro, 0x0, []⟩, ⟨⟨0, 3⟩, .ro, 0x0, []⟩]⟩,  -- OAS_PWRSTATE
  ⟨0x40100018, 4, 1, [⟨⟨31, 1⟩, .w1c, 0x0, []⟩, ⟨⟨8, 4⟩, .ro, 0x0, []⟩, ⟨⟨0, 8⟩, .ro, 0x0, []⟩]⟩,  -- OAS_WAKECAUSE
  ⟨0x4010001c, 4, 1, [⟨⟨0, 24⟩, .rw, 0x0, []⟩]⟩,  -- OAS_WAKETMR
  ⟨0x40100040, 4, 32, [⟨⟨10, 1⟩, .rw, 0x0, []⟩, ⟨⟨9, 1⟩, .rw, 0x0, []⟩, ⟨⟨8, 1⟩, .rw, 0x0, []⟩, ⟨⟨0, 8⟩, .rw, 0x0, [(255, 255)]⟩]⟩,  -- OAS_WAKE
  ⟨0x401000c0, 4, 8, [⟨⟨0, 24⟩, .rw, 0x7fffff, []⟩]⟩,  -- OAS_WHI
  ⟨0x401000e0, 4, 8, [⟨⟨0, 24⟩, .rw, 0x800000, []⟩]⟩,  -- OAS_WLO
  ⟨0x40100140, 4, 8, [⟨⟨24, 1⟩, .ro, 0x0, []⟩, ⟨⟨0, 24⟩, .ro, 0x0, []⟩]⟩  -- OAS_WRES
]

/-- The register tables of HIC. -/
def hicRegs : List RegSpec := [
  ⟨0x40050004, 4, 1, [⟨⟨31, 1⟩, .w1c, 0x0, []⟩, ⟨⟨0, 16⟩, .ro, 0x0, []⟩]⟩,  -- HIC_STATUS
  ⟨0x40050010, 4, 1, [⟨⟨0, 8⟩, .wo, 0x0, []⟩]⟩,  -- HIC_RAISE
  ⟨0x40050040, 4, 8, [⟨⟨0, 32⟩, .w1c, 0x0, []⟩]⟩,  -- HIC_PEND
  ⟨0x40050060, 4, 8, [⟨⟨0, 32⟩, .ro, 0x0, []⟩]⟩,  -- HIC_INSVC
  ⟨0x40050080, 4, 8, [⟨⟨0, 32⟩, .ro, 0x0, []⟩]⟩,  -- HIC_LEVEL
  ⟨0x40050100, 4, 9, [⟨⟨31, 1⟩, .ro, 0x0, []⟩, ⟨⟨30, 1⟩, .ro, 0x0, []⟩, ⟨⟨16, 8⟩, .ro, 0x0, []⟩, ⟨⟨0, 10⟩, .ro, 0x3fe, []⟩]⟩,  -- HIC_CORE
  ⟨0x40050400, 4, 255, [⟨⟨31, 1⟩, .rw, 0x0, []⟩, ⟨⟨16, 8⟩, .rw, 0x1, [(0, 0)]⟩, ⟨⟨15, 1⟩, .rw, 0x0, []⟩, ⟨⟨14, 1⟩, .rw, 0x0, []⟩, ⟨⟨12, 2⟩, .rw, 0x0, []⟩, ⟨⟨0, 9⟩, .rw, 0x0, []⟩]⟩,  -- HIC_SRC_CFG
  ⟨0x40050800, 4, 255, [⟨⟨0, 16⟩, .rw, 0x0, []⟩]⟩  -- HIC_SRC_CTIME
]

/-- The register tables of QM. -/
def qmRegs : List RegSpec := [
  ⟨0x40060004, 4, 1, [⟨⟨31, 1⟩, .w1c, 0x0, []⟩, ⟨⟨3, 1⟩, .ro, 0x0, []⟩, ⟨⟨2, 1⟩, .w1c, 0x0, []⟩, ⟨⟨1, 1⟩, .w1c, 0x0, []⟩, ⟨⟨0, 1⟩, .w1c, 0x0, []⟩]⟩,  -- QM_STATUS
  ⟨0x40060040, 4, 8, [⟨⟨8, 1⟩, .rw, 0x0, []⟩, ⟨⟨7, 1⟩, .rw, 0x0, []⟩, ⟨⟨0, 5⟩, .rw, 0x0, []⟩]⟩,  -- QM_FLOW
  ⟨0x40061000, 64, 64, [⟨⟨31, 1⟩, .rw, 0x0, []⟩, ⟨⟨30, 1⟩, .rw, 0x0, []⟩, ⟨⟨29, 1⟩, .rw, 0x0, []⟩, ⟨⟨24, 2⟩, .rw, 0x0, [(3, 3)]⟩, ⟨⟨16, 4⟩, .rw, 0x4, [(1, 3)]⟩, ⟨⟨0, 16⟩, .rw, 0x0, []⟩]⟩,  -- QM_Q_CFG
  ⟨0x40061004, 64, 64, [⟨⟨16, 16⟩, .ro, 0x0, []⟩, ⟨⟨0, 16⟩, .ro, 0x0, []⟩]⟩,  -- QM_Q_PTR
  ⟨0x40061008, 64, 64, [⟨⟨0, 16⟩, .ro, 0x0, []⟩]⟩,  -- QM_Q_MARK
  ⟨0x4006100c, 64, 64, [⟨⟨0, 17⟩, .ro, 0x0, []⟩]⟩,  -- QM_Q_AVAIL
  ⟨0x40061010, 64, 64, [⟨⟨0, 17⟩, .ro, 0x0, []⟩]⟩,  -- QM_Q_OCC
  ⟨0x40061014, 64, 64, [⟨⟨2, 1⟩, .wo, 0x0, []⟩, ⟨⟨1, 1⟩, .wo, 0x0, []⟩, ⟨⟨0, 1⟩, .wo, 0x0, []⟩]⟩,  -- QM_Q_CTL
  ⟨0x40061018, 64, 64, [⟨⟨0, 32⟩, .rc, 0x0, []⟩]⟩,  -- QM_Q_DROPS
  ⟨0x4006101c, 64, 64, [⟨⟨0, 17⟩, .rw, 0x1ffff, []⟩]⟩,  -- QM_Q_HI
  ⟨0x40061020, 64, 64, [⟨⟨0, 17⟩, .rw, 0x0, []⟩]⟩,  -- QM_Q_LO
  ⟨0x40061024, 64, 64, [⟨⟨7, 1⟩, .ro, 0x0, []⟩, ⟨⟨6, 1⟩, .ro, 0x0, []⟩, ⟨⟨5, 1⟩, .ro, 0x0, []⟩, ⟨⟨4, 1⟩, .ro, 0x0, []⟩, ⟨⟨3, 1⟩, .w1c, 0x0, []⟩, ⟨⟨2, 1⟩, .w1c, 0x0, []⟩, ⟨⟨1, 1⟩, .w1c, 0x0, []⟩, ⟨⟨0, 1⟩, .w1c, 0x0, []⟩]⟩  -- QM_Q_FLAGS
]

/-- The register tables of DME. -/
def dmeRegs : List RegSpec := [
  ⟨0x40070004, 4, 1, [⟨⟨31, 1⟩, .w1c, 0x0, []⟩, ⟨⟨0, 16⟩, .ro, 0x0, []⟩]⟩,  -- DME_STATUS
  ⟨0x40070100, 64, 16, [⟨⟨1, 1⟩, .wo, 0x0, []⟩, ⟨⟨0, 1⟩, .rw, 0x0, []⟩]⟩,  -- DME_CH_CTL
  ⟨0x40070104, 64, 16, [⟨⟨17, 1⟩, .ro, 0x0, []⟩, ⟨⟨16, 1⟩, .ro, 0x0, []⟩, ⟨⟨12, 4⟩, .ro, 0x0, []⟩, ⟨⟨8, 1⟩, .w1c, 0x0, []⟩, ⟨⟨7, 1⟩, .w1c, 0x0, []⟩, ⟨⟨6, 1⟩, .w1c, 0x0, []⟩, ⟨⟨5, 1⟩, .w1c, 0x0, []⟩, ⟨⟨4, 1⟩, .w1c, 0x0, []⟩, ⟨⟨3, 1⟩, .w1c, 0x0, []⟩, ⟨⟨1, 1⟩, .ro, 0x0, []⟩, ⟨⟨0, 1⟩, .ro, 0x0, []⟩]⟩,  -- DME_CH_STAT
  ⟨0x40070108, 64, 16, [⟨⟨10, 1⟩, .rw, 0x0, []⟩, ⟨⟨8, 1⟩, .rw, 0x0, []⟩, ⟨⟨7, 1⟩, .rw, 0x0, []⟩, ⟨⟨6, 1⟩, .rw, 0x0, []⟩, ⟨⟨4, 2⟩, .rw, 0x0, []⟩, ⟨⟨2, 1⟩, .rw, 0x0, []⟩, ⟨⟨0, 2⟩, .rw, 0x0, []⟩]⟩,  -- DME_CH_SCFG
  ⟨0x4007010c, 64, 16, [⟨⟨0, 32⟩, .rw, 0x0, []⟩]⟩,  -- DME_CH_SLIST
  ⟨0x40070110, 64, 16, [⟨⟨0, 32⟩, .rw, 0x0, []⟩]⟩,  -- DME_CH_SFIX
  ⟨0x40070114, 64, 16, [⟨⟨0, 32⟩, .ro, 0x0, []⟩]⟩,  -- DME_CH_CFG
  ⟨0x40070118, 64, 16, [⟨⟨0, 32⟩, .ro, 0x0, []⟩]⟩,  -- DME_CH_LIST
  ⟨0x4007011c, 64, 16, [⟨⟨0, 32⟩, .ro, 0x0, []⟩]⟩,  -- DME_CH_ADDR
  ⟨0x40070120, 64, 16, [⟨⟨0, 24⟩, .ro, 0x0, []⟩]⟩,  -- DME_CH_REM
  ⟨0x40070124, 64, 16, [⟨⟨0, 32⟩, .ro, 0x0, []⟩]⟩,  -- DME_CH_FIX
  ⟨0x40070128, 64, 16, [⟨⟨0, 32⟩, .ro, 0x0, []⟩]⟩,  -- DME_CH_DONEB
  ⟨0x4007012c, 64, 16, [⟨⟨0, 32⟩, .ro, 0x0, []⟩]⟩  -- DME_CH_ERRADDR
]

/-- The register tables of TIME. -/
def timeRegs : List RegSpec := [
  ⟨0x40080000, 4, 1, [⟨⟨1, 1⟩, .wo, 0x0, []⟩, ⟨⟨0, 1⟩, .rw, 0x0, []⟩]⟩,  -- TIME_CTL
  ⟨0x40080004, 4, 1, [⟨⟨31, 1⟩, .w1c, 0x0, []⟩, ⟨⟨4, 1⟩, .ro, 0x0, []⟩, ⟨⟨3, 1⟩, .w1c, 0x0, []⟩, ⟨⟨2, 1⟩, .w1c, 0x0, []⟩, ⟨⟨1, 1⟩, .w1c, 0x0, []⟩, ⟨⟨0, 1⟩, .w1c, 0x0, []⟩]⟩,  -- TIME_STATUS
  ⟨0x40080010, 4, 1, [⟨⟨0, 32⟩, .ro, 0x0, []⟩]⟩,  -- TIME_NOW0
  ⟨0x40080014, 4, 1, [⟨⟨0, 32⟩, .ro, 0x0, []⟩]⟩,  -- TIME_NOW1
  ⟨0x40080018, 4, 1, [⟨⟨16, 16⟩, .ro, 0x0, []⟩, ⟨⟨0, 16⟩, .ro, 0x0, []⟩]⟩,  -- TIME_NOW2
  ⟨0x40080030, 4, 1, [⟨⟨0, 32⟩, .rw, 0x0, [(1000000000, 4294967295)]⟩]⟩,  -- TIME_SET0
  ⟨0x40080034, 4, 1, [⟨⟨0, 32⟩, .rw, 0x0, []⟩]⟩,  -- TIME_SET1
  ⟨0x40080038, 4, 1, [⟨⟨0, 16⟩, .rw, 0x0, []⟩]⟩,  -- TIME_SET2
  ⟨0x4008003c, 4, 1, [⟨⟨0, 32⟩, .wo, 0x0, []⟩]⟩,  -- TIME_STEPNS
  ⟨0x40080040, 4, 1, [⟨⟨24, 8⟩, .rw, 0xa, [(0, 0)]⟩, ⟨⟨16, 8⟩, .rw, 0x32, [(0, 0)]⟩, ⟨⟨8, 4⟩, .rw, 0x4, []⟩, ⟨⟨4, 4⟩, .rw, 0x1, []⟩, ⟨⟨0, 2⟩, .rw, 0x0, []⟩]⟩,  -- TIME_SRV_CFG
  ⟨0x40080044, 4, 1, [⟨⟨0, 16⟩, .rw, 0xbb8, [(0, 0)]⟩]⟩,  -- TIME_SRV_HOLD
  ⟨0x40080048, 4, 1, [⟨⟨0, 32⟩, .wo, 0x0, []⟩]⟩,  -- TIME_SRV_OFFS
  ⟨0x4008004c, 4, 1, [⟨⟨2, 1⟩, .ro, 0x0, []⟩, ⟨⟨0, 2⟩, .ro, 0x0, []⟩]⟩,  -- TIME_SRV_STAT
  ⟨0x40080050, 4, 1, [⟨⟨0, 32⟩, .ro, 0x0, []⟩]⟩,  -- TIME_SRV_LAST
  ⟨0x40080054, 4, 1, [⟨⟨0, 32⟩, .rw, 0x0, []⟩]⟩,  -- TIME_SRV_FREQ
  ⟨0x40080084, 4, 7, [⟨⟨0, 32⟩, .rw, 0xf4240, [(0, 999)]⟩]⟩,  -- TIME_PERIOD
  ⟨0x400800a0, 4, 8, [⟨⟨0, 32⟩, .rw, 0x0, []⟩]⟩,  -- TIME_QLOW
  ⟨0x400800c0, 4, 1, [⟨⟨16, 11⟩, .rw, 0x0, []⟩, ⟨⟨0, 10⟩, .rw, 0x0, []⟩]⟩,  -- TIME_BCPOOL
  ⟨0x400800c4, 4, 1, [⟨⟨0, 32⟩, .ro, 0x1, []⟩]⟩,  -- TIME_SEQ
  ⟨0x400800c8, 4, 1, [⟨⟨31, 1⟩, .ro, 0x0, []⟩, ⟨⟨16, 4⟩, .ro, 0x0, []⟩, ⟨⟨0, 10⟩, .ro, 0x0, []⟩]⟩,  -- TIME_LTERR
  ⟨0x400800cc, 4, 1, [⟨⟨16, 16⟩, .ro, 0x0, []⟩, ⟨⟨12, 2⟩, .ro, 0x0, []⟩, ⟨⟨0, 10⟩, .ro, 0x0, []⟩]⟩,  -- TIME_LATEINFO
  ⟨0x400800d0, 4, 1, [⟨⟨0, 11⟩, .ro, 0x400, []⟩]⟩  -- TIME_FREE
]

/-- The register tables of ACT. -/
def actRegs : List RegSpec := [
  ⟨0x40090000, 4, 1, [⟨⟨1, 1⟩, .rw, 0x0, []⟩, ⟨⟨0, 1⟩, .rw, 0x0, []⟩]⟩,  -- ACT_CTL
  ⟨0x40090004, 4, 1, [⟨⟨31, 1⟩, .w1c, 0x0, []⟩, ⟨⟨0, 1⟩, .w1c, 0x0, []⟩]⟩,  -- ACT_STATUS
  ⟨0x40090010, 4, 2, [⟨⟨0, 32⟩, .wo, 0x0, []⟩]⟩,  -- ACT_SAFECMD
  ⟨0x40090018, 4, 1, [⟨⟨0, 8⟩, .ro, 0x0, []⟩]⟩,  -- ACT_PINCAL
  ⟨0x40090020, 4, 4, [⟨⟨24, 1⟩, .rw, 0x0, []⟩, ⟨⟨0, 24⟩, .rw, 0x3e800, [(0, 1)]⟩]⟩,  -- ACT_GEN
  ⟨0x40090040, 4, 3, [⟨⟨31, 1⟩, .rw, 0x0, []⟩, ⟨⟨16, 13⟩, .rw, 0x0, []⟩, ⟨⟨0, 13⟩, .rw, 0x0, []⟩]⟩,  -- ACT_MAINS_CFG
  ⟨0x40090060, 4, 3, [⟨⟨31, 1⟩, .ro, 0x0, []⟩, ⟨⟨0, 16⟩, .ro, 0x0, []⟩]⟩,  -- ACT_MAINS_STAT
  ⟨0x40090080, 4, 3, [⟨⟨0, 30⟩, .ro, 0x0, []⟩]⟩,  -- ACT_MAINS_ZX
  ⟨0x40090100, 4, 48, [⟨⟨20, 1⟩, .rw, 0x0, []⟩, ⟨⟨16, 1⟩, .rw, 0x0, []⟩, ⟨⟨12, 2⟩, .rw, 0x0, [(3, 3)]⟩, ⟨⟨8, 2⟩, .rw, 0x0, [(3, 3)]⟩, ⟨⟨4, 2⟩, .rw, 0x0, []⟩, ⟨⟨0, 2⟩, .rw, 0x0, []⟩]⟩,  -- ACT_OUT_CFG
  ⟨0x40090200, 4, 48, [⟨⟨0, 17⟩, .rw, 0x0, [(65537, 131071)]⟩]⟩,  -- ACT_OUT_DUTY
  ⟨0x40090300, 4, 48, [⟨⟨31, 1⟩, .ro, 0x0, []⟩, ⟨⟨30, 1⟩, .ro, 0x0, []⟩, ⟨⟨0, 17⟩, .ro, 0x0, []⟩]⟩  -- ACT_OUT_STAT
]

/-- The register tables of ETH. -/
def ethRegs : List RegSpec := [
  ⟨0x400a0000, 4, 1, [⟨⟨2, 1⟩, .rw, 0x0, []⟩, ⟨⟨1, 1⟩, .rw, 0x0, []⟩, ⟨⟨0, 1⟩, .rw, 0x0, []⟩]⟩,  -- ETH_CTL
  ⟨0x400a0004, 4, 1, [⟨⟨31, 1⟩, .w1c, 0x0, []⟩, ⟨⟨3, 1⟩, .w1c, 0x0, []⟩, ⟨⟨2, 1⟩, .w1c, 0x0, []⟩, ⟨⟨1, 1⟩, .w1c, 0x0, []⟩, ⟨⟨0, 1⟩, .w1c, 0x0, []⟩]⟩,  -- ETH_STATUS
  ⟨0x400a0010, 4, 1, [⟨⟨0, 32⟩, .rw, 0x0, []⟩]⟩,  -- ETH_MAC_LO
  ⟨0x400a0014, 4, 1, [⟨⟨0, 16⟩, .rw, 0x0, []⟩]⟩,  -- ETH_MAC_HI
  ⟨0x400a0020, 8, 4, [⟨⟨0, 32⟩, .rw, 0x0, []⟩]⟩,  -- ETH_MCAST_LO
  ⟨0x400a0024, 8, 4, [⟨⟨31, 1⟩, .rw, 0x0, []⟩, ⟨⟨0, 16⟩, .rw, 0x0, []⟩]⟩,  -- ETH_MCAST_HI
  ⟨0x400a0040, 4, 1, [⟨⟨2, 1⟩, .rw, 0x1, []⟩, ⟨⟨0, 2⟩, .rw, 0x0, [(3, 3)]⟩]⟩,  -- ETH_PTP_CFG
  ⟨0x400a0100, 32, 2, [⟨⟨5, 1⟩, .rw, 0x0, []⟩, ⟨⟨4, 1⟩, .rw, 0x0, []⟩, ⟨⟨1, 2⟩, .rw, 0x2, [(3, 3)]⟩, ⟨⟨0, 1⟩, .rw, 0x0, []⟩]⟩,  -- ETH_PORT_CFG
  ⟨0x400a0104, 32, 2, [⟨⟨16, 12⟩, .rw, 0x0, []⟩, ⟨⟨0, 12⟩, .rw, 0x0, []⟩]⟩,  -- ETH_PORT_LAT
  ⟨0x400a0108, 32, 2, [⟨⟨0, 32⟩, .rw, 0x0, []⟩]⟩,  -- ETH_P2P_DELAY
  ⟨0x400a010c, 32, 2, [⟨⟨0, 32⟩, .rc, 0x0, []⟩]⟩,  -- ETH_PORT_OK
  ⟨0x400a0110, 32, 2, [⟨⟨0, 32⟩, .rc, 0x0, []⟩]⟩,  -- ETH_PORT_BAD
  ⟨0x400a0114, 32, 2, [⟨⟨0, 32⟩, .rc, 0x0, []⟩]⟩,  -- ETH_PORT_TX
  ⟨0x400a0118, 32, 2, [⟨⟨0, 32⟩, .rc, 0x0, []⟩]⟩,  -- ETH_PORT_DROP
  ⟨0x400a0200, 4, 1, [⟨⟨0, 32⟩, .rw, 0x0, []⟩]⟩,  -- ETH_RX_BASE
  ⟨0x400a0210, 4, 1, [⟨⟨0, 32⟩, .rw, 0x0, []⟩]⟩,  -- ETH_TX_BASE
  ⟨0x400a0204, 4, 1, [⟨⟨16, 8⟩, .ro, 0x0, []⟩, ⟨⟨0, 9⟩, .rw, 0x2, []⟩]⟩,  -- ETH_RX_CFG
  ⟨0x400a0214, 4, 1, [⟨⟨16, 8⟩, .ro, 0x0, []⟩, ⟨⟨0, 9⟩, .rw, 0x2, []⟩]⟩,  -- ETH_TX_CFG
  ⟨0x400a0218, 4, 1, [⟨⟨0, 8⟩, .rw, 0x0, []⟩]⟩,  -- ETH_TX_TAIL
  ⟨0x400a0300, 4, 1, [⟨⟨31, 1⟩, .wo, 0x0, []⟩, ⟨⟨30, 1⟩, .ro, 0x0, []⟩, ⟨⟨28, 2⟩, .rw, 0x2, [(0, 0), (3, 3)]⟩, ⟨⟨27, 1⟩, .ro, 0x0, []⟩, ⟨⟨21, 5⟩, .rw, 0x0, []⟩, ⟨⟨16, 5⟩, .rw, 0x0, []⟩, ⟨⟨0, 16⟩, .rw, 0x0, []⟩]⟩  -- ETH_MDIO
]

/-- The register tables of CAER. -/
def caerRegs : List RegSpec := [
  ⟨0x400b0000, 4, 1, [⟨⟨5, 1⟩, .rw, 0x0, []⟩, ⟨⟨0, 4⟩, .rw, 0xf, []⟩]⟩,  -- CAER_ID
  ⟨0x400b0004, 4, 1, [⟨⟨31, 1⟩, .w1c, 0x0, []⟩, ⟨⟨4, 1⟩, .w1c, 0x0, []⟩, ⟨⟨3, 1⟩, .w1c, 0x0, []⟩, ⟨⟨2, 1⟩, .w1c, 0x0, []⟩, ⟨⟨1, 1⟩, .w1c, 0x0, []⟩, ⟨⟨0, 1⟩, .w1c, 0x0, []⟩]⟩,  -- CAER_STATUS
  ⟨0x400b0010, 4, 1, [⟨⟨0, 32⟩, .rw, 0x0, []⟩]⟩,  -- CAER_MSGTX_DATA
  ⟨0x400b0014, 4, 1, [⟨⟨0, 4⟩, .wo, 0x0, []⟩]⟩,  -- CAER_MSGTX_HUB
  ⟨0x400b0018, 4, 1, [⟨⟨16, 16⟩, .w1c, 0x0, []⟩, ⟨⟨0, 16⟩, .w1c, 0x0, []⟩]⟩,  -- CAER_MBOX_STAT
  ⟨0x400b001c, 4, 1, [⟨⟨16, 16⟩, .wo, 0x0, []⟩, ⟨⟨8, 1⟩, .wo, 0x0, []⟩, ⟨⟨0, 4⟩, .wo, 0x0, []⟩]⟩,  -- CAER_CMD
  ⟨0x400b0020, 4, 1, [⟨⟨31, 1⟩, .wo, 0x0, []⟩, ⟨⟨30, 1⟩, .wo, 0x0, []⟩, ⟨⟨29, 1⟩, .wo, 0x0, []⟩, ⟨⟨4, 1⟩, .rw, 0x0, []⟩, ⟨⟨1, 1⟩, .rw, 0x0, []⟩, ⟨⟨0, 1⟩, .rw, 0x0, []⟩]⟩,  -- CAER_PAIR_CFG
  ⟨0x400b0024, 4, 1, [⟨⟨12, 4⟩, .ro, 0x0, []⟩, ⟨⟨10, 1⟩, .ro, 0x0, []⟩, ⟨⟨9, 1⟩, .ro, 0x0, []⟩, ⟨⟨8, 1⟩, .ro, 0x0, []⟩, ⟨⟨0, 3⟩, .ro, 0x0, []⟩]⟩,  -- CAER_PAIR_STAT
  ⟨0x400b0028, 4, 1, [⟨⟨0, 2⟩, .rw, 0x0, [(3, 3)]⟩]⟩,  -- CAER_PEXP_CFG
  ⟨0x400b002c, 4, 1, [⟨⟨0, 32⟩, .ro, 0, []⟩]⟩,  -- CAER_DIR
  ⟨0x400b0100, 64, 2, [⟨⟨4, 2⟩, .rw, 0x0, [(3, 3)]⟩, ⟨⟨0, 1⟩, .rw, 0x0, []⟩]⟩,  -- CAER_LINK_CFG
  ⟨0x400b0104, 64, 2, [⟨⟨13, 1⟩, .ro, 0x0, []⟩, ⟨⟨12, 1⟩, .ro, 0x0, []⟩, ⟨⟨8, 4⟩, .ro, 0x0, []⟩, ⟨⟨4, 3⟩, .ro, 0x0, []⟩, ⟨⟨3, 1⟩, .ro, 0x0, []⟩, ⟨⟨0, 3⟩, .ro, 0x0, []⟩]⟩,  -- CAER_LINK_STAT
  ⟨0x400b0108, 64, 2, [⟨⟨0, 16⟩, .rw, 0x0, []⟩]⟩,  -- CAER_LINK_ASYM
  ⟨0x400b010c, 64, 2, [⟨⟨0, 32⟩, .ro, 0x0, []⟩]⟩,  -- CAER_LINK_DELAY
  ⟨0x400b0110, 64, 2, [⟨⟨0, 32⟩, .ro, 0x0, []⟩]⟩,  -- CAER_LINK_OFFS
  ⟨0x400b0114, 64, 2, [⟨⟨24, 8⟩, .rc, 0x0, []⟩, ⟨⟨16, 8⟩, .rc, 0x0, []⟩, ⟨⟨8, 8⟩, .rc, 0x0, []⟩, ⟨⟨0, 8⟩, .rc, 0x0, []⟩]⟩,  -- CAER_LINK_ERR
  ⟨0x400b0200, 4, 16, [⟨⟨0, 32⟩, .ro, 0x0, []⟩]⟩,  -- CAER_MBOX
  ⟨0x400b0300, 4, 8, [⟨⟨31, 1⟩, .rw, 0x0, []⟩, ⟨⟨24, 6⟩, .rw, 0x0, []⟩, ⟨⟨16, 4⟩, .rw, 0x0, []⟩, ⟨⟨0, 6⟩, .rw, 0x0, []⟩]⟩,  -- CAER_QFWD
  ⟨0x400b0400, 4, 16, [⟨⟨31, 1⟩, .rw, 0x0, []⟩, ⟨⟨30, 1⟩, .rw, 0x0, []⟩, ⟨⟨24, 4⟩, .rw, 0x0, []⟩, ⟨⟨16, 6⟩, .rw, 0x0, []⟩, ⟨⟨0, 8⟩, .rw, 0x0, [(160, 255)]⟩]⟩  -- CAER_PEXP
]

/-- The register tables of TWP. -/
def twpRegs : List RegSpec := [
  ⟨0x400c0004, 4, 1, [⟨⟨31, 1⟩, .w1c, 0x0, []⟩, ⟨⟨0, 4⟩, .w1c, 0x0, []⟩]⟩,  -- TWP_STATUS
  ⟨0x400c0100, 64, 4, [⟨⟨24, 8⟩, .rw, 0x0, []⟩, ⟨⟨16, 3⟩, .rw, 0x0, []⟩, ⟨⟨8, 7⟩, .rw, 0x0, []⟩, ⟨⟨6, 1⟩, .rw, 0x0, []⟩, ⟨⟨5, 1⟩, .rw, 0x0, []⟩, ⟨⟨4, 1⟩, .rw, 0x0, []⟩, ⟨⟨3, 1⟩, .rw, 0x0, []⟩, ⟨⟨1, 2⟩, .rw, 0x2, [(0, 0)]⟩, ⟨⟨0, 1⟩, .rw, 0x0, []⟩]⟩,  -- TWP_CFG
  ⟨0x400c0104, 64, 4, [⟨⟨16, 10⟩, .rw, 0x212, [(0, 0)]⟩, ⟨⟨0, 10⟩, .rw, 0x1d6, [(0, 0)]⟩]⟩,  -- TWP_TIMA
  ⟨0x400c0108, 64, 4, [⟨⟨16, 8⟩, .rw, 0x1e, []⟩, ⟨⟨0, 8⟩, .rw, 0x19, []⟩]⟩,  -- TWP_TIMB
  ⟨0x400c010c, 64, 4, [⟨⟨0, 20⟩, .rw, 0x0, []⟩]⟩,  -- TWP_WBASE
  ⟨0x400c0110, 64, 4, [⟨⟨0, 16⟩, .rw, 0xff, []⟩]⟩,  -- TWP_WSIZE
  ⟨0x400c0114, 64, 4, [⟨⟨0, 17⟩, .rw, 0x0, []⟩]⟩,  -- TWP_WLIM
  ⟨0x400c0118, 64, 4, [⟨⟨31, 1⟩, .w1c, 0x0, []⟩, ⟨⟨30, 1⟩, .w1c, 0x0, []⟩, ⟨⟨29, 1⟩, .w1c, 0x0, []⟩, ⟨⟨28, 1⟩, .w1c, 0x0, []⟩, ⟨⟨27, 1⟩, .w1c, 0x0, []⟩, ⟨⟨12, 12⟩, .ro, 0x0, []⟩, ⟨⟨0, 12⟩, .ro, 0x0, []⟩]⟩,  -- TWP_TSTAT
  ⟨0x400c011c, 64, 4, [⟨⟨0, 16⟩, .rw, 0x0, []⟩]⟩,  -- TWP_TPTR
  ⟨0x400c0120, 64, 4, [⟨⟨31, 1⟩, .wo, 0x0, []⟩, ⟨⟨30, 1⟩, .wo, 0x0, []⟩, ⟨⟨29, 1⟩, .wo, 0x0, []⟩, ⟨⟨16, 7⟩, .rw, 0x0, []⟩, ⟨⟨8, 8⟩, .rw, 0x0, []⟩, ⟨⟨0, 8⟩, .rw, 0x0, []⟩]⟩,  -- TWP_CCMD
  ⟨0x400c0124, 64, 4, [⟨⟨0, 20⟩, .rw, 0x0, []⟩]⟩,  -- TWP_CBUF
  ⟨0x400c0128, 64, 4, [⟨⟨31, 1⟩, .ro, 0x0, []⟩, ⟨⟨30, 1⟩, .w1c, 0x0, []⟩, ⟨⟨24, 4⟩, .ro, 0x0, []⟩, ⟨⟨0, 9⟩, .ro, 0x0, []⟩]⟩,  -- TWP_CSTAT
  ⟨0x400c012c, 64, 4, [⟨⟨3, 1⟩, .ro, 0x0, []⟩, ⟨⟨2, 1⟩, .ro, 0x0, []⟩, ⟨⟨1, 1⟩, .ro, 0x0, []⟩, ⟨⟨0, 1⟩, .ro, 0x0, []⟩]⟩  -- TWP_BUS
]

/-- The register tables of BOOT. -/
def bootRegs : List RegSpec := [
  ⟨0x400d0004, 4, 1, [⟨⟨31, 1⟩, .w1c, 0x0, []⟩, ⟨⟨24, 4⟩, .ro, 0xf, []⟩, ⟨⟨20, 4⟩, .ro, 0xf, []⟩, ⟨⟨15, 1⟩, .w1c, 0x0, []⟩, ⟨⟨14, 1⟩, .w1c, 0x0, []⟩, ⟨⟨13, 1⟩, .ro, 0x0, []⟩, ⟨⟨12, 1⟩, .ro, 0x0, []⟩, ⟨⟨11, 1⟩, .ro, 0x0, []⟩, ⟨⟨10, 1⟩, .ro, 0x0, []⟩, ⟨⟨8, 2⟩, .ro, 0x0, []⟩, ⟨⟨0, 4⟩, .ro, 0x0, []⟩]⟩,  -- BOOT_STATUS
  ⟨0x400d0008, 4, 1, [⟨⟨0, 32⟩, .ro, 0x0, []⟩]⟩,  -- BOOT_SEQ
  ⟨0x400d000c, 4, 1, [⟨⟨0, 32⟩, .ro, 0x0, []⟩]⟩,  -- BOOT_VER
  ⟨0x400d0010, 4, 1, [⟨⟨16, 6⟩, .ro, 0x0, []⟩, ⟨⟨8, 6⟩, .ro, 0x0, []⟩, ⟨⟨3, 1⟩, .ro, 0x0, []⟩, ⟨⟨0, 3⟩, .ro, 0x0, []⟩]⟩,  -- BOOT_INFO
  ⟨0x400d0014, 4, 1, [⟨⟨0, 32⟩, .ro, 0x0, []⟩]⟩,  -- BOOT_DENS
  ⟨0x400d0018, 4, 1, [⟨⟨16, 16⟩, .wo, 0x0, []⟩, ⟨⟨0, 1⟩, .wo, 0x0, []⟩]⟩,  -- BOOT_COMMIT
  ⟨0x400d001c, 4, 1, [⟨⟨16, 16⟩, .wo, 0x0, []⟩, ⟨⟨0, 1⟩, .rw, 0x0, []⟩]⟩,  -- BOOT_UPDATE
  ⟨0x400d0020, 4, 1, [⟨⟨0, 32⟩, .ro, 0x0, []⟩]⟩,  -- BOOT_RET0
  ⟨0x400d0024, 4, 1, [⟨⟨0, 14⟩, .ro, 0x0, []⟩]⟩,  -- BOOT_RET1
  ⟨0x400d0040, 4, 1, [⟨⟨31, 1⟩, .wo, 0x0, []⟩, ⟨⟨26, 2⟩, .rw, 0x0, [(3, 3)]⟩, ⟨⟨25, 1⟩, .rw, 0x0, []⟩, ⟨⟨24, 1⟩, .rw, 0x0, []⟩, ⟨⟨23, 1⟩, .rw, 0x0, []⟩, ⟨⟨22, 1⟩, .rw, 0x0, []⟩, ⟨⟨16, 4⟩, .rw, 0x0, []⟩, ⟨⟨0, 8⟩, .rw, 0x0, []⟩]⟩,  -- BOOT_FCMD
  ⟨0x400d0044, 4, 1, [⟨⟨0, 32⟩, .rw, 0x0, []⟩]⟩,  -- BOOT_FADDR
  ⟨0x400d0048, 4, 1, [⟨⟨0, 9⟩, .rw, 0x0, [(257, 511)]⟩]⟩,  -- BOOT_FLEN
  ⟨0x400d004c, 4, 1, [⟨⟨0, 20⟩, .rw, 0x0, []⟩]⟩,  -- BOOT_FBUF
  ⟨0x400d0050, 4, 1, [⟨⟨31, 1⟩, .ro, 0x0, []⟩, ⟨⟨30, 1⟩, .w1c, 0x0, []⟩, ⟨⟨24, 4⟩, .ro, 0x0, []⟩, ⟨⟨0, 8⟩, .ro, 0x0, []⟩]⟩  -- BOOT_FSTAT
]

/-- The register tables of JRN. -/
def jrnRegs : List RegSpec := [
  ⟨0x400e0004, 4, 1, [⟨⟨31, 1⟩, .w1c, 0x0, []⟩, ⟨⟨3, 1⟩, .w1c, 0x0, []⟩, ⟨⟨2, 1⟩, .w1c, 0x0, []⟩, ⟨⟨1, 1⟩, .ro, 0x0, []⟩, ⟨⟨0, 1⟩, .ro, 0x0, []⟩]⟩,  -- JRN_STATUS
  ⟨0x400e0008, 4, 1, [⟨⟨24, 8⟩, .rw, 0x64, [(0, 0)]⟩, ⟨⟨16, 4⟩, .rw, 0x3, []⟩, ⟨⟨1, 6⟩, .rw, 0x3f, []⟩]⟩,  -- JRN_POLICY
  ⟨0x400e000c, 4, 1, [⟨⟨0, 14⟩, .rw, 0x0, []⟩]⟩,  -- JRN_PCFG
  ⟨0x400e0010, 4, 1, [⟨⟨0, 32⟩, .ro, 0x0, []⟩]⟩,  -- JRN_JSEQ
  ⟨0x400e0014, 4, 1, [⟨⟨16, 7⟩, .ro, 0x0, []⟩, ⟨⟨0, 14⟩, .ro, 0x0, []⟩]⟩,  -- JRN_FILL
  ⟨0x400e0018, 4, 1, [⟨⟨16, 14⟩, .ro, 0x0, []⟩, ⟨⟨0, 14⟩, .ro, 0x0, []⟩]⟩,  -- JRN_HEAD
  ⟨0x400e0020, 4, 1, [⟨⟨30, 2⟩, .ro, 0x0, []⟩, ⟨⟨24, 4⟩, .ro, 0x0, []⟩, ⟨⟨20, 4⟩, .ro, 0x0, []⟩, ⟨⟨19, 1⟩, .ro, 0x0, []⟩, ⟨⟨18, 1⟩, .ro, 0x0, []⟩, ⟨⟨17, 1⟩, .ro, 0x0, []⟩, ⟨⟨0, 8⟩, .ro, 0x0, []⟩]⟩,  -- JRN_RSTAT
  ⟨0x400e0024, 4, 1, [⟨⟨0, 32⟩, .ro, 0x0, []⟩]⟩,  -- JRN_RQ0
  ⟨0x400e0028, 4, 1, [⟨⟨0, 32⟩, .ro, 0x0, []⟩]⟩,  -- JRN_RQ1
  ⟨0x400e002c, 4, 1, [⟨⟨0, 16⟩, .ro, 0x0, []⟩]⟩,  -- JRN_RDMA
  ⟨0x400e0030, 4, 1, [⟨⟨16, 8⟩, .w1c, 0x0, []⟩, ⟨⟨8, 8⟩, .w1c, 0x0, []⟩, ⟨⟨0, 8⟩, .ro, 0x0, []⟩]⟩,  -- JRN_SUP
  ⟨0x400e0034, 4, 1, [⟨⟨31, 1⟩, .ro, 0x0, []⟩, ⟨⟨30, 1⟩, .w1c, 0x0, []⟩, ⟨⟨29, 1⟩, .ro, 0x0, []⟩, ⟨⟨28, 1⟩, .ro, 0x0, []⟩, ⟨⟨0, 14⟩, .ro, 0x0, []⟩]⟩,  -- JRN_PSTAT
  ⟨0x400e0038, 4, 1, [⟨⟨0, 32⟩, .ro, 0x0, []⟩]⟩,  -- JRN_PLAST
  ⟨0x400e0040, 4, 8, [⟨⟨0, 32⟩, .rw, 0x0, []⟩]⟩,  -- JRN_CKQ0
  ⟨0x400e0060, 4, 8, [⟨⟨0, 32⟩, .rw, 0x0, []⟩]⟩,  -- JRN_CKQ1
  ⟨0x400e0100, 4, 1, [⟨⟨31, 1⟩, .wo, 0x0, []⟩, ⟨⟨30, 1⟩, .ro, 0x0, []⟩, ⟨⟨29, 1⟩, .ro, 0x0, []⟩, ⟨⟨0, 14⟩, .rw, 0x0, []⟩]⟩,  -- JRN_RDCTL
  ⟨0x400e0140, 4, 16, [⟨⟨0, 32⟩, .ro, 0x0, []⟩]⟩  -- JRN_RDDATA
]

/-- The register tables of LCS. -/
def lcsRegs : List RegSpec := [
  ⟨0x400f0008, 4, 1, [⟨⟨24, 3⟩, .ro, 0x0, []⟩, ⟨⟨16, 5⟩, .ro, 0x0, []⟩, ⟨⟨0, 3⟩, .ro, 0x0, []⟩]⟩,  -- LCS_STATE
  ⟨0x400f0004, 4, 1, [⟨⟨31, 1⟩, .w1c, 0x0, []⟩, ⟨⟨8, 4⟩, .ro, 0x0, []⟩, ⟨⟨1, 1⟩, .ro, 0x0, []⟩, ⟨⟨0, 1⟩, .w1c, 0x0, []⟩]⟩,  -- LCS_STATUS
  ⟨0x400f0010, 4, 4, [⟨⟨0, 32⟩, .ro, 0x0, []⟩]⟩,  -- LCS_DEVID
  ⟨0x400f0020, 4, 1, [⟨⟨8, 1⟩, .ro, 0x0, []⟩, ⟨⟨4, 4⟩, .ro, 0x0, []⟩, ⟨⟨0, 4⟩, .ro, 0x0, []⟩]⟩,  -- LCS_KEYS
  ⟨0x400f0030, 4, 1, [⟨⟨16, 16⟩, .wo, 0x0, []⟩, ⟨⟨1, 1⟩, .wo, 0x0, []⟩, ⟨⟨0, 1⟩, .wo, 0x0, []⟩]⟩,  -- LCS_CMD
  ⟨0x400f0034, 4, 1, [⟨⟨16, 9⟩, .ro, 0x0, []⟩, ⟨⟨0, 2⟩, .ro, 0x0, []⟩]⟩,  -- LCS_SVC
  ⟨0x400f0040, 4, 1, [⟨⟨3, 1⟩, .ro, 0x0, []⟩, ⟨⟨2, 1⟩, .ro, 0x0, []⟩, ⟨⟨1, 1⟩, .ro, 0x0, []⟩, ⟨⟨0, 1⟩, .rw, 0x1, []⟩]⟩,  -- LCS_USB
  ⟨0x400f0044, 4, 1, [⟨⟨16, 16⟩, .ro, 0x0, []⟩, ⟨⟨0, 16⟩, .ro, 0x0, []⟩]⟩  -- LCS_USBID
]

/-- The register tables of the unit whose window index (address bits [20:16], R15) is `k`. -/
def unitRegs : Nat → List RegSpec
  | 0 => sysRegs
  | 1 => afeRegs
  | 2 => fltRegs
  | 3 => evtRegs
  | 4 => teuRegs
  | 17 => coreRegs
  | 16 => oasRegs
  | 5 => hicRegs
  | 6 => qmRegs
  | 7 => dmeRegs
  | 8 => timeRegs
  | 9 => actRegs
  | 10 => ethRegs
  | 11 => caerRegs
  | 12 => twpRegs
  | 13 => bootRegs
  | 14 => jrnRegs
  | 15 => lcsRegs
  | _ => []

end Sys2Proof.Machine
end

