-- ==== Sys2Proof/Machine/State.lean ====
section
/-! DEFINITION. The state of the hub: plain data, unit by unit, with the queue of commands that wait. Registers and memory
are sparse tables: a register that is not listed holds its reset value, and a byte that is not listed reads 0. -/

namespace Sys2Proof.Machine

open Sys2Proof

/-- Why a step stops with a fault. -/
inductive Fault where
  /-- Raised by the release of a COLD reset that samples TEST high: the part enters Salyth's production test (R50), and the
  spec gives that mode no behaviour. Safe: the model stops where the part goes on. -/
  | productionTest
  deriving DecidableEq, Repr

/-- Why a command has no meaning. -/
inductive Refusal where
  /-- Raised by an arm of `exec` whose command has no meaning yet, by its mnemonic. Safe: nothing can be proved of it. -/
  | notModelled (mnemonic : String)
  deriving DecidableEq, Repr

/-- A sparse table of values by number. The accessors in Machine/Ops.lean keep it sorted. -/
abbrev Tab (α : Type) := List (Nat × α)

/-- The three variants of R1. -/
inductive Variant where
  | gls9696 | gls9648 | gls9624
  deriving DecidableEq, Repr

/-- The kinds of bus error (R3, R8, R29, R33). -/
inductive BusErr where
  | absent | width | decode | ecc
  deriving DecidableEq, Repr

/-- The interrupt controller's view of one core (R247–R251, R260). -/
structure HicCore where
  /-- An offer is outstanding (step 3 of R248). -/
  offer : Bool := false
  /-- The core's accept is on its way (step 6 of R248). -/
  accept : Bool := false
  /-- A grant is on its way: a source number, or 0x3FF for spurious (step 8 of R248). -/
  grant : Option Nat := none
  /-- The core is in a handler (R247). -/
  inh : Bool := false
  /-- The claim number: a source, 0x3FF or 0x3FE. -/
  claim : Nat := 0x3FE
  /-- Events merged into the claim (R246). -/
  events : Nat := 0
  /-- The sources reserved for this core's first grant after a wake (R260). -/
  resv : List Nat := []
  /-- The core's RETI is on its way to the HIC (R251). -/
  done : Bool := false
  deriving DecidableEq, Repr

/-- The interrupt controller (R243–R254). -/
structure HicSt where
  /-- Edge events that cross to the HIC, oldest first. (DESIGN CHOICE, log 11) -/
  inflight : List Nat := []
  /-- The rule units of EVT whose request has changed and crosses to the HIC, oldest change first (R23, R24). (DESIGN CHOICE, log 11) -/
  asks : List Nat := []
  /-- Level sources that the HIC sees asserted. -/
  lvl : Tab Bool := []
  /-- Pending sources, with the count that passes to EVENTS; 0 is not pending (R244, R246). -/
  pend : Tab Nat := []
  /-- The held counts of the coalescers (R246). -/
  held : Tab Nat := []
  cores : Tab HicCore := []
  deriving DecidableEq, Repr

/-- One set of held words of a requester (R273): a pending push and a popped high word, each with its queue. -/
structure HeldSet where
  push : Option (Nat × Word) := none
  pop : Option (Nat × Word) := none
  deriving DecidableEq, Repr

/-- One queue (R268, R276, R281–R285). Positions run without wrapping; registers show them modulo the size. -/
structure QSt where
  rd : Nat := 0
  wr : Nat := 0
  mark : Nat := 0
  /-- The newest item is a live cullet. -/
  live : Bool := false
  restore : Bool := false
  /-- While a restore scan runs: the mark that it started from. -/
  scan : Option Nat := none
  /-- COMMITBUSY, with the position that the commit in JRN moves MARK to. -/
  busy : Option Nat := none
  /-- A COMMIT that arrived while COMMITBUSY is 1. -/
  again : Bool := false
  /-- Commits that belong to a checkpoint group in JRN: the core and the position (R436). -/
  ck : List (Nat × Nat) := []
  above : Bool := false
  deriving DecidableEq, Repr

/-- The queue manager. -/
structure QmSt where
  q : Tab QSt := []
  /-- Held words: cores outside a handler at 0–8, in a handler at 16–24, the debug and service port at 32 (R273). -/
  held : Tab HeldSet := []
  /-- The plant second whose epoch item FLT, and the TEU, last pushed to a queue (R139, R160, R280). -/
  epochF : Tab (Option Nat) := []
  epochT : Tab (Option Nat) := []
  deriving DecidableEq, Repr

/-- A journal record without its sequence number and CRC (R420, R421). `body` holds the payload as words from byte 8 on. -/
structure Rec where
  kind : Nat
  src : Nat
  argd : Nat
  body : List Nat
  deriving DecidableEq, Repr

/-- Who handed a group to JRN, and therefore who learns of its acknowledgement (R422–R424); of a fault whether its core's bit in CORE_ESC
was set, so that a WARM reset follows the acknowledgement (R231). -/
inductive JFrom where
  | launch (i : Nat)
  | launchDone
  | qmark (q : Nat)
  | dma (k : Nat)
  | ckpt (c : Nat)
  | snap
  | fault (c : Nat) (esc : Bool)
  | lcs
  deriving DecidableEq, Repr

/-- A group of records on its way into JRN (R422), and how many of the events that its island sent to the HIC before it are still under
way (R23). -/
structure Group where
  frm : JFrom
  recs : List Rec
  events : Nat := 0
  deriving DecidableEq, Repr

/-- What a core's pipeline is doing (R201, R202, R234, R250). Whether RUN stops it, a fault stops it or a power state gates it
is read from the registers. -/
inductive CoreMode where
  /-- Executing, one instruction per command. -/
  | run
  /-- Waiting in SLEEP. -/
  | sleep
  /-- Waiting in WAITEV. -/
  | waitev
  /-- Waiting for JRN to acknowledge a checkpoint. -/
  | ckpt
  /-- Accepted an offer; waiting for the grant. -/
  | accepted
  deriving DecidableEq, Repr

/-- A posted store (R226): its address, its width in bytes, its value, and whether code in handler state made it (R273). -/
structure Posted where
  addr : Nat
  width : Nat
  val : Nat
  handler : Bool := false
  deriving DecidableEq, Repr

/-- A load that waits for its answer (R195, R225). -/
structure LoadWait where
  addr : Nat
  width : Nat
  dest : Nat
  len : Nat
  deriving DecidableEq, Repr

/-- A Dexgar core (R179–R181, R224, R226, R235, R237, R250). -/
structure CoreSt where
  /-- The gather registers; an unlisted one is 0. -/
  g : Tab Word := []
  /-- The instruction being executed, in the format of R220. -/
  pc : Word := 0
  lr : Word := 0
  flags : BitVec 7 := 0
  vbase : Word := 0x3E00
  crcv : Word := 0xFFFFFFFF
  crcp : Word := 0x1EDC6F41
  crcc : BitVec 3 := 4
  savedPc : Word := 0
  savedFlags : BitVec 7 := 0
  /-- In handler state: from the accept to RETI (R250, R200). -/
  inHandler : Bool := false
  mode : CoreMode := .run
  /-- Where SLEEP, WAITEV or CKPT continues: the word or byte after it (R201, R202, R233). -/
  next : Word := 0
  /-- The core has started since its reset, or holds a restored PC (R238). -/
  started : Bool := false
  load : Option LoadWait := none
  /-- The event latch (R237). -/
  latch : Bool := false
  /-- Posted stores, oldest first, at most four. (DESIGN CHOICE, log 11) -/
  stores : List Posted := []
  /-- Byte-form blocks in the fetch buffer with their bytes, least recently executed first, at most four (R224). -/
  fetched : List (Nat × List Byte) := []
  /-- Blocks requested and not yet arrived. (DESIGN CHOICE, log 11) -/
  requested : List Nat := []
  /-- The watchdog's count (R235). -/
  wd : Nat := 0
  /-- The debug port holds the core (R247, R460). -/
  held : Bool := false

  deriving DecidableEq, Repr

/-- Where the part stands in its resets and supplies (R81–R85, R472, R255). -/
inductive PowPhase where
  /-- A COLD cause holds the part. -/
  | cold
  /-- AO logic has left reset and waits for VCORE (R84). -/
  | vcore
  /-- VCORE is up and the PLLs lock (R84). -/
  | lock
  /-- The fabric runs. -/
  | up
  /-- A WARM reset is held (R85). -/
  | warm
  /-- VCORE is off in OASIS (R255). -/
  | oasis
  deriving DecidableEq, Repr

/-- Resets, supplies, pads and power states (R73–R87, R255–R263). -/
structure PowSt where
  phase : PowPhase := .up
  /-- COLD causes that are present: PORST_N low, VAO below its threshold; and the bits of SYS_RESETCAUSE that the release of
  the COLD reset records (R84). -/
  porstLow : Bool := false
  vaoLow : Bool := false
  coldCauses : Nat := 0
  /-- WARM causes that last: RESET_N low, VCORE below its threshold (R82). -/
  resetnLow : Bool := false
  vcoreLow : Bool := false
  /-- VCORE has risen in a wake from OASIS (R261); a WARM cause that arose in OASIS waits for that (R262). -/
  vcoreUp : Bool := false
  warmAfterWake : Bool := false
  /-- SYS_TEMPCFG as it stood on entry into OASIS, for sensor 3 (R73, R263). -/
  aoTemp : Word := 0x5CC
  pllF : Bool := true
  /-- The PLL_T lock; the TIME counter ticks from the first one (R305). -/
  pllT : Bool := false
  /-- The ball levels of ADDR and TEST, and ADDR as sampled (R50, R51). (DESIGN CHOICE, log 14) -/
  addrBalls : BitVec 3 := 0
  testHigh : Bool := false
  addrSampled : BitVec 3 := 0
  /-- Ball levels of GPIO0–GPIO14 as the outside drives them. -/
  gpioBalls : BitVec 15 := 0
  /-- Directions and outputs that the AO pads hold (R87). -/
  padDir : BitVec 15 := 0
  padOut : BitVec 15 := 0
  /-- Source 2 may be raised again (R73). -/
  tempArmed : Bool := true
  /-- Sensor 3 as the wake watcher sees it: it has reached TEMP_HI and has not fallen below TEMP_HI − HYST (R263). -/
  temp3High : Bool := false
  /-- PFAIL_N is low; a flush runs (R75). -/
  flushing : Bool := false
  /-- The state that an entry in progress leads to, as TRANS shows (R258). -/
  entry : Option Nat := none
  /-- PWR_EN is driven high. -/
  pwrEn : Bool := true
  /-- A wake in progress, with the state it wakes from (R261). -/
  waking : Option Nat := none
  /-- The wake-watcher sources asserted in OASIS and delivered to C8: a grant on its way, and the claim (R263). -/
  watchOffer : Bool := false
  watchAccept : Bool := false
  watchGrant : Option Nat := none
  watchClaim : Option Nat := none
  deriving DecidableEq, Repr

/-- The holding set of a core whose suppression list is not empty (R443): an entry index and the last store to each of its
words 0–2. -/
structure HoldSet where
  entry : Nat
  w0 : Option Word := none
  w1 : Option Word := none
  w2 : Option Word := none
  deriving DecidableEq, Repr

/-- What the TEU latched at a normal step (R430): V[512]–V[720], and the validity of every channel. -/
structure StepIn where
  vals : List Word
  valid : List Bool
  deriving DecidableEq, Repr

/-- The journal (R420–R450). -/
structure JrnSt where
  /-- Groups on their way into JRN, in arrival order (R423). (DESIGN CHOICE, log 11) -/
  handed : List Group := []
  /-- Accepted groups that wait for their acknowledgement, each with the JSEQ of its first record. -/
  toAck : List (Nat × Group) := []
  /-- How many of these, the oldest ones, an earlier epoch has (R428). (DESIGN CHOICE, log 59) -/
  stale : Nat := 0
  /-- Acknowledgements (`true`) and refusals on their way back to the requesters (R423, R424). (DESIGN CHOICE, log 11) -/
  acked : List (Group × Bool) := []
  /-- Unflushed lines in the staging SRAM, oldest first; a line holds up to 64 bytes (R425). The oldest lies in the 64-byte slot `base` of
  the SRAM's 512, the others in the slots after it; `flips` holds the errors in its words by byte offset, as codeword positions (R31,
  R471). (DEDUCED, log 58) -/
  lines : List (List Byte) := []
  base : Nat := 0
  flips : Tab Nat := []
  /-- The oldest of them was written early, when it was shorter, at this line of the store; or with none unflushed, the newest
  line was written early and still has room: where, and its bytes (R425). -/
  partialAt : Option Nat := none
  tail : Option (Nat × List Byte) := none
  /-- The line that the flush engine writes now, and the bytes. -/
  writing : Option (Nat × List Byte) := none
  /-- The line of the own ring that is written next (R426). -/
  head : Nat := 0
  /-- The lines of the own ring that the current epoch has written, oldest first (R428). -/
  written : List Nat := []
  /-- The non-volatile store by line; an unlisted line is erased (R426). -/
  store : Tab (List Byte) := []
  /-- The bad-line map (R425). -/
  bad : List Nat := []
  /-- The control line: the SEQ of the image that runs the epoch and the JSEQ of its first record (R428). -/
  epoch : Option (Nat × Nat) := none
  /-- The replay index (R429): the checkpoint groups, QMARKs, DMA-POINTs and the TEU snapshot of the current epoch, and the
  latest LAUNCH-COMMIT of each entry (R447), each with the JSEQ of its first record. -/
  ckpts : Tab (Option (Nat × List Rec)) := []
  qmarks : Tab (Option (Nat × Rec)) := []
  dmas : Tab (Option (Nat × Rec)) := []
  snap : Option (Nat × List Rec) := none
  launches : Tab (Option (Nat × Rec)) := []
  /-- LAUNCH-COMMIT records of each core since its last committed checkpoint or the epoch's begin (R442). -/
  since : Tab (List Rec) := []
  /-- The step-input buffer, oldest first, at most 8 (R430), and the normal steps since the snapshot (R438). -/
  stepIn : List StepIn := []
  stepsSince : Nat := 0
  /-- The suppression list of each core and its holding set (R442, R443). -/
  sup : Tab (List Rec) := []
  hold : Tab (Option HoldSet) := []
  /-- When the last replay ended, in ticks of PLL_T since the counter started or from before it, and the WARM resets in a row that began
  less than 1 s after one (R431). -/
  replayEnd : Option Int := none
  quick : Nat := 0
  /-- In a replay: REPLAY_RESTORE has run and the queue scans and REPLAY_FINISH are to come (R432). -/
  restored : Bool := false
  /-- COLD resume runs, and HOLD clears when the servo first reaches LOCKED (R445). -/
  coldHold : Bool := false
  /-- The partner ring (R446–R448): the bytes of the line being filled, and the JSEQ of the last live record. -/
  pLine : List Byte := []
  pLast : Option Nat := none
  /-- A gap has struck in the baseline that is being received: the rest of it completes nothing (R448). -/
  pBad : Bool := false
  /-- A read through JRN_RDCTL in progress: the line (R449). -/
  reading : Option Nat := none
  deriving DecidableEq, Repr

/-- A Caer frame (R357). ACKSEQ is what the sender had received when the frame left; `resent` counts its resends while it waits for its
acknowledgement (R356). -/
structure CFrame where
  typ : Nat
  hops : Nat := 0
  src : Nat
  dst : Nat := 0
  bc : Bool := false
  dstq : Nat := 0
  lseq : Nat := 0
  ackseq : Option Nat := none
  payload : List Byte := []
  resent : Nat := 0
  deriving DecidableEq, Repr

/-- A Caer link (R355–R364). -/
structure LinkSt where
  /-- Intact IDENT frames received and IDENT frames sent since TRAIN began (R355). -/
  identRx : Nat := 0
  identTx : Nat := 0
  /-- The next LSEQ to send and the next LSEQ to accept, modulo 4,096 (R360). -/
  nextSeq : Nat := 0
  expSeq : Nat := 0
  /-- Sequenced frames sent and not acknowledged, oldest first, at most 16. -/
  unacked : List CFrame := []
  /-- Frames that wait to be sent, in the order they were queued. -/
  waiting : List CFrame := []
  /-- An acknowledgement is owed (R360). -/
  ackDue : Bool := false
  /-- The upstream end's exchange: t1 in 1/16 ns and the exchange number (R363). -/
  exUp : Option (Nat × Nat) := none
  exNum : Nat := 0
  /-- The downstream end's exchange: number, t1, t2 and t3 in 1/16 ns. -/
  exDown : Option (Nat × Nat × Nat × Nat) := none
  /-- The frames that have left the port, oldest first: the model's record of its output. -/
  wire : List CFrame := []
  /-- The partner number in the peer's IDENT (R371). -/
  partner : Nat := 0
  deriving DecidableEq, Repr

/-- The Caer links and the mirror pair (R353–R378). -/
structure CaerSt where
  link : Tab LinkSt := []
  /-- Journal records that wait for the pair link (R373). -/
  jbuf : List (List Byte) := []
  /-- A baseline is due: PAIRED has been entered, or a STREAMGAP has occurred (R447). -/
  gap : Bool := false
  /-- The JSEQ of the last live record sent, for HEART (R447). -/
  lastLive : Option Nat := none
  /-- The balls: this hub drives PAIR_OK low, pulls TAKEOVER low; and the other hub does (R52). -/
  pairOkLow : Bool := true
  takeLow : Bool := false
  partnerPairOkLow : Bool := true
  partnerTakeLow : Bool := false
  /-- The higher-numbered hub's wait of R375 runs. -/
  takeDelay : Bool := false
  deriving DecidableEq, Repr

/-- Whether an entry of the launch table is free, waits for JRN, is armed, or has been dispatched to FLT and stays valid until
its execution tick (R316, R321). -/
inductive LState where
  | free | pending | armed | dispatched
  deriving DecidableEq, Repr

/-- A launch-table entry (R314). Word 3 is held without VALID and JPEND, which the state gives. -/
structure LEnt where
  w0 : Word := 0
  w1 : Word := 0
  w2 : Word := 0
  w3 : Word := 0
  seq : Word := 0
  st : LState := .free
  /-- The entry is late (R319); once dispatched, how its LAUNCH-DONE record will call it (R318). -/
  late : Bool := false
  how : Nat := 0
  /-- A one-shot entry that has executed and has not been written since (R321). -/
  ran : Bool := false
  /-- A TEU bank swap that a step scheduled on the same tick has taken at its latch, before the entry's own turn (R171). -/
  given : Bool := false
  deriving DecidableEq, Repr

/-- The holdover of TIME in AO (R313): the counter as handed over, the servo's i, the frequency of the 32.768 kHz clock as measured,
in ticks of PLL_T for every 2^15 of its own, and the ticks of it counted since. (DESIGN CHOICE, log 37) -/
structure AoTime where
  t : Nat
  i : Int
  per : Nat
  ticks : Nat := 0
  deriving DecidableEq, Repr

/-- TIME (R305–R323). -/
structure TimeSt where
  table : Tab LEnt := []
  /-- The counter that each requester's load of TIME_NOW0 captured, in ticks: cores 0–8, DME 9, service port 10 (R306). -/
  latch : Tab Nat := []
  /-- The servo's integrator and trim in units of 2^-20 ppb, and its consecutive samples within LOCKTHR (R309, R310). -/
  i : Int := 0
  trim : Int := 0
  good : Nat := 0
  /-- The control word of PLL_T as a trim: the servo's, frozen while the reference is lost (R79). -/
  pll : Int := 0
  /-- The last plant second whose beginning raised source 15. -/
  sec : Nat := 0
  /-- The sum of the steps since the counter started, in ticks: time less this counts ticks of PLL_T. -/
  adj : Int := 0
  /-- How many steps the counter has made (R344). -/
  steps : Nat := 0
  /-- Offset samples that cross from a Caer link to TIME, oldest first (R364). (DESIGN CHOICE, log 11) -/
  samples : List (Nat × Word) := []
  /-- What TIME handed to AO on entry into OASIS (R313). -/
  ao : Option AoTime := none
  /-- The destinations that take one launch action per tick, FLT 0, TEU 1, FAB 2, CAER0 3 and CAER1 4, each with the first tick of
  PLL_T on which it is free (R318). -/
  slot : Tab Nat := []
  deriving DecidableEq, Repr

/-- An output of ACT (R324–R331). -/
structure OutSt where
  owned : Bool := false
  acc : Nat := 0
  /-- On in the current cycle or half-cycle. -/
  on : Bool := false
  /-- A change of mode waits for the first cycle start or decision (R324). -/
  wait : Bool := false
  /-- DUTY of the current cycle, and of a PWM cycle the tick of its start, its length and its high part in ticks. -/
  duty : Nat := 0
  start : Nat := 0
  len : Nat := 0
  high : Nat := 0
  /-- The polarity of the last half-cycle it was on, positive `true` (R327). -/
  last : Option Bool := none
  /-- The crossings for which it has decided: at Z, and at Z + T/2 (R475). -/
  doneZ : Option Nat := none
  doneB : Option Nat := none
  deriving DecidableEq, Repr

/-- A predicted crossing (R328): its instant, the period that it was predicted with, and whether source 28 + p has been raised for
it. -/
structure Cross where
  z : Nat
  t : Nat
  told : Bool := false
  deriving DecidableEq, Repr

/-- A mains phase (R328). Times are in ticks. -/
structure MainsSt where
  /-- The last accepted edge since tracking began or the phase timed out. -/
  edge : Option Nat := none
  /-- In-range intervals since the history was last cleared, the last 8. -/
  hist : List Nat := []
  /-- The mean period. -/
  period : Nat := 0
  /-- The last crossings predicted, oldest first, at most four: each gets its source and its decisions (R328, R475). (DEDUCED, log 38) -/
  preds : List Cross := []
  /-- The last true crossing, which ACT_MAINS_ZX shows. -/
  zx : Option Nat := none
  deriving DecidableEq, Repr

/-- ACT (R324–R332). The latches lie in the AO island (R20). -/
structure ActSt where
  out : Tab OutSt := []
  latch : Tab Bool := []
  /-- A generator setting that a write to ACT_GEN replaced, and the plant second of the write: it stays in force until that
  second ends (R325). -/
  gen : Tab (Option (Word × Nat)) := []
  /-- The tick at which each generator last started a cycle. -/
  cycle : Tab (Option Nat) := []
  mains : Tab MainsSt := []
  /-- One more than the tick of PLL_T on which SAFE was last applied to each output (R329). -/
  safeAt : Tab Nat := []
  deriving DecidableEq, Repr

/-- The digital state of one channel of the AFE (R88, R91, R92). Edges are AFE edges since the counter started. -/
structure AfeCh where
  /-- The validity flag, and the edge from which it has been clear. -/
  valid : Bool := false
  since : Nat := 0
  /-- The edge on which a restart ends and the flag becomes set. -/
  restart : Option Nat := none
  /-- AFE_CH_CFG as it was in force before that edge. (DESIGN CHOICE, log 16) -/
  prior : Word := 0
  /-- The modulator's integrators are clear: after a restart, or 64 equal bits. -/
  zeroed : Bool := true
  /-- NAP has powered the channel down (R92, R108). -/
  off : Bool := false
  deriving DecidableEq, Repr

/-- A running wiring test (R102–R107). -/
structure TestSt where
  /-- LOOP, else LEAK. -/
  loop : Bool
  seq : Bool
  /-- The channels under test, and the masked channels that follow. -/
  now : List Nat
  rest : List Nat
  /-- The phase of the dwell: 0–1 in LEAK, 0–3 in LOOP. -/
  phase : Nat := 0
  /-- Channels that overloaded while the current was on. -/
  ovl : List Nat := []
  deriving DecidableEq, Repr

/-- A cascaded integrator-comb section (R115): its integrators and its combs, and the bits or sums in its open window. -/
structure CicSt where
  ints : List Nat := []
  combs : List Nat := []
  n : Nat := 0
  deriving DecidableEq, Repr

/-- The analogue front end (R88–R111). -/
structure AfeSt where
  ch : Tab AfeCh := []
  /-- The internal reference is within 0.05 % of its value (R94). -/
  ref : Bool := false
  test : Option TestSt := none
  /-- The AO copies of AFE_WATCH_CFG and AFE_EXC_CFG (R109), and the AO decimators with their count of results. -/
  aoWatch : Tab Word := []
  aoExc : Tab Word := []
  aoCic : Tab CicSt := []
  aoCount : Tab Nat := []
  deriving DecidableEq, Repr

/-- A final item value (R130): VALUE, RANGE, LIN. -/
structure ItemVal where
  v : Int := 0
  rng : Bool := false
  lin : Bool := false
  deriving DecidableEq, Repr

/-- One decimation path of a channel (R112–R118, R130), with its copy of the profile's registers. -/
structure PathSt where
  prof : Nat := 0
  a : Word := 0x14
  b : Word := 0x10001
  /-- The edge whose bit is the first of its first window. -/
  start : Nat := 0
  /-- Stage 1: its section, and for sinc4 at 1024 section B. -/
  cic : CicSt := {}
  cicB : CicSt := {}
  /-- Stage-1 outputs towards the next stage-2 output, and stage-2 outputs since the start. -/
  j : Nat := 0
  m : Nat := 0
  /-- The delay lines, newest value first: one of L2 values of u, or in MR three of 100. -/
  line1 : List Int := []
  line2 : List Int := []
  line3 : List Int := []
  /-- The path's most recent output as a final item value: for one that is not complete, what its SETTLE item carries. -/
  out : Option ItemVal := none
  deriving DecidableEq, Repr

/-- The filter state of one channel (R122–R132, R473). -/
structure FltCh where
  /-- The path that produces the items; none while the channel has no phase. -/
  main : Option PathSt := none
  /-- The second path of a change in progress, and the fade items it has produced. -/
  alt : Option PathSt := none
  fade : Nat := 0
  /-- The AFE edge of the next bit that the channel takes. -/
  next : Nat := 0
  /-- The active profile, and its working settings once it has been requested (R112). -/
  prof : Nat := 0
  work : Option (Word × Word) := none
  pending : Option Nat := none
  /-- The most recent item without SETTLE since the SENSOR field last changed (R124), and since the last restart (R134, R135). -/
  last : Option ItemVal := none
  recent : Option ItemVal := none
  deriving DecidableEq, Repr

/-- A sync that waits for its edge (R126–R128). -/
structure SyncReq where
  edge : Nat
  mask : Nat
  out : Bool
  deriving DecidableEq, Repr

/-- A response request that waits for its edge (R129): of one channel, or by a launch of the channels of a set of groups; and its
profile, or none for an AFE restart, which asks for the one that PROF names. -/
structure FltReq where
  edge : Nat
  chan : Option Nat := none
  groups : Nat := 0
  prof : Option Nat := none
  deriving DecidableEq, Repr

/-- A channel's item as posted to the TEU (R18, R113, R150). -/
structure PostedItem where
  v : Word
  settle : Bool
  rng : Bool
  edge : Nat
  deriving DecidableEq, Repr

/-- The filters (R112–R139). -/
structure FltSt where
  ch : Tab FltCh := []
  syncs : List SyncReq := []
  /-- Response requests that wait, in the order of their edges (R129). -/
  reqs : List FltReq := []
  /-- The capture of the last accepted SYNC_IN edge, in ticks of PLL_T. -/
  syncIn : Option Nat := none
  /-- SYNC_OUT is high, since this edge (R127). -/
  syncOut : Option Nat := none
  /-- Each channel's latest items, newest first, at most two. -/
  post : Tab (List PostedItem) := []
  deriving DecidableEq, Repr

/-- The histories of a rule unit (R143–R145). -/
structure EvtU where
  hist : List Int := []
  ref : Option Int := none
  run : Nat := 0
  opens : Nat := 0
  deriving DecidableEq, Repr

/-- The thermal estimator (R150–R178). -/
structure TeuSt where
  /-- The low word held for an entry: bank, index, value (R165). -/
  held : Option (Nat × Nat × Word) := none
  /-- A running step: what it latched, and its step instant in units of 1/32 ns (R156). -/
  run : Option (StepIn × Nat) := none
  /-- Warm-up steps that remain (R161). -/
  warm : Nat := 0
  /-- The tick of PLL_T of the last normal latch (R164). -/
  last : Option Nat := none
  /-- The bank whose validation runs (R170). -/
  val : Option Nat := none
  /-- Stores to state words during a step (R167). -/
  defer : Tab (Option Word) := []
  /-- After a WARM reset the state words are undefined (R177): the free values that stand for them begin at this number, and
  the words listed have been written since. (DESIGN CHOICE, log 21) -/
  xopen : Option (Nat × List Nat) := none
  /-- JRN has not finished storing a snapshot; and the normal steps completed since the last one was handed over (R173, R438). -/
  snapBusy : Bool := false
  after : Nat := 0
  deriving DecidableEq, Repr

/-- A data element of a caravan on its way (R294): its address, its length, MARK, END, the fixed-side address after it, and its bytes
that have been written and its bursts that are in flight, none of them acknowledged yet (R299, R300). -/
structure DmaEl where
  addr : Nat
  len : Nat
  mark : Bool
  fin : Bool
  fixEnd : Nat
  out : Nat := 0
  fly : Nat := 0
  deriving DecidableEq, Repr

/-- The first error of a transfer (R296, R301). `list` says that it arose while fetching an element; `el` is the element. -/
structure DmaErr where
  kind : Nat
  write : Bool := false
  addr : Nat
  list : Bool := false
  el : Nat
  deriving DecidableEq, Repr

/-- What a fetch has brought (R294, R296): a data element, its address and its two words; or an error. -/
inductive DmaFetch where
  | element (addr w0 w1 : Nat)
  | bad (e : DmaErr)
  deriving DecidableEq, Repr

/-- A DMA channel, beside its registers (R295–R303). -/
structure DmaCh where
  /-- The element requested and not yet arrived, with the LINK elements before it in a row. -/
  fetch : Option (Nat × Nat) := none
  /-- The element whose bytes are being issued. -/
  cur : Option DmaEl := none
  /-- What was fetched behind the current element, whose last read has been issued and whose bytes are not all written (R295). -/
  ahead : Option DmaFetch := none
  /-- Elements whose bytes have all been issued and that have not completed, oldest first. -/
  done : List DmaEl := []
  /-- Bytes of the current element that have been read and not yet written: part of a unit at a 64-byte boundary (R292). -/
  part : List Byte := []
  err : Option DmaErr := none
  aborting : Bool := false
  /-- A pop returned EMPTY, and the channel waits before it repeats it (R291). -/
  wait : Bool := false
  deriving DecidableEq, Repr

/-- The DMA engine (R290–R304). `last` holds the channel last served at each level. -/
structure DmeSt where
  ch : Tab DmaCh := []
  last : Tab (Option Nat) := []
  deriving DecidableEq, Repr

/-- A key slot of the fuses (R455): its hash, where it is programmed, and its revocation fuse. -/
structure KeySlot where
  hash : Option (List Byte) := none
  revoked : Bool := false
  deriving DecidableEq, Repr

/-- The fuses (R451, R455, R410). (DESIGN CHOICE, log 6) -/
structure FuseSt where
  /-- The fuses blown in the two redundant rows of the life-cycle counter. -/
  rowA : Nat := 2
  rowB : Nat := 2
  devid : BitVec 128 := 0
  vendor : Option (List Byte) := some (List.replicate 32 0)
  slots : Tab KeySlot := [(0, { hash := some (List.replicate 32 0) })]
  vid : BitVec 16 := 0
  pid : BitVec 16 := 0
  /-- The rollback floor. -/
  floor : Nat := 0
  deriving DecidableEq, Repr

/-- A SERVICE session (R459): its roles, the slot that signed its token, DURATION, and the minutes that LEFT last showed. -/
structure Session where
  roles : Nat
  slot : Nat
  minutes : Nat
  left : Nat
  deriving DecidableEq, Repr

/-- The response to an Uhlas command (R465), as it leaves the hub. -/
structure Response where
  path : Path
  cmd : Nat
  tag : Byte
  /-- LEN: the payload's bytes, or the words that a WRITE32 wrote (R466). -/
  len : Nat
  status : Nat
  detail : Nat
  payload : List Byte
  deriving DecidableEq, Repr

/-- The USB device (R463): the pull-up stays connected since USB_VBUS was above 4.0 V; the address and the configuration that the host
has set; the halts of the two bulk endpoints, and the responses that wait for endpoint 2 to carry frames again, oldest first; and the
model's record of its output: the answer to the last standard request, none for a stall. (DESIGN CHOICE, log 71) -/
structure UsbSt where
  kept : Bool := false
  addr : Nat := 0
  configured : Bool := false
  haltOut : Bool := false
  haltIn : Bool := false
  late : List Response := []
  answer : Option (List Byte) := none
  deriving DecidableEq, Repr

/-- What the service port waits for before it answers a command (R465): a token's check, a line of the journal, the end of a
flash command. -/
inductive Waiting where
  | token | line | flash
  deriving DecidableEq, Repr

/-- Life-cycle control and the service paths (R451–R468). -/
structure LcsSt where
  /-- The life-cycle counter as the last COLD reset read it. -/
  counter : Nat := 2
  session : Option Session := none
  /-- A COLD reset ended a session of so many minutes, and its record is due at the next boot (R467). -/
  ended : Option Nat := none
  nonce : Option (BitVec 64) := none
  fails : Nat := 0
  /-- A RETURN-OEM token is held (R457). -/
  heldRet : Bool := false
  /-- The completion mark of the RETURN erasure, in the control line (R453). -/
  mark : Bool := false
  /-- A command that waits for its answer, and the DAP or USB command that it came as. -/
  waiting : Option (Waiting × UFrame) := none
  /-- 1 ms runs after the response to RESET (R466). -/
  resetDue : Bool := false
  /-- The model's record of its output: the last response, and what a DAP debug command read. (DESIGN CHOICE, log 71) -/
  resp : Option Response := none
  dbg : Word := 0
  /-- USB_VBUS against its thresholds (R463). -/
  vbus : VbusLevel := .low
  usb : UsbSt := {}
  deriving DecidableEq, Repr

/-- The kinds of load (R405). -/
inductive Load where
  | cold | warm | wake | aoreset
  deriving DecidableEq, Repr

/-- Where a load takes an image from (R415): a slot of the flash, or the retained copy. -/
inductive From where
  | slot (n : Nat)
  | copy
  deriving DecidableEq, Repr

/-- An image as BOOT holds it: its header, table and signature block, and the bodies read so far by table index; and the slot
that it came from, with the flash's density. -/
structure Image where
  head : List Byte := []
  bodies : Tab (List Byte) := []
  slot : Nat := 0
  density : Nat := 0
  deriving DecidableEq, Repr

/-- The retained area of the journal's store (R411, R413). -/
structure RetSt where
  /-- The committed SEQ, the trial SEQ, and the rejected ones. -/
  committed : Option Nat := none
  trial : Option Nat := none
  rejected : List Nat := []
  /-- The retained copy, whether it is complete, whether the image is too large to retain, and its lines. -/
  copy : Image := {}
  valid : Bool := false
  none_ : Bool := false
  lines : Nat := 0
  /-- The last WARM or COLD reset came in a trial, and its load has not begun (R411, R415). -/
  tried : Bool := false
  deriving DecidableEq, Repr

/-- A flash command as sent (R417): the word of BOOT_FCMD, the address, and the data to the flash. -/
structure FlashOp where
  cmd : Word
  addr : Word
  data : List Byte
  deriving DecidableEq, Repr

/-- The settings loader (R397–R419). -/
structure BootSt where
  /-- Loads that wait to begin, and the one in progress. -/
  due : List Load := []
  load : Option Load := none
  src : From := .copy
  /-- Images whose headers have been read and pass, in the order in which BOOT takes them. -/
  queue : List Image := []
  img : Image := {}
  /-- The next section, the writes held back, and the units written (R406, R409). -/
  idx : Nat := 0
  held : List (Nat × Word) := []
  touched : List Nat := []
  /-- The sections have been applied, and the load waits for JRN (R432, R445). -/
  applied : Bool := false
  /-- The running image, whether its copy is being stored (R414), and the head of the image that ran before the last reset (R416). -/
  run : Image := {}
  copying : Bool := false
  ran : List Byte := []
  /-- The flash has no 4-byte Address Instruction Table, and it has been put into its 4-byte mode (R399). -/
  noTable4 : Bool := false
  mode4 : Bool := false
  /-- The read instruction that BOOT has taken for sections, its mode and dummy cycles together, and the first of them with a 4-byte address
  (R398–R400). -/
  rdInstr : Byte := 3
  rdDummy : Nat := 0
  rdAddr4 : Bool := false
  /-- The model's record of its output: the flash commands that BOOT_FCMD sent, and those of BOOT itself but for its reads of headers. (DESIGN CHOICE, log 71) -/
  sent : List FlashOp := []
  ret : RetSt := {}
  deriving DecidableEq, Repr

/-- A frame in an egress queue (R340): its bytes without FCS; of a forwarded one the ingress port, the receive timestamp in
2^-16 ns, and the counter's steps before it. -/
structure EFrame where
  bytes : List Byte
  src : Option Nat := none
  rx : Nat := 0
  steps : Nat := 0
  deriving DecidableEq, Repr

/-- The transmit slot in progress (R349): its index, its address, word 0, and the ports that it names. -/
structure TxSlot where
  slot : Nat
  addr : Nat
  w0 : Nat
  ports : List Nat
  deriving DecidableEq, Repr

/-- A Clause 22 management frame as the hub sends it (R338): its operation, the addresses, and the data of a write. -/
structure MdioFrame where
  op : Nat
  phy : Nat
  reg : Nat
  data : Option Nat
  deriving DecidableEq, Repr

/-- Ethernet (R336–R352). -/
structure EthSt where
  /-- The egress queues of each port, oldest first. -/
  hi : Tab (List EFrame) := []
  lo : Tab (List EFrame) := []
  tx : Option TxSlot := none
  /-- A management frame in progress: a read or not. -/
  mdio : Option Bool := none
  /-- The model's record of its output: the frames that each port has sent, padded and with their FCS. (DESIGN CHOICE, log 71) -/
  wire : Tab (List (List Byte)) := []
  /-- The model's record of its output: the management frames sent (R338). (DESIGN CHOICE, log 71) -/
  frames : List MdioFrame := []
  deriving DecidableEq, Repr

/-- A controller command of a two-wire port (R390, R394). `run` says that it has the bus. -/
structure TwpCmd where
  recover : Bool := false
  addr : Nat := 0
  wlen : Nat := 0
  rlen : Nat := 0
  cbuf : Nat := 0
  run : Bool := false
  abort : Bool := false
  deriving DecidableEq, Repr

/-- A two-wire port (R379–R396). -/
structure TwpPort where
  /-- The bus is not free. -/
  busy : Bool := false
  /-- Configuration writes that wait for a free bus, oldest first: address and word. -/
  held : List (Nat × Word) := []
  /-- A write to TWP_TPTR that waits for the next addressed START. -/
  ptr : Option Nat := none
  /-- The port is addressed in the present transfer, for a read (`true`) or a write; and was so in the present sequence. -/
  xfer : Option Bool := none
  seen : Bool := false
  /-- Pointer bytes received in this transfer, and the first of two. -/
  np : Nat := 0
  hi : Nat := 0
  /-- A and TMASK of a forerunner address. -/
  page : Nat := 0
  /-- The byte loaded for the next read. -/
  next : Byte := 0
  /-- Data bytes written and sent in the sequence. -/
  wcnt : Nat := 0
  rcnt : Nat := 0
  cmd : Option TwpCmd := none
  /-- The model's record of its output: data bytes that the port has sent, as a target and as a controller. (DESIGN CHOICE, log 71) -/
  sent : List Byte := []
  deriving DecidableEq, Repr


/-- THE STATE OF THE HUB. -/
structure State where
  /-- The commands that wait, first in, first out. (DESIGN CHOICE, log 1) -/
  pending : List Instr := []
  variant : Variant := .gls9696
  /-- The TIME counter, in ticks of 3.90625 ns from second 0 (R305). -/
  time : Nat := 0
  /-- The registers that do not hold their reset value, by address. -/
  regs : Tab Word := []
  /-- The bytes of memory that are not 0, by the address of R28 (own scratch of core c at 0x41_0000 + 0x2000 c). (DESIGN CHOICE, log 4) -/
  mem : List Host.Cell := []
  /-- The errors in protected words, by the word's address: the codeword positions that are wrong (R471), or for a parity
  memory the wrong data and parity bits. (DESIGN CHOICE, log 4) (DESIGN CHOICE, log 5) -/
  flips : Tab Nat := []
  /-- The model's own: how many free values have been drawn. (DESIGN CHOICE, log 7) -/
  freeCtr : Nat := 0
  /-- The model's own: what the last bus read returned. (DESIGN CHOICE, log 71) -/
  rdata : Item := 0
  /-- The model's own: the last bus error. (DESIGN CHOICE, log 71) -/
  rerr : Option BusErr := none
  pow : PowSt := {}
  hic : HicSt := {}
  qm : QmSt := {}
  cores : Tab CoreSt := []
  jrn : JrnSt := {}
  caer : CaerSt := {}
  tim : TimeSt := {}
  act : ActSt := {}
  afe : AfeSt := {}
  flt : FltSt := {}
  evt : Tab EvtU := []
  teu : TeuSt := {}
  dme : DmeSt := {}
  fuse : FuseSt := {}
  lcs : LcsSt := {}
  boot : BootSt := {}
  eth : EthSt := {}
  twp : Tab TwpPort := []
  deriving DecidableEq, Repr

/-- The machine right after a COLD reset: the fabric has left reset, PLL_T has not locked and BOOT has not begun (R84, R472).
Every register holds the value of its table but for the two that R79 and R80 make differ. (DESIGN CHOICE, log 3) (DESIGN CHOICE, log 6) -/
def State.reset : State :=
  { regs := [(0x40000010, 1), (0x40000014, 1)], boot := { due := [.cold] } }

end Sys2Proof.Machine
end

