-- ==== Sys2Proof/Machine/Tables.lean ====
section
/-! DEFINITION. The sparse tables that State is made of, and the reset values of the registers. -/

namespace Sys2Proof.Machine

open Sys2Proof

/-- The value at `i`, or `d` where `i` is not listed. -/
def tget {α : Type} : Tab α → α → Nat → α
  | [], d, _ => d
  | (j, v) :: r, d, i => if j = i then v else tget r d i

/-- The table with a value put at `i`, before the first larger number. -/
def tput {α : Type} : Tab α → Nat → α → Tab α
  | [], i, v => [(i, v)]
  | (j, w) :: r, i, v =>
    if j = i then (i, v) :: r else if i < j then (i, v) :: (j, w) :: r else (j, w) :: tput r i v

/-- The table without an entry at `i`. -/
def tdel {α : Type} (t : Tab α) (i : Nat) : Tab α := t.filter fun e => e.1 != i

/-- The table with `v` at `i`, where `d` is what an unlisted number reads as: no entry holds its default, so equal contents
are equal tables. -/
def tset {α : Type} [DecidableEq α] (d : α) (t : Tab α) (i : Nat) (v : α) : Tab α :=
  if v = d then tdel t i else tput t i v

/-- The register table that an address belongs to, with the register's index in it. -/
def specOf (a : Nat) : Option (RegSpec × Nat) :=
  (unitRegs (a / 0x10000 % 32)).findSome? fun r =>
    if r.base ≤ a ∧ a < r.base + r.stride * r.count ∧ (a - r.base) % r.stride = 0 then
      some (r, (a - r.base) / r.stride)
    else none

/-- The sources whose kind is fixed as level (R243). -/
def fixedLevel (s : Nat) : Bool :=
  s = 3 || s = 4 || s = 7 || (32 ≤ s && s < 160) || (224 ≤ s && s < 240)

/-- A register's reset value (R14). The tables give it field by field; three depend on the index (R140, R243) or on the
part's calibration. (DESIGN CHOICE, log 8) -/
def resetWord (a : Nat) : Word :=
  match specOf a with
  | none => 0
  | some (r, i) =>
    let n := r.fields.foldl (fun n f => n + f.rst * 2 ^ f.fld.lo) 0
    if r.base = EVT_CFG 0 then BitVec.ofNat 32 (setBitsOf n 0 8 i)
    else if r.base = HIC_SRC_CFG 0 then BitVec.ofNat 32 (setBitsOf n 14 1 (fixedLevel i).toNat)
    else if r.base = AFE_EXC_CAL 0 then (Config.excCal i).setWidth 32
    else if r.base = ACT_PINCAL then Config.pinDelay.setWidth 32
    else BitVec.ofNat 32 n

end Sys2Proof.Machine
end

