-- ==== Sys2Proof/Machine/Ops.lean ====
section
/-! DEFINITION. The operations that every unit shares: registers and their access codes (R9–R14), the variants (R1, R16),
memory with its error correction (R28–R33, R471), events on their way to the interrupt controller, and free values. -/

namespace Sys2Proof.Machine

open Sys2Proof

/-- The `k` bytes of a number, most significant first. -/
def bytesBE (k n : Nat) : List Byte := (bytesLE k n).reverse

/-! ## Registers -/

/-- The register at an address. -/
def State.rd (s : State) (a : Nat) : Word := tget s.regs (resetWord a) a

/-- The state with the register at an address replaced. -/
def State.wr (s : State) (a : Nat) (v : Word) : State := { s with regs := tset (resetWord a) s.regs a v }

/-- A field of a register word. -/
def fieldOf (w : Word) (f : Fld) : Nat := bitsOf w.toNat f.lo f.w

/-- A register word with a field replaced. -/
def setField (w : Word) (f : Fld) (v : Nat) : Word := BitVec.ofNat 32 (setBitsOf w.toNat f.lo f.w v)

/-- A field of the register at an address. -/
def State.get (s : State) (a : Nat) (f : Fld) : Nat := fieldOf (s.rd a) f

/-- The state with a field of a register replaced. -/
def State.set (s : State) (a : Nat) (f : Fld) (v : Nat) : State := s.wr a (setField (s.rd a) f v)

/-- A one-bit field as a truth value. -/
def State.flag (s : State) (a : Nat) (f : Fld) : Bool := s.get a f != 0

/-- A field raised by `k`, wrapping at its width. -/
def State.bump (s : State) (a : Nat) (f : Fld) (k : Nat) : State := s.set a f (s.get a f + k)

/-- A field raised by `k`, saturating at the largest value of its width. -/
def State.bumpSat (s : State) (a : Nat) (f : Fld) (k : Nat) : State :=
  s.set a f (min (2 ^ f.w - 1) (s.get a f + k))

/-- One bit of a word. -/
def bitAt (w : Word) (n : Nat) : Bool := w.toNat.testBit n

/-- Bit `n` of the register at `a`, put to `b`. -/
def State.setBit (s : State) (a n : Nat) (b : Bool) : State := s.set a ⟨n, 1⟩ b.toNat

/-- The status register of the unit whose window an address lies in (R13); SYS has it at 0x0010. -/
def statusOf (a : Nat) : Nat := if a / 0x10000 = 0x4000 then SYS_STATUS else a / 0x10000 * 0x10000 + 4

/-- CFGERR of the unit whose window an address lies in (R12, R13). -/
def State.cfgErr (s : State) (a : Nat) : State := s.set (statusOf a) ⟨31, 1⟩ 1

/-- Whether a value lies in one of the closed ranges. -/
def inRanges (v : Nat) (l : List (Nat × Nat)) : Bool := l.any fun p => p.1 ≤ v && v ≤ p.2

/-- A store's effect on one field (R9): the new register word, and whether the encoding was reserved (R12). -/
def storeField (v : Word) (acc : Word × Bool) (f : FieldSpec) : Word × Bool :=
  let x := fieldOf v f.fld
  let old := fieldOf acc.1 f.fld
  match f.acc with
  | .rw => if inRanges x f.resv then (acc.1, true) else (setField acc.1 f.fld x, acc.2)
  | .wo => (acc.1, acc.2 || inRanges x f.resv)
  | .w1c => (setField acc.1 f.fld (old - (old &&& x)), acc.2)
  | .w1s => (setField acc.1 f.fld (old ||| x), acc.2)
  | .ro | .rc => acc

/-- A store to a register by the access codes of its table (R9, R11, R12); the reserved bits keep reading 0. An address that
no register occupies ignores the store. -/
def State.storeReg (s : State) (a : Nat) (v : Word) : State :=
  match specOf a with
  | none => s
  | some (r, _) =>
    let res := r.fields.foldl (storeField v) (s.rd a, false)
    let s := s.wr a res.1
    if res.2 then s.cfgErr a else s

/-! ## Variants -/

/-- Analogue channels (R1). -/
def State.nCh (s : State) : Nat := match s.variant with | .gls9696 => 96 | .gls9648 => 48 | .gls9624 => 24
/-- Dexgar cores C0–C7 (R1). -/
def State.nCore (s : State) : Nat := match s.variant with | .gls9696 => 8 | .gls9648 => 4 | .gls9624 => 2
/-- TEU table entries of each bank (R1). -/
def State.nTeu (s : State) : Nat := match s.variant with | .gls9696 => 8192 | .gls9648 => 2048 | .gls9624 => 0
/-- Ethernet ports (R1). -/
def State.nEth (s : State) : Nat := match s.variant with | .gls9696 => 2 | .gls9648 => 1 | .gls9624 => 0
/-- Caer links (R1). -/
def State.nCaer (s : State) : Nat := match s.variant with | .gls9696 => 2 | .gls9648 => 2 | .gls9624 => 1
/-- ACT outputs (R1). -/
def State.nAct (s : State) : Nat := match s.variant with | .gls9696 => 48 | .gls9648 => 24 | .gls9624 => 16
/-- Mirroring (R1). -/
def State.mirrors (s : State) : Bool := s.variant != .gls9624

/-- Whether the core is present (R1); C8 is present in every variant. -/
def State.hasCore (s : State) (c : Nat) : Bool := c = 8 || c < s.nCore

/-- Whether the fabric runs. -/
def State.fabric (s : State) : Bool := s.pow.phase = .up

/-! ## Events and free values -/

/-- An edge event sets out for the interrupt controller (R243, R24). -/
def State.raise (s : State) (src : Nat) : State :=
  { s with hic := { s.hic with inflight := s.hic.inflight ++ [src] } }

/-- What an access to an absent unit or memory part does: it ends with ABSENT and raises source 6 (R3, R30). -/
def State.absentHit (s : State) : State := if s.fabric then s.raise 6 else s

/-- A fresh value that the spec leaves open. (DESIGN CHOICE, log 7) -/
def State.free (s : State) : Word × State := (Config.freeWord s.freeCtr, { s with freeCtr := s.freeCtr + 1 })

/-- `k` bytes that nothing constrains. (DESIGN CHOICE, log 7) -/
def State.freeBytes (s : State) : Nat → State × List Byte
  | 0 => (s, [])
  | k + 1 =>
    let t := s.free.2.freeBytes k
    (t.1, s.free.1.setWidth 8 :: t.2)

/-- The islands that send edge events to the HIC (R21, R243); the events of FAB itself, and those of a block with ports, keep the
order in which they arose. (DESIGN CHOICE, log 11) -/
inductive Island where
  | fab | ao | time | flt | teu | eth | caer
  deriving DecidableEq, Repr

/-- The island that an edge source's events come from (R21, R79, R243). (DESIGN CHOICE, log 11) -/
def islandOf (src : Nat) : Island :=
  if src < 3 then .ao
  else if 8 ≤ src ∧ src < 32 then .time
  else if 32 ≤ src ∧ src < 128 then .flt
  else if 176 ≤ src ∧ src < 184 then .teu
  else if 184 ≤ src ∧ src < 192 then .eth
  else if 192 ≤ src ∧ src < 200 then .caer
  else .fab

/-- The island that a group of records comes from: TIME, the TEU, or FAB, through which the others' pass (R21, R24). (DESIGN CHOICE, log 11) -/
def JFrom.island : JFrom → Island
  | .launch _ | .launchDone => .time
  | .snap => .teu
  | _ => .fab

/-- How many events of an island are under way to the HIC; those of FAB itself cross nowhere. (DESIGN CHOICE, log 11) -/
def State.sentBy (s : State) (i : Island) : Nat :=
  if i = .fab then 0 else (s.hic.inflight.filter fun src => islandOf src = i).length

/-- A group of records sets out for JRN (R422, R423), behind the events that its island has sent (R23). (DESIGN CHOICE, log 11) -/
def State.hand (s : State) (frm : JFrom) (recs : List Rec) : State :=
  { s with jrn := { s.jrn with handed := s.jrn.handed ++ [{ frm, recs, events := s.sentBy frm.island }] } }

/-! ## Memory -/

/-- The byte at an address; a byte that is not listed reads 0. (DESIGN CHOICE, log 4) -/
def mget : List Host.Cell → Nat → Byte
  | [], _ => 0
  | (b, v) :: r, a => if b = a then v else mget r a

/-- The memory with a byte written, in canonical form: addresses rising, no listed byte 0. (DESIGN CHOICE, log 4) -/
def mset (m : List Host.Cell) (a : Nat) (v : Byte) : List Host.Cell := tset 0 m a v

/-- Memory is in canonical form. (DESIGN CHOICE, log 4) -/
abbrev Memory.wf (m : List Host.Cell) : Bool := m.Pairwise (fun x y => x.1 < y.1) && m.all fun e => e.2 != 0

/-- The bytes from an address on. -/
def mbytes (m : List Host.Cell) (a : Nat) : Nat → List Byte
  | 0 => []
  | k + 1 => mget m a :: mbytes m (a + 1) k

/-- The memory with bytes written from an address on. -/
def mwrites (m : List Host.Cell) (a : Nat) : List Byte → List Host.Cell
  | [] => m
  | b :: r => mwrites (mset m a b) (a + 1) r

/-- `k` bytes of memory as a number, least significant first (R6), without a look at their check bits. -/
def State.mrd (s : State) (a k : Nat) : Nat := ofBytesLE (mbytes s.mem a k)

/-- `k` bytes of memory written, least significant first (R6), without a look at their check bits. -/
def State.mwr (s : State) (a k v : Nat) : State := { s with mem := mwrites s.mem a (bytesLE k v) }

/-- The kinds of protected word (R31): SECDED over so many data bits, parity per byte, parity in four interleaved groups. -/
inductive Prot where
  | secded (bits : Nat)
  | perByte
  | groups
  deriving DecidableEq, Repr

/-- The regions of R28. `scratch` is by physical address; `ownScratch` stands for the requester's. -/
inductive Region where
  | sram | qsram | teuTable | teuState | oasisData | ownScratch | scratch | program | oasisProgram | unit | window | none
  deriving DecidableEq, Repr

/-- The region that an address lies in (R28). -/
def regionOf (a : Nat) : Region :=
  if a < 0x100000 then .sram
  else if a < 0x180000 then .qsram
  else if a < 0x200000 then .none
  else if a < 0x220000 then .teuTable
  else if a < 0x240000 then .none
  else if a < 0x250000 then .teuState
  else if a < 0x300000 then .none
  else if a < 0x304000 then .oasisData
  else if a < 0x400000 then .none
  else if a < 0x402000 then .ownScratch
  else if a < 0x410000 then .none
  else if a < 0x420000 then .scratch
  else if a < 0x10000000 then .none
  else if a < 0x10080000 then .program
  else if a < 0x10084000 then .oasisProgram
  else if a < 0x40000000 then .none
  else if a < 0x40120000 then .unit
  else if a < 0x50000000 then .none
  else if a < 0x50004000 then .window
  else .none

/-- The protection, the word size in bytes and the memory code (SYS_ECC_INFO.MEM) of a region. -/
def protOf : Region → Option (Prot × Nat × Nat)
  | .sram => some (.secded 64, 8, 0)
  | .qsram => some (.perByte, 4, 1)
  | .teuTable => some (.secded 48, 8, 2)
  | .teuState => some (.secded 32, 4, 3)
  | .program => some (.groups, 4, 4)
  | .oasisProgram => some (.groups, 4, 5)
  | .oasisData => some (.secded 32, 4, 6)
  | .scratch => some (.secded 32, 4, 7)
  | _ => none

/-- Whether a codeword position holds a Hamming check bit (R471). -/
def isCheckPos (p : Nat) : Bool := p = 1 || p = 2 || p = 4 || p = 8 || p = 16 || p = 32 || p = 64

/-- The codeword position after which data bit `j` stands: positions in ascending order, check positions left out. -/
def dataPos (fuel p j : Nat) : Nat :=
  match fuel with
  | 0 => p
  | fuel + 1 => if isCheckPos p then dataPos fuel (p + 1) j else if j = 0 then p else dataPos fuel (p + 1) (j - 1)

/-- The codeword position of data bit `j`: 3 for bit 0, 5 for bit 1, 6 for bit 2, and so on (R471). -/
def posOfBit (j : Nat) : Nat := dataPos 80 1 j

/-- The last position of a codeword of so many data bits: 71 for 64, 54 for 48, 38 for 32 (R471). -/
def lastPos (bits : Nat) : Nat := posOfBit (bits - 1)

/-- The data bits that an error pattern flips. -/
def dataError (bits e : Nat) : Nat :=
  (List.range bits).foldl (fun n j => if e.testBit (posOfBit j) then n + 2 ^ j else n) 0

/-- The syndrome of an error pattern (R471): [6:0] the exclusive or of the wrong positions, [7] the overall parity. -/
def syndromeOf (bits e : Nat) : Nat :=
  let ps := (List.range (lastPos bits + 1)).filter fun p => e.testBit p
  ps.foldl (fun n p => n ^^^ p) 0 + 128 * (ps.length % 2)

/-- What a syndrome means (R471): no error, a single error at a position (0 for the overall parity bit), or uncorrectable. -/
inductive Verdict where
  | clean
  | single (pos : Nat)
  | bad
  deriving DecidableEq, Repr

/-- The judgement of a syndrome for a code of so many data bits (R471). (DESIGN CHOICE, log 5) -/
def judge (bits syn : Nat) : Verdict :=
  if syn = 0 then .clean
  else if syn < 128 then .bad
  else if syn - 128 ≤ lastPos bits then .single (syn - 128)
  else .bad

/-- The parity groups that fail, bit `k` for group `k`: per byte (data bits 0–31, parity bits 32–35), or by bit number mod 4
(data bits 0–13, parity bits 14–17; R32). (DESIGN CHOICE, log 5) -/
def parityFails (p : Prot) (e : Nat) : Nat :=
  match p with
  | .perByte => (List.range 4).foldl (fun n k =>
      if ((List.range 8).filter fun j => e.testBit (8 * k + j)).length % 2 + (e.testBit (32 + k)).toNat = 1 then n + 2 ^ k else n) 0
  | .groups => (List.range 4).foldl (fun n k =>
      if ((List.range 14).filter fun j => j % 4 = k && e.testBit j).length % 2 + (e.testBit (14 + k)).toNat = 1 then n + 2 ^ k
      else n) 0
  | .secded _ => 0

/-- A corrected error is counted (R33, R86), while the fabric runs. -/
def State.eccCorr (s : State) : State :=
  if s.fabric then s.bumpSat SYS_ECC_CNT SYS_ECC_CNT_CORR 1 else s

/-- An uncorrectable error is counted, the first one is recorded, and source 5 is raised (R33, R86). -/
def State.eccBad (s : State) (mem addr syn : Nat) : State :=
  if s.fabric then
    let s := s.bumpSat SYS_ECC_CNT SYS_ECC_CNT_UNCORR 1
    let s := if s.flag SYS_ECC_INFO SYS_ECC_INFO_V then s else
      let s := s.set SYS_ECC_INFO SYS_ECC_INFO_V 1
      let s := s.set SYS_ECC_INFO SYS_ECC_INFO_MEM mem
      let s := s.set SYS_ECC_INFO SYS_ECC_INFO_SYNDROME syn
      s.wr SYS_ECC_ADDR (BitVec.ofNat 32 addr)
    s.raise 5
  else s

/-- The memory checks the protected word that an address lies in, as every read does: a correctable error is corrected,
written back and counted; an uncorrectable one is counted, recorded and reported (`true`). The caller then reads the data
(R31–R33, R471). (DESIGN CHOICE, log 5) -/
def State.check (s : State) (a : Nat) : State × Bool :=
  match protOf (regionOf a) with
  | none => (s, false)
  | some (p, size, code) =>
    let w := a / size * size
    let e := tget s.flips 0 w
    if e = 0 then (s, false) else
    match p with
    | .secded bits =>
      match judge bits (syndromeOf bits e) with
      | .clean => ({ s with mem := mwrites s.mem w (bytesLE size (s.mrd w size ^^^ dataError bits e)), flips := tdel s.flips w }, false)
      | .single pos =>
        let r := e ^^^ 2 ^ pos
        let s := { s with mem := mwrites s.mem w (bytesLE size (s.mrd w size ^^^ dataError bits r)), flips := tdel s.flips w }
        (s.eccCorr, false)
      | .bad => (s.eccBad code w (syndromeOf bits e), true)
    | _ =>
      let f := parityFails p e
      if f = 0 then (s, false) else (s.eccBad code w f, true)

/-- The data bits that a parity memory holds wrongly without its parity failing. -/
def State.hidden (s : State) (a size : Nat) : Nat :=
  match protOf (regionOf a) with
  | some (.perByte, _, _) | some (.groups, _, _) => tget s.flips 0 (a / 4 * 4) % 2 ^ 32 / 2 ^ (8 * (a % 4)) % 2 ^ (8 * size)
  | _ => 0

/-- A load of `k` bytes from a memory, naturally aligned: the value, or 0 with an uncorrectable error (R31). -/
def State.memLoad (s : State) (a k : Nat) : State × Nat × Bool :=
  let r := s.check a
  if r.2 then (r.1, 0, true) else (r.1, r.1.mrd a k ^^^ r.1.hidden a k, false)

/-- A store of `k` bytes to a memory, naturally aligned. A store of a whole protected word renews its check bits; a narrower
one reads the word first, and an uncorrectable error there leaves it unchanged (R33). The flag says so. -/
def State.memStore (s : State) (a k v : Nat) : State × Bool :=
  match protOf (regionOf a) with
  | none => (s, false)
  | some (p, size, _) =>
    let w := a / size * size
    match p with
    | .secded _ =>
      if size ≤ k then ({ s.mwr a k v with flips := tdel s.flips w }, false)
      else
        let r := s.check a
        if r.2 then (r.1, true) else (r.1.mwr a k v, false)
    | _ => ({ s.mwr a k v with flips := tdel s.flips w }, false)

/-! ## Cores -/

/-- A core's state. -/
def State.core (s : State) (c : Nat) : CoreSt := tget s.cores {} c

/-- The state with a core's state replaced. -/
def State.setCore (s : State) (c : Nat) (x : CoreSt) : State := { s with cores := tset {} s.cores c x }

/-- The state with a core's state changed. -/
def State.modCore (s : State) (c : Nat) (f : CoreSt → CoreSt) : State := s.setCore c (f (s.core c))

/-- A gather register of a core (R179). -/
def CoreSt.gr (x : CoreSt) (r : Nat) : Word := tget x.g 0 r

/-- A core's state with a gather register written. -/
def CoreSt.setG (x : CoreSt) (r : Nat) (v : Word) : CoreSt := { x with g := tset 0 x.g r v }

/-- The core is stopped on a fault (R230): its CORE_FAULT or OAS_C8_FAULT shows a cause. -/
def State.faulted (s : State) (c : Nat) : Bool := s.get (CORE_FAULT c) CORE_FAULT_CAUSE != 0

/-- The core has RUN = 1 and is not stopped on a fault (R238, R242). -/
def State.running (s : State) (c : Nat) : Bool := s.hasCore c && s.flag (CORE_CTL c) CORE_CTL_RUN && !s.faulted c

/-- The power state, encoded as in OAS_PWRREQ (R255). -/
def State.pstate (s : State) : Nat := s.get OAS_PWRSTATE OAS_PWRSTATE_STATE

/-- The core is asleep under a power state, or stopping for one (R256, R258). (DESIGN CHOICE, log 27) -/
def State.asleep (s : State) (c : Nat) : Bool := c != 8 && (s.pstate != 0 || s.pow.entry.isSome)

/-- The core can execute: it runs, its island is clocked, and neither the debug port nor a power state holds it. -/
def State.awake (s : State) (c : Nat) : Bool :=
  s.running c && !s.asleep c && !(s.core c).held && (c = 8 && s.pow.phase != .cold || s.fabric)

/-- The event latches of the cores named in a mask are set (R237). -/
def State.setLatches (s : State) (mask : Nat) : State :=
  (List.range 9).foldl (fun s c => if mask.testBit c && s.hasCore c then s.modCore c fun x => { x with latch := true } else s) s

/-- Doorbells ring: each bit is set, and each ring sets the event latches that its mask names (R236). The doorbells' bits are
held in CORE_DBELL_SET. -/
def State.ring (s : State) (bits : Nat) : State :=
  let s := s.set CORE_DBELL_SET CORE_DBELL_SET_RING (s.get CORE_DBELL_SET CORE_DBELL_SET_RING ||| bits)
  (List.range 16).foldl (fun s d =>
    if bits.testBit d then s.setLatches (s.get (CORE_DBELL_EVMASK d) CORE_DBELL_EVMASK_CORES) else s) s

end Sys2Proof.Machine
end

