-- ==== Sys2Proof/Machine/Clock.lean ====
section
/-! DEFINITION. Plant time: the counter in ticks, the launch table's entries with their execution ticks, and what the passing
of time does to them (R305, R317, R319, R320). -/

namespace Sys2Proof.Machine

open Sys2Proof

/-- Ticks in a plant second (R305). -/
def secTicks : Nat := 256000000

/-- The event of a unit of the TIME island sets out for the interrupt controller; while the fabric is off or in reset it
reaches none. -/
def State.tRaise (s : State) (src : Nat) : State := if s.fabric then s.raise src else s

/-- A quotient that a register shows: exact, or rounded in a direction that the spec does not state. (DESIGN CHOICE, log 36) -/
def State.approx (s : State) (n d : Nat) : State × Nat :=
  if n % d = 0 then (s, n / d) else (s.free.2, n / d + s.free.1.toNat % 2)

/-- An entry of the launch table. -/
def State.lent (s : State) (i : Nat) : LEnt := tget s.tim.table {} i

/-- The state with an entry of the launch table replaced. -/
def State.setL (s : State) (i : Nat) (e : LEnt) : State := { s with tim := { s.tim with table := tset {} s.tim.table i e } }

/-- An entry's time in nanoseconds since the PTP epoch (R314). -/
def LEnt.ns (e : LEnt) : Nat := e.w0.toNat + 2 ^ 32 * e.w1.toNat

/-- ACTION (R315). -/
def LEnt.action (e : LEnt) : Nat := e.w3.toNat % 2 ^ 16
/-- JOURNAL (R314). -/
def LEnt.journal (e : LEnt) : Bool := bitAt e.w3 30
/-- BROADCAST (R314). -/
def LEnt.broadcast (e : LEnt) : Bool := bitAt e.w3 29
/-- LATE (R314). -/
def LEnt.policy (e : LEnt) : Nat := bitsOf e.w3.toNat 27 2
/-- PER (R314). -/
def LEnt.per (e : LEnt) : Nat := bitsOf e.w3.toNat 24 3
/-- ORIG and RX keep their place in the word (R314). -/
def LEnt.rx (e : LEnt) : Bool := bitAt e.w3 23

/-- The tick whose counter value lies nearest to a time in nanoseconds (R317): a tick lasts 125/32 ns. -/
def tickOfNs (ns : Nat) : Nat := (64 * ns + 125) / 250

/-- A step instant (R156) is kept in units of 1/32 ns, of which a tick lasts 125: a scheduled time need not lie on a tick. -/
def instOfTick (t : Nat) : Nat := 125 * t

/-- The scheduled time of an entry as a step instant (R156). -/
def LEnt.inst (e : LEnt) : Nat := 32 * e.ns

/-- An entry's execution tick (R317). -/
def LEnt.exec (e : LEnt) : Nat := tickOfNs e.ns

/-- FLT sync and FLT response-change entries (R317). -/
def LEnt.toFlt (e : LEnt) : Bool := e.action = 0x4000 || e.action = 0x5000

/-- The tick that counts for an entry: the dispatch tick of an FLT entry, 64 ticks before its execution tick, or the
execution tick (R319). -/
def LEnt.due (e : LEnt) : Nat := if e.toFlt then e.exec - 64 else e.exec

/-- The lead of R317 in ticks. -/
def LEnt.lead (e : LEnt) : Nat := if e.toFlt then 66 else 2

/-- Every entry of the launch table changed. -/
def State.mapTable (s : State) (f : LEnt → LEnt) : State :=
  { s with tim := { s.tim with table := s.tim.table.map fun p => (p.1, f p.2) } }

/-- Armed entries whose tick is not after `t` become late (R319). -/
def State.markLate (s : State) (t : Nat) : State :=
  s.mapTable fun e => if e.st = .armed ∧ e.due ≤ t then { e with late := true } else e

/-- What a step from `old` to `t` does to the armed entries (R307, R319): those whose tick a forward step jumps over become late; after a
backward step, an entry whose tick lies ahead again waits for it. -/
def State.stepLate (s : State) (old t : Nat) : State :=
  s.mapTable fun e =>
    if e.st = .armed then
      if old < e.due ∧ e.due < t then { e with late := true }
      else if t < old ∧ t < e.due then { e with late := false }
      else e
    else e

/-- A LAUNCH-DONE record of an entry with JOURNAL = 1 and its outcome (R318, R421): 0 on time, 1 LATE, 2 REPLAY, 3 SKIPPED,
4 cancelled. With the fabric in reset it is lost. (DEDUCED, log 35) -/
def State.doneRec (s : State) (i : Nat) (e : LEnt) (outcome : Nat) : State :=
  if e.journal && s.fabric then s.hand .launchDone [{ kind := 2, src := 0, argd := i + 1024 * outcome, body := [e.seq.toNat] }]
  else s

/-- An entry's time moved on by `k` periods. -/
def LEnt.later (e : LEnt) (k period : Nat) : LEnt :=
  let t := e.ns + k * period
  { e with w0 := BitVec.ofNat 32 t, w1 := BitVec.ofNat 32 (t / 2 ^ 32) }

/-- The least number of periods, at least one, after which an entry's execution tick is its lead or more away (R322). -/
def rollCount (ns period first : Nat) : Nat :=
  let target := (250 * first - 125 + 63) / 64
  max 1 ((target - ns + period - 1) / period)

/-- After an occurrence (R318, R322): a one-shot entry becomes free; a repeating one moves on by its period, and each further
period it needs is a missed occurrence. (More than 255 raises of one source at once cannot be told from 255, R246.) (DESIGN CHOICE, log 34) -/
def State.afterRun (s : State) (i : Nat) : State :=
  let e := s.lent i
  let e := { e with how := 0, given := false }
  if e.per = 0 then s.setL i { e with st := .free, late := false, ran := true }
  else
    let period := s.get (TIME_PERIOD e.per) TIME_PERIOD_NS
    let k := rollCount e.ns period (s.time + e.lead)
    let s := s.setL i { e.later k period with st := .armed, late := false }
    if k = 1 then s
    else (List.range (min 255 (k - 1))).foldl (fun s _ => s.tRaise 10) (s.set TIME_STATUS TIME_STATUS_MISSED 1)

/-- Dispatched FLT entries whose execution tick is not after `t` have executed (R321). -/
def State.freeDispatched (s : State) (t : Nat) : State :=
  (s.tim.table.filter fun p => p.2.st = .dispatched && p.2.exec ≤ t).foldl
    (fun s p => (s.doneRec p.1 p.2 p.2.how).afterRun p.1) s

/-- What the passing of time to `t` does to the launch table (R319–R321). -/
def State.tableAt (s : State) (t : Nat) : State :=
  (if s.flag TIME_CTL TIME_CTL_HOLD then s.markLate t else s).freeDispatched t

/-- The counter ticks on to `t`, if `t` lies ahead and PLL_T has locked (R305). (DESIGN CHOICE, log 10) -/
def State.passTo (s : State) (t : Nat) : State :=
  if s.pow.pllT ∧ s.time < t then ({ s with time := t }).tableAt t else s

/-- One tick (R305). (DESIGN CHOICE, log 1) (DESIGN CHOICE, log 10) -/
def State.tick (s : State) : State := s.passTo (s.time + 1)

/-- NS of a counter value (R305). -/
def nsOf (t : Nat) : Nat := t % secTicks * 125 / 32
/-- FRAC of a counter value (R305). -/
def fracOf (t : Nat) : Nat := t % secTicks * 125 % 32 * 2048
/-- SEC of a counter value (R305). -/
def secOf (t : Nat) : Nat := t / secTicks

/-- A counter value in the layout of TIME_NOW0–TIME_NOW2 (R306). -/
def nowWords (t : Nat) : List Nat := [nsOf t, secOf t % 2 ^ 32, fracOf t * 2 ^ 16 + secOf t / 2 ^ 32 % 2 ^ 16]

/-- Ticks of PLL_T since the counter started, which steps do not move (R305, R307). -/
def State.raw (s : State) : Nat := ((s.time : Int) - s.tim.adj).toNat

/-- The number of the AFE edge at or before the present tick: every 125th tick is one (R125, R305). -/
def State.edgeNow (s : State) : Nat := s.raw / 125

/-- The counter's value on an AFE edge. -/
def State.edgeTime (s : State) (e : Nat) : Nat := ((125 * e : Nat) + s.tim.adj).toNat

/-- The first AFE edge at or after an instant in units of 1/32 ns, as `LEnt.inst` has it (R126, R129): an AFE period has 15,625 of them. -/
def State.edgeAtOrAfter (s : State) (inst : Nat) : Nat := (((inst : Int) - 125 * s.tim.adj).toNat + 15624) / 15625

end Sys2Proof.Machine
end

