-- ==== Sys2Proof/Machine/Evt.lean ====
section
/-! DEFINITION. The event recogniser (R140–R148): 96 rule units with the rules HI, LO, RATE, STUCK and OPEN. -/

namespace Sys2Proof.Machine

open Sys2Proof

/-- A rule unit's histories. -/
def State.evtU (s : State) (u : Nat) : EvtU := tget s.evt {} u

/-- A rule unit's histories replaced. -/
def State.setEvtU (s : State) (u : Nat) (x : EvtU) : State := { s with evt := tset {} s.evt u x }

/-- What one rule does with a value: its arm state before and after, and whether it fires (R141). A rule that is armed and whose
condition holds fires and disarms; one that is disarmed and whose other condition holds re-arms. -/
def ruleStep (armed fires rearms : Bool) : Bool × Bool :=
  if armed then (if fires then (false, true) else (true, false)) else (rearms, false)

/-- HI (R142). -/
def evtHi (armed : Bool) (hi : Int) (hyst : Nat) (v : Int) : Bool × Bool := ruleStep armed (hi ≤ v) (v ≤ hi - hyst)

/-- LO (R142). -/
def evtLo (armed : Bool) (lo : Int) (hyst : Nat) (v : Int) : Bool × Bool := ruleStep armed (v ≤ lo) (lo + hyst ≤ v)

/-- The measure of RATE (R143). -/
def rateMeasure (rdir : Nat) (d : Int) : Int := if rdir = 1 then d else if rdir = 2 then -d else (d.natAbs : Int)

/-- RATE (R143): `old` is the value K items earlier, if the unit holds K values. -/
def evtRate (armed : Bool) (rdir rlim : Nat) (old : Option Int) (v : Int) : Bool × Bool :=
  match old with
  | none => (armed, false)
  | some o =>
    let m := rateMeasure rdir (v - o)
    ruleStep armed ((rlim : Int) ≤ m) (m ≤ ((rlim - rlim / 4 : Nat) : Int))

/-- The run of STUCK after a value (R144), and whether it re-arms. (DESIGN CHOICE, log 76) -/
def stuckRun (x : EvtU) (band : Nat) (v : Int) : EvtU × Bool :=
  match x.ref with
  | some r =>
    if (v - r).natAbs ≤ band then ({ x with run := min 65535 (x.run + 1) }, false) else ({ x with ref := some v, run := 1 }, true)
  | none => ({ x with ref := some v, run := 1 }, true)

/-- All the rules of a unit on one value (R141–R145): the histories, the arm states and the flags that fire, in the bit order of
EVT_FLAG. `opens` says whether the input can be open: a channel (R145). (DEDUCED, log 17) -/
def evtRules (cfg hi lo hyst rate stuck : Word) (arm : Nat) (x : EvtU) (v : Int) (rng opens : Bool) : EvtU × Nat × Nat :=
  let on := fun f => fieldOf cfg f == 1
  let keep := fun (k : Nat) => (arm.testBit k, false)
  let rHi := if on EVT_CFG_HIEN then evtHi (arm.testBit 0) hi.toInt (fieldOf hyst EVT_HYST_HYST) v else keep 0
  let rLo := if on EVT_CFG_LOEN then evtLo (arm.testBit 1) lo.toInt (fieldOf hyst EVT_HYST_HYST) v else keep 1
  let k := fieldOf cfg EVT_CFG_RK + 1
  let rRate := if on EVT_CFG_RATEEN then
      evtRate (arm.testBit 2) (fieldOf cfg EVT_CFG_RDIR) (fieldOf rate EVT_RATE_RLIM) x.hist[k - 1]? v
    else keep 2
  let st := stuckRun x (fieldOf stuck EVT_STUCK_SBAND) v
  let x := if on EVT_CFG_STUCKEN then st.1 else x
  let armedS := arm.testBit 3 || st.2
  let rStuck := if on EVT_CFG_STUCKEN then
      ruleStep armedS (fieldOf stuck EVT_STUCK_SCOUNT ≤ x.run) false
    else keep 3
  let opn := on EVT_CFG_OPENEN && opens
  let cnt := if rng then min 255 (x.opens + 1) else 0
  let rOpen := if opn then ruleStep (arm.testBit 4 || !rng) (rng && fieldOf cfg EVT_CFG_ONUM ≤ cnt) false else keep 4
  let x := { x with hist := (v :: x.hist).take k, opens := if opn then cnt else x.opens }
  let bits := fun (f : Bool × Bool → Bool) =>
    (f rHi).toNat + 2 * (f rLo).toNat + 4 * (f rRate).toNat + 8 * (f rStuck).toNat + 16 * (f rOpen).toNat
  (x, bits (·.1), bits (·.2))

/-- A unit requests an interrupt: one of its flags is set (R141). -/
def State.asks (s : State) (u : Nat) : Bool := s.get (EVT_FLAG u) ⟨0, 5⟩ != 0

/-- A change of a unit's request sets out for the HIC (R23, R24). (DESIGN CHOICE, log 11) -/
def State.tellAsk (s : State) (u : Nat) (was : Bool) : State :=
  if s.asks u = was then s else { s with hic := { s.hic with asks := s.hic.asks ++ [u] } }

/-- A store to EVT_FLAG (R141). -/
def State.flagStore (s : State) (u : Nat) (v : Word) : State := (s.storeReg (EVT_FLAG u) v).tellAsk u (s.asks u)

/-- A SETTLE item at a unit (R146): the histories clear, RATE, STUCK and OPEN re-arm, and nothing is judged. -/
def State.evtSettle (s : State) (u : Nat) : State :=
  (s.setEvtU u {}).set (EVT_FLAG u) EVT_FLAG_ARM (s.get (EVT_FLAG u) EVT_FLAG_ARM ||| 0x1C)

/-- A value at one unit (R141): the flag says that a rule set a flag. -/
def State.evtUnit (s : State) (u : Nat) (v : Int) (settle rng opens : Bool) : State × Bool :=
  if settle then (s.evtSettle u, false)
  else
    let r := evtRules (s.rd (EVT_CFG u)) (s.rd (EVT_HI u)) (s.rd (EVT_LO u)) (s.rd (EVT_HYST u)) (s.rd (EVT_RATE u))
      (s.rd (EVT_STUCK u)) (s.get (EVT_FLAG u) EVT_FLAG_ARM) (s.evtU u) v rng opens
    let s := s.setEvtU u r.1
    let s := s.set (EVT_FLAG u) EVT_FLAG_ARM r.2.1
    ((s.set (EVT_FLAG u) ⟨0, 5⟩ (s.get (EVT_FLAG u) ⟨0, 5⟩ ||| r.2.2)).tellAsk u (s.asks u), r.2.2 != 0)

/-- A value on an input, numbered as IN (R140), at every unit that watches it. -/
def State.evaluate (s : State) (inp : Nat) (v : Int) (settle rng : Bool) : State × Bool :=
  (List.range 96).foldl (fun (a : State × Bool) u =>
    if s.get (EVT_CFG u) EVT_CFG_IN = inp then
      let r := a.1.evtUnit u v settle rng (inp < 96)
      (r.1, a.2 || r.2)
    else a) (s, false)

/-- Whether an encoding of IN is reserved on this variant (R140). -/
def State.inReserved (s : State) (inp : Nat) : Bool :=
  if inp < 96 then s.nCh ≤ inp
  else s.nTeu = 0 || 160 ≤ inp && s.nCh ≤ inp - 160

/-- The address of a configuration register of a unit. -/
def evtAddr (r : EvtReg) (u : Nat) : Nat :=
  match r with
  | .cfg => EVT_CFG u
  | .hi => EVT_HI u
  | .lo => EVT_LO u
  | .hyst => EVT_HYST u
  | .rate => EVT_RATE u
  | .stuck => EVT_STUCK u

/-- A store to a configuration register of a unit (R140, R147): its histories reset and its five rules arm. -/
def State.evtStore (s : State) (r : EvtReg) (u : Nat) (v : Word) : State :=
  let bad := r = .cfg && s.inReserved (fieldOf v EVT_CFG_IN)
  let v := if bad then setField v EVT_CFG_IN (s.get (EVT_CFG u) EVT_CFG_IN) else v
  let s := s.storeReg (evtAddr r u) v
  let s := if bad then s.cfgErr EVT_STATUS else s
  (s.setEvtU u {}).set (EVT_FLAG u) EVT_FLAG_ARM 0x1F

/-- A write to a rule unit's configuration (R147). -/
def execEvtConfigWrite (r : EvtReg) (u : Chan) (v : Word) (s : State) : Host.Outcome State Fault Refusal :=
  .next (if s.fabric then s.evtStore r u v else s)

/-- EVT_ACTIVEj (R141): the asserted sources. -/
def State.evtActive (s : State) (j : Nat) : Nat :=
  (List.range 32).foldl (fun n i => if s.asks (32 * j + i) then n + 2 ^ i else n) 0

end Sys2Proof.Machine
end

