-- ==== Sys2Proof/Machine/Rights.lean ====
section
/-! DEFINITION. The life-cycle state and what each requester may do in it (R451, R460–R462). -/

namespace Sys2Proof.Machine

open Sys2Proof

/-- LCS_STATE.STATE (R451): 0 BLANK, 1 MAKER, 2 OPEN, 3 LOCKED, 4 SERVICE, 5 RETURN. -/
def State.lcState (s : State) : Nat :=
  match s.lcs.counter with
  | 0 => 0
  | 1 => 1
  | 2 => 2
  | 3 => if s.lcs.session.isSome then 4 else 3
  | _ => 5

/-- The counter value after the next COLD reset (R451): the higher of the two rows. -/
def State.lcPend (s : State) : Nat := max s.fuse.rowA s.fuse.rowB

/-- The roles granted now (R461); VIEW is implied in a session. (DEDUCED, log 67) -/
def State.roles (s : State) : Nat :=
  match s.lcs.session with
  | some x => x.roles ||| 1
  | none => 0

/-- The debug and service port has a right that a role grants in SERVICE (R460): everywhere else but in LOCKED it has it. (DESIGN CHOICE, log 65) -/
def State.roleRight (s : State) (role : Nat) : Bool :=
  match s.lcState with
  | 3 => false
  | 4 => s.roles.testBit role
  | _ => true

/-- A program load window (R228). -/
def inLoadWindow (a : Nat) : Bool := 0x10000000 ≤ a && a < 0x10084000

/-- A TEU table bank (R165). -/
def inTeuTable (a : Nat) : Bool := 0x200000 ≤ a && a < 0x220000

/-- A requester's store to an address is not refused (R460–R462): in LOCKED and SERVICE program memory is written only by the settings
loader, and by the port under LOAD. (DEDUCED, log 66) -/
def State.mayStore (s : State) (r : Req) (a : Nat) : Bool :=
  match r with
  | .core _ | .dme => !(inLoadWindow a && (s.lcState = 3 || s.lcState = 4))
  | .boot => true
  | .dbg =>
    if a / 0x10000 = 0x400F then false
    else if inLoadWindow a || inTeuTable a then s.roleRight 2
    else s.roleRight 1

/-- An access is refused (R462, R468). LCS is off with the fabric. (DEDUCED, log 68) -/
def State.denied (s : State) : State :=
  if s.fabric then (s.set LCS_STATUS LCS_STATUS_DENIED 1).raise 217 else s

/-- A store that the rights allow takes effect; another is refused (R462). -/
def State.allowed (s : State) (r : Req) (a : Nat) (k : State → State) : State :=
  if s.mayStore r a then k s else s.denied

end Sys2Proof.Machine
end

