-- ==== Sys2Proof/Machine/Hic.lean ====
section
/-! DEFINITION. The hub interrupt controller (R243–R254, R474), and how a wake begins (R259–R262). -/

namespace Sys2Proof.Machine

open Sys2Proof

/-! ## Levels of the level sources (R243) -/

/-- The level of a GPIO ball: the pads' latched state after OASIS, an output's level, or what the outside drives (R87). (DESIGN CHOICE, log 13) -/
def State.gpioLevel (s : State) (n : Nat) : Bool :=
  if s.flag SYS_GPIO_IN SYS_GPIO_IN_FROZEN then
    if s.pow.padDir.toNat.testBit n then s.pow.padOut.toNat.testBit n else s.pow.gpioBalls.toNat.testBit n
  else if bitAt (s.rd SYS_GPIO_DIR) n then bitAt (s.rd SYS_GPIO_OUT) n
  else s.pow.gpioBalls.toNat.testBit n

/-- The slots in use of a queue (R268): OCC, 0 in RESTORE (R284). -/
def State.occ (s : State) (q : Nat) : Nat :=
  let x := tget s.qm.q {} q
  if x.restore then 0 else if s.flag (QM_Q_CFG q) QM_Q_CFG_MEN then x.wr - x.mark else x.wr - x.rd

/-- The items that a pop can still return (R268): AVAIL, 0 in RESTORE (R284). -/
def State.avail (s : State) (q : Nat) : Nat :=
  let x := tget s.qm.q {} q
  if x.restore then 0 else x.wr - x.rd

/-- The status registers with a CFGERR bit (R13). -/
def statusRegs : List Nat :=
  [SYS_STATUS, AFE_STATUS, FLT_STATUS, EVT_STATUS, TEU_STATUS, HIC_STATUS, QM_STATUS, DME_STATUS, TIME_STATUS, ACT_STATUS,
    ETH_STATUS, CAER_STATUS, TWP_STATUS, BOOT_STATUS, JRN_STATUS, LCS_STATUS, OAS_STATUS, CORE_STATUS]

/-- The level that a level source has now (R243): core faults, watchdog warnings, the CFGERR summary, EVT rule units, data
queues, doorbells, and GPIO sources under POL. -/
def State.levelOf (s : State) (src : Nat) : Bool :=
  if src = 3 then (List.range 9).any fun c => s.faulted c
  else if src = 4 then (List.range 9).any fun c => s.flag (CORE_INFO c) CORE_INFO_WDWARN
  else if src = 7 then statusRegs.any fun a => bitAt (s.rd a) 31
  else if 32 ≤ src ∧ src < 128 then s.asks (src - 32)
  else if 128 ≤ src ∧ src < 160 then
    let q := src - 128
    match s.get (QM_Q_CFG q) QM_Q_CFG_SRC with
    | 1 => (tget s.qm.q {} q).above
    | 2 => s.avail q != 0
    | _ => false
  else if 224 ≤ src ∧ src < 240 then bitAt (s.rd CORE_DBELL_SET) (src - 224)
  else if 240 ≤ src ∧ src < 255 then s.gpioLevel (src - 240) != s.flag (HIC_SRC_CFG src) HIC_SRC_CFG_POL
  else false

/-- Whether a source is a level source (R243): its KIND, which is fixed but for 240–254. -/
def State.isLevel (s : State) (src : Nat) : Bool := s.flag (HIC_SRC_CFG src) HIC_SRC_CFG_KIND

/-! ## The controller's state -/

/-- The controller's view of a core. -/
def State.hc (s : State) (c : Nat) : HicCore := tget s.hic.cores {} c

/-- The controller's view of a core changed. -/
def State.modHc (s : State) (c : Nat) (f : HicCore → HicCore) : State :=
  { s with hic := { s.hic with cores := tset {} s.hic.cores c (f (s.hc c)) } }

/-- The pending count of a source; 0 is not pending. -/
def State.pend (s : State) (src : Nat) : Nat := tget s.hic.pend 0 src

/-- The pending count of a source replaced; a reservation of a source that leaves the pending state ends (R260). -/
def State.setPend (s : State) (src n : Nat) : State :=
  let s := { s with hic := { s.hic with pend := tset 0 s.hic.pend src n } }
  if n = 0 then
    (List.range 9).foldl (fun s c =>
      if (s.hc c).resv.contains src then s.modHc c fun x => { x with resv := x.resv.filter (· != src) } else s) s
  else s

/-- The held count of a source's coalescer replaced. -/
def State.setHeld (s : State) (src n : Nat) : State :=
  { s with hic := { s.hic with held := tset 0 s.hic.held src n } }

/-- The level that the controller sees replaced. -/
def State.setLvl (s : State) (src : Nat) (b : Bool) : State :=
  { s with hic := { s.hic with lvl := tset false s.hic.lvl src b } }

/-- A core holds the source (R244). -/
def State.inService (s : State) (src : Nat) : Bool := (List.range 9).any fun c => (s.hc c).claim = src

/-- EN of a source. -/
def State.srcEn (s : State) (src : Nat) : Bool := src < 255 && s.flag (HIC_SRC_CFG src) HIC_SRC_CFG_EN

/-- The target mask of a source; bits of absent cores read 0 (R252). -/
def State.tgt (s : State) (src c : Nat) : Bool := s.hasCore c && bitAt (s.rd (HIC_SRC_CFG src)) c

/-- The sources that a grant to the core could take now (R249, R260): pending, not in service, the core in the mask, and not
reserved for another core. (DEDUCED, log 28) -/
def State.candidates (s : State) (c : Nat) : List Nat :=
  (s.hic.pend.map (·.1)).filter fun src =>
    s.pend src != 0 && !s.inService src && s.tgt src c &&
      !(List.range 9).any fun d => d != c && (s.hc d).resv.contains src

/-- The core is eligible for an offer (R247), and none of its deliveries is under way. A handler that a grant of the wake watcher
began ends, like any other, when its RETI has been completed. -/
def State.eligible (s : State) (c : Nat) : Bool :=
  s.awake c && s.fabric && !(s.hc c).inh && !(s.hc c).done && !(s.core c).inHandler && !(s.hc c).offer && !(s.hc c).accept &&
    (s.hc c).grant = none

/-- Arbitration (step 3 of R248): each eligible core named by a pending source not in service is sent an offer. -/
def State.arbitrate (s : State) : State :=
  (List.range 9).foldl (fun s c =>
    if s.eligible c && !(s.candidates c).isEmpty then s.modHc c fun x => { x with offer := true } else s) s

/-! ## Wakes -/

/-- OAS_WAKECAUSE records a wake's cause (R259). -/
def State.wakeCause (s : State) (cause src : Nat) : State :=
  s.wr OAS_WAKECAUSE (BitVec.ofNat 32 (2 ^ 31 + 2 ^ 8 * cause + src))

/-- A wake cause arises (R259, R262). During an entry it ends the entry and sets ENTRYABRT; in DOZE, NAP or OASIS it starts a
wake, from OASIS by driving PWR_EN high. In RUN, or while a wake runs, it has no effect. -/
def State.wake (s : State) (cause src : Nat) : State :=
  match s.pow.entry with
  | some _ =>
    let s := s.wakeCause cause src
    let s := s.set OAS_STATUS OAS_STATUS_ENTRYABRT 1
    let s := s.set OAS_PWRSTATE OAS_PWRSTATE_TRANS 0
    let from_ := s.pstate
    ({ s with pow := { s.pow with entry := none, waking := if from_ = 0 then none else some from_ } }).arbitrate
  | none =>
    if s.pstate = 0 || s.pow.waking.isSome then s
    else
      let s := s.wakeCause cause src
      { s with pow := { s.pow with waking := some s.pstate, pwrEn := true } }

/-- Whether an entry of the wake set with EN = 1 and C8ONLY = 0 names the source (R260). -/
def State.inWakeSet (s : State) (src : Nat) : Bool :=
  (List.range 32).any fun k =>
    s.flag (OAS_WAKE k) OAS_WAKE_EN && !s.flag (OAS_WAKE k) OAS_WAKE_C8ONLY && s.get (OAS_WAKE k) OAS_WAKE_SRC = src

/-- The sources pending while none of the cores in their mask is awake, whose mask names a present core, and which the wake
set names (R260). One that is in service too is pending like any other (R244). -/
def State.wakeSources (s : State) : List Nat :=
  (s.hic.pend.map (·.1)).filter fun src =>
    s.pend src != 0 && !s.tgt src 8 && (List.range 8).any (s.tgt src) && s.inWakeSet src

/-- A wake-set source is reserved, once, for the lowest-numbered present core in its mask (R260). (DEDUCED, log 28) -/
def State.reserve (s : State) (src : Nat) : State :=
  if (List.range 8).any fun c => (s.hc c).resv.contains src then s
  else match (List.range 8).find? (s.tgt src) with
    | none => s
    | some c => s.modHc c fun x => { x with resv := x.resv ++ [src] }

/-- Wake-set sources wake the hub, or end an entry, in the name of the one of highest priority; each is reserved (R260). (DEDUCED, log 28) -/
def State.wakeFor (s : State) (srcs : List Nat) : State :=
  match srcs.min? with
  | none => s
  | some src => (srcs.foldl State.reserve s).wake 1 src

/-- In DOZE and NAP, and while the wake from them runs, the wake-set sources pending for sleeping cores are judged (R260). (DEDUCED, log 28) -/
def State.wakeCheck (s : State) : State := if s.fabric && s.pstate != 0 then s.wakeFor s.wakeSources else s

/-- What follows every change of the pending, service or mask state: arbitration and the wake rule. -/
def State.settle (s : State) : State := s.arbitrate.wakeCheck

/-! ## Events, levels and raises -/

/-- The coalescer releases (R246): the source becomes pending and the held count passes to EVENTS. (DEDUCED, log 28) -/
def State.release (s : State) (src : Nat) : State :=
  (s.setPend src (min 255 (s.pend src + tget s.hic.held 0 src))).setHeld src 0

/-- An edge event of a source at the HIC (R244–R246). An event that arrives while the source is pending merges into it. (DEDUCED, log 28) -/
def State.edgeEvent (s : State) (src : Nat) : State :=
  if s.isLevel src || !s.srcEn src then s
  else if s.pend src != 0 then s.setPend src (min 255 (s.pend src + 1))
  else
    let n := min 255 (tget s.hic.held 0 src + 1)
    let s := s.setHeld src n
    if s.get (HIC_SRC_CFG src) HIC_SRC_CFG_CCOUNT ≤ n then s.release src else s


/-- The event under way that its island sent first (R23). (DESIGN CHOICE, log 11) -/
def State.nextFrom (s : State) (i : Island) : Option Nat := s.hic.inflight.find? fun src => islandOf src = i

/-- An event of an island has arrived, so one fewer is ahead of each group of records that the island has sent. -/
def JrnSt.passed (j : JrnSt) (i : Island) : JrnSt :=
  { j with handed := j.handed.map fun g => if g.frm.island = i then { g with events := g.events - 1 } else g }

/-- The event under way that an island sent first reaches the HIC (R23, R244). -/
def State.arriveEvent (s : State) (i : Island) : State :=
  match s.nextFrom i with
  | none => s
  | some src => (({ s with hic := { s.hic with inflight := s.hic.inflight.erase src }, jrn := s.jrn.passed i }).edgeEvent src).settle

/-- An edge event arrives (R23, R244): of the events under way from its island, the one that was sent first reaches the HIC. -/
def execSourceEvent (src : Src) (s : State) : Host.Outcome State Fault Refusal :=
  .next (if s.fabric ∧ s.nextFrom (islandOf src) = some src.val then s.arriveEvent (islandOf src) else s)

/-- CTIME has elapsed since the first held event (R246). -/
def execCoalesceTimeout (src : Src) (s : State) : Host.Outcome State Fault Refusal :=
  if s.fabric ∧ tget s.hic.held 0 src.val ≠ 0 ∧ s.get (HIC_SRC_CTIME src) HIC_SRC_CTIME_CTIME ≠ 0 then
    .next (s.release src).settle
  else .next s

/-- The level of a level source becomes `l` at the HIC (R244): asserted with EN = 1 and no claim, the source is pending; a fall
before the claim returns it to idle. -/
def State.levelIs (s : State) (src : Nat) (l : Bool) : State :=
  let s := s.setLvl src l
  if s.inService src then s
  else s.setPend src (if l && s.srcEn src then 1 else 0)

/-- The level that the HIC finds when it samples a source: of a rule unit of EVT, what has crossed from FLT. (DESIGN CHOICE, log 11) -/
def State.levelNow (s : State) (src : Nat) : Bool :=
  if islandOf src = .flt then tget s.hic.lvl false src else s.levelOf src

/-- The HIC samples the level of a source. (DEDUCED, log 28) -/
def State.levelSeen (s : State) (src : Nat) : State := s.levelIs src (s.levelNow src)

/-- The change of a request that FLT sent first reaches the HIC (R23, R244). (DESIGN CHOICE, log 11) -/
def State.arriveAsk (s : State) : State :=
  match s.hic.asks with
  | [] => s
  | u :: l => (({ s with hic := { s.hic with asks := l } }).levelIs (32 + u) (!tget s.hic.lvl false (32 + u))).settle

/-- The first `n` events that an island has sent to the HIC arrive, in their order (R23). -/
def State.arriveEvents (s : State) (i : Island) (n : Nat) : State := (List.range n).foldl (fun s _ => s.arriveEvent i) s

/-- What an island has sent to the HIC is there before anything that it sends to FAB later (R23): its edge events in order, and from FLT
the changes of the rule units' requests. (DESIGN CHOICE, log 11) -/
def State.eventsIn (s : State) (i : Island) : State :=
  let s := if i = .flt then s.hic.asks.foldl (fun s _ => s.arriveAsk) s else s
  s.arriveEvents i (s.sentBy i)

/-- What the island of the oldest group of records on its way to JRN has sent to the HIC before it arrives first (R23). (DESIGN CHOICE, log 11) -/
def State.eventsAhead (s : State) : State :=
  match s.jrn.handed with
  | g :: _ => s.arriveEvents g.frm.island g.events
  | [] => s

/-- A level source's level changes at the HIC (R244); of the rule units' requests the change that was sent first arrives (R23). -/
def execLevelChange (src : Src) (s : State) : Host.Outcome State Fault Refusal :=
  .next (
    if !s.fabric then s
    else if islandOf src = .flt then (if s.hic.asks.head? = some (src.val - 32) then s.arriveAsk else s)
    else if src.val < 255 ∧ s.isLevel src ∧ s.levelOf src ≠ tget s.hic.lvl false src then (s.levelSeen src).settle
    else s)

/-- A source is raised by software or by a launch (R245): a doorbell rings, source 255 sets CFGERR, and any other enabled
source becomes pending at once. -/
def State.softRaise (s : State) (src : Nat) : State :=
  if 224 ≤ src ∧ src < 240 then s.ring (2 ^ (src - 224))
  else if src = 255 then s.cfgErr HIC_STATUS
  else if s.srcEn src then (s.setPend src (if s.isLevel src then 1 else min 255 (s.pend src + 1))).settle
  else s

/-- A write to HIC_RAISE (R245). -/
def execSoftwareRaise (v : Word) (s : State) : Host.Outcome State Fault Refusal :=
  .next (if s.fabric then s.softRaise (fieldOf v HIC_RAISE_SRC) else s)

/-- A write to HIC_PEND[j] (R252): each 1 clears an edge source's pending state and held count. -/
def State.pendClear (s : State) (j : Nat) (v : Word) : State :=
  (List.range 32).foldl (fun s i =>
    let src := 32 * j + i
    if bitAt v i && src < 255 && !s.isLevel src then (s.setPend src 0).setHeld src 0 else s) s

/-- A write to HIC_PEND (R252). -/
def execPendClear (j : Fin 8) (v : Word) (s : State) : Host.Outcome State Fault Refusal :=
  .next (if s.fabric then s.pendClear j v else s)

/-- The mask of the target bits of present cores (R252). -/
def State.tgtMask (s : State) : Nat := 2 ^ 8 + (2 ^ s.nCore - 1)

/-- A write to HIC_SRC_CFG[s] (R245, R252, R474). KIND and POL are written for sources 240–254 only. Clearing EN returns a
pending source to idle. A changed KIND or POL discards the held count and any pending state, with the edges that are on their way,
and a level source then pends from its current level. (DEDUCED, log 28) -/
def State.srcCfgWrite (s : State) (src : Nat) (v : Word) : State :=
  let a := HIC_SRC_CFG src
  let old := s.rd a
  let w := setField v HIC_SRC_CFG_TGT (fieldOf v HIC_SRC_CFG_TGT &&& s.tgtMask)
  let w := if 240 ≤ src then w
    else setField (setField w HIC_SRC_CFG_POL (fieldOf old HIC_SRC_CFG_POL)) HIC_SRC_CFG_KIND (fieldOf old HIC_SRC_CFG_KIND)
  let s := s.storeReg a w
  let new := s.rd a
  let changed := fieldOf old HIC_SRC_CFG_KIND != fieldOf new HIC_SRC_CFG_KIND ||
    fieldOf old HIC_SRC_CFG_POL != fieldOf new HIC_SRC_CFG_POL
  let s := if !s.srcEn src || changed then (s.setPend src 0).setHeld src 0 else s
  let s := if changed then { s with hic := { s.hic with inflight := s.hic.inflight.filter (· != src) } } else s
  let s := if s.isLevel src && (changed || fieldOf old HIC_SRC_CFG_EN = 0 && s.srcEn src) then s.levelSeen src else s
  s.settle

/-- A write to HIC_SRC_CFG (R474). -/
def execSourceConfigWrite (src : Fin 255) (v : Word) (s : State) : Host.Outcome State Fault Refusal :=
  .next (if s.fabric then s.srcCfgWrite src v else s)

/-! ## Delivery (R247–R251) -/

/-- The core is at an instruction boundary, or between two elements of a block run, where it takes interrupts (R186, R208,
R234). -/
def CoreSt.atBoundary (x : CoreSt) : Bool :=
  x.load = none && !x.inHandler && (x.mode = .run || x.mode = .sleep || x.mode = .waitev)

/-- The return target (R250): the next instruction, the word after SLEEP, the WAITEV word, or the run word. -/
def CoreSt.returnTarget (x : CoreSt) : Word := if x.mode = .sleep then x.next else x.pc

/-- The core takes the offer (step 5 of R248, R250): the return target and FLAGS are saved and the core enters handler
state. -/
def CoreSt.enter (x : CoreSt) : CoreSt :=
  { x with savedPc := x.returnTarget, savedFlags := x.flags, inHandler := true, mode := .accepted }

/-- The offered core accepts at an instruction boundary (R248, R250). -/
def execInterruptAccept (c : Core) (s : State) : Host.Outcome State Fault Refusal :=
  if s.awake c ∧ (s.core c).atBoundary then
    if (s.hc c).offer then
      .next ((s.modCore c CoreSt.enter).modHc c fun x => { x with offer := false, accept := true })
    else if c.val = 8 ∧ s.pow.watchOffer then
      let s := s.modCore c CoreSt.enter
      .next { s with pow := { s.pow with watchOffer := false, watchAccept := true } }
    else .next s
  else .next s

/-- The HIC decides the grant (R249): the highest-priority source that is pending, not in service and has the core in its
mask goes into service; without one the grant is spurious. A core with reserved sources can be granted only one of them or one of
higher priority than all of them, and its reservations end (R260). (DEDUCED, log 28) -/
def State.grant (s : State) (c : Nat) : State :=
  let r := (s.hc c).resv
  let l := (s.candidates c).filter fun src => r.contains src || r.all (src ≤ ·)
  match l.min? with
  | some src =>
    let ev := if s.isLevel src then 1 else s.pend src
    let s := s.setPend src 0
    s.modHc c fun x => { x with accept := false, grant := some src, claim := src, events := ev, resv := [] }
  | none =>
    let s := s.bump HIC_STATUS HIC_STATUS_SPURCNT 1
    s.modHc c fun x => { x with accept := false, grant := some 0x3FF, claim := 0x3FF, events := 0, resv := [] }

/-- Whether the wake watcher sees a source asserted in OASIS (R263), for an entry with this INV. -/
def State.watchAsserted (s : State) (src : Nat) (inv : Bool) : Bool :=
  if src = 0 then s.flag SYS_STATUS SYS_STATUS_PWRTO
  else if src = 2 then s.pow.temp3High
  else if 32 ≤ src ∧ src < 40 then
    let w := src - 32
    fieldOf (tget s.afe.aoWatch 0 w) AFE_WATCH_CFG_EN = 1 && s.flag (OAS_WRES w) OAS_WRES_VALID &&
      let r := signedOf 24 (s.get (OAS_WRES w) OAS_WRES_CODE)
      signedOf 24 (s.get (OAS_WHI w) OAS_WHI_WHI) ≤ r || r ≤ signedOf 24 (s.get (OAS_WLO w) OAS_WLO_WLO)
  else if 240 ≤ src ∧ src < 255 then
    let l := if s.pow.padDir.toNat.testBit (src - 240) then s.pow.padOut.toNat.testBit (src - 240)
      else s.pow.gpioBalls.toNat.testBit (src - 240)
    l != inv
  else false

/-- An entry of the wake set with EN = 1 and this C8ONLY names a source that is asserted for it (R263). -/
def State.watchEntry (s : State) (c8 : Bool) (src : Nat) : Bool :=
  (List.range 32).any fun k =>
    s.flag (OAS_WAKE k) OAS_WAKE_EN && s.flag (OAS_WAKE k) OAS_WAKE_C8ONLY == c8 && s.get (OAS_WAKE k) OAS_WAKE_SRC = src &&
      s.watchAsserted src (s.flag (OAS_WAKE k) OAS_WAKE_INV)

/-- The sources that the watcher delivers to C8 (R263): those asserted in an entry with EN = 1 and C8ONLY = 1, and
source 0 in any case; a source that C8 holds is not offered again. (DESIGN CHOICE, log 29) -/
def State.watchForC8 (s : State) : List Nat :=
  (List.range 255).filter fun src =>
    s.pow.watchClaim != some src && (s.watchEntry true src || src = 0 && s.watchAsserted 0 false)

/-- The accept arrives and the HIC, or in OASIS the wake watcher, decides (R249, R263). -/
def execInterruptGrant (c : Core) (s : State) : Host.Outcome State Fault Refusal :=
  if s.fabric ∧ (s.hc c).accept then .next (s.grant c).settle
  else if c.val = 8 ∧ s.pow.watchAccept then
    match s.watchForC8 with
    | src :: _ => .next { s with pow := { s.pow with watchAccept := false, watchGrant := some src, watchClaim := some src } }
    | [] => .next { s with pow := { s.pow with watchAccept := false, watchGrant := some 0x3FF, watchClaim := none } }
  else .next s

/-- The vector of a granted source: VBASE + s, or VBASE + 0x100 for spurious (R199). -/
def vectorOf (vbase : Word) (g : Nat) : Word := vbase + (if g = 0x3FF then 0x100 else BitVec.ofNat 32 g)

/-- The grant reaches the core, which continues in the short form at the vector (step 9 of R248). -/
def CoreSt.vector (x : CoreSt) (g : Nat) : CoreSt := { x with pc := vectorOf x.vbase g &&& 0x3FFF, mode := .run }

/-- The grant reaches the core (R248); one that a power state has stopped takes it when it runs again. A C8 that has been reset
since its accept waits for none: the grant passes, and the claim stands. (DESIGN CHOICE, log 27) (DESIGN CHOICE, log 64) -/
def execVectorEntry (c : Core) (s : State) : Host.Outcome State Fault Refusal :=
  if !s.awake c then .next s else
  match (s.hc c).grant with
  | some g =>
    .next ((s.modCore c fun x => if x.mode = .accepted then x.vector g else x).modHc c fun x => { x with grant := none, inh := true })
  | none =>
    match s.pow.watchGrant with
    | some g =>
      if c.val = 8 then
        let s := s.modCore c fun x => x.vector g
        .next { s with pow := { s.pow with watchGrant := none } }
      else .next s
    | none => .next s

/-- A core's claim ends (R251). An edge source leaves service; a level source re-samples its level. A spurious entry completes
nothing. -/
def State.complete (s : State) (c : Nat) : State :=
  let src := (s.hc c).claim
  let s := s.modHc c fun x => { x with inh := false, claim := 0x3FE, events := 0, done := false, accept := false, grant := none }
  let s := if src < 255 ∧ s.isLevel src then s.levelSeen src else s
  s.settle

/-- The holder's RETI reaches the HIC, or in OASIS the wake watcher (R251, R263). -/
def execClaimComplete (c : Core) (s : State) : Host.Outcome State Fault Refusal :=
  if (s.hc c).done then
    let s := s.complete c
    .next (if c.val = 8 then { s with pow := { s.pow with watchClaim := none } } else s)
  else .next s

/-- HOST_IRQn is driven low (R253): a source routed to it is pending or in service. In OASIS and in reset it is released
(R47). -/
def State.hostIrqLow (s : State) (n : Nat) : Bool :=
  s.fabric && (List.range 255).any fun src =>
    bitAt (s.rd (HIC_SRC_CFG src)) (12 + n) && (s.pend src != 0 || s.inService src)

end Sys2Proof.Machine
end

