-- ==== Sys2Proof/Machine/Act.lean ====
section
/-! DEFINITION. Actuation: outputs, SAFE, the PWM generators and the mains phases (R324–R333, R475). -/

namespace Sys2Proof.Machine

open Sys2Proof

/-! ## Outputs -/

/-- An output. -/
def State.out (s : State) (n : Nat) : OutSt := tget s.act.out {} n

/-- An output changed. -/
def State.modOut (s : State) (n : Nat) (f : OutSt → OutSt) : State :=
  { s with act := { s.act with out := tset {} s.act.out n (f (s.out n)) } }

/-- An output's latch in the AO island (R331). -/
def State.latchOf (s : State) (n : Nat) : Bool := tget s.act.latch false n

/-- MODE of an output (R324): 0 STATIC, 1 PWM, 2 ZX, 3 HALF. -/
def State.outMode (s : State) (n : Nat) : Nat := s.get (ACT_OUT_CFG n) ACT_OUT_CFG_MODE

/-- The outputs that the variant has (R1). -/
def State.outs (s : State) : List Nat := List.range s.nAct

/-- An output's level before INV (R324). -/
def State.outLevel (s : State) (n : Nat) : Bool :=
  if s.outMode n = 0 then s.flag (ACT_OUT_CFG n) ACT_OUT_CFG_LEVEL else (s.out n).on

/-- ACT drives the latch of an output that it owns (R324, R331). -/
def State.drive (s : State) (n : Nat) : State :=
  if (s.out n).owned then
    let l := s.outLevel n != s.flag (ACT_OUT_CFG n) ACT_OUT_CFG_INV
    { s with act := { s.act with latch := tset false s.act.latch n l } }
  else s

/-- A mains phase. -/
def State.phase (s : State) (p : Nat) : MainsSt := tget s.act.mains {} p

/-- A mains phase replaced. -/
def State.setPhase (s : State) (p : Nat) (m : MainsSt) : State :=
  { s with act := { s.act with mains := tset {} s.act.mains p m } }

/-- The phase is OK (R328). -/
def State.phaseOk (s : State) (p : Nat) : Bool := s.flag (ACT_MAINS_STAT p) ACT_MAINS_STAT_OK

/-- ADV in ticks (R326). -/
def State.adv (s : State) (p : Nat) : Nat := s.get (ACT_MAINS_CFG p) ACT_MAINS_CFG_ADV * 256
/-- ZXDLY in ticks (R328). -/
def State.zxdly (s : State) (p : Nat) : Nat := s.get (ACT_MAINS_CFG p) ACT_MAINS_CFG_ZXDLY * 256


/-- Whether a crossing comes after the last one decided. -/
def undecided (done : Option Nat) (z : Nat) : Bool := match done with | none => true | some d => d < z

/-- Of the crossings already predicted, those whose decision instant has passed are not decided by an output that takes up the
phase now (R324, R475). (DEDUCED, log 38) -/
def State.skipPassed (s : State) (n : Nat) : State :=
  let p := s.get (ACT_OUT_CFG n) ACT_OUT_CFG_PHASE
  let m := s.phase p
  let zs := (m.preds.filter fun c => c.z ≤ s.time + s.adv p).map fun c => some c.z
  let bs := (m.preds.filter fun c => c.z + c.t / 2 ≤ s.time + s.adv p).map fun c => some c.z
  s.modOut n fun o => { o with doneZ := zs.getLast?.getD none, doneB := bs.getLast?.getD none }

/-- What follows a write of ACT_OUT_CFG whose former value was `old` (R324, R328, R331): the accumulator returns to 0, the output is
owned, a change of MODE into PWM, ZX or HALF keeps it off until its first cycle start or decision, and on a phase that is lost it is off. -/
def State.cfgWritten (s : State) (n : Nat) (old : Word) : State :=
  let changed := fieldOf old ACT_OUT_CFG_MODE != s.outMode n
  let moved := fieldOf old ACT_OUT_CFG_PHASE != s.get (ACT_OUT_CFG n) ACT_OUT_CFG_PHASE
  let lost := 2 ≤ s.outMode n && !s.phaseOk (s.get (ACT_OUT_CFG n) ACT_OUT_CFG_PHASE)
  let s := s.modOut n fun o => { o with acc := 0, owned := true, on := o.on && !lost }
  let s := if changed then s.modOut n fun o => { o with on := false, wait := s.outMode n != 0, duty := 0 } else s
  let s := if changed || moved then s.skipPassed n else s
  s.drive n

/-- A store to ACT_OUT_CFG (R331, R333). -/
def State.outCfgStore (s : State) (n : Nat) (v : Word) : State :=
  if n < s.nAct then (s.storeReg (ACT_OUT_CFG n) v).cfgWritten n (s.rd (ACT_OUT_CFG n)) else s

/-- A new value of ACT_OUT_CFG by a launch (R315, R331). -/
def State.outCfgPut (s : State) (n : Nat) (v : Word) : State := (s.wr (ACT_OUT_CFG n) v).cfgWritten n (s.rd (ACT_OUT_CFG n))

/-- The ticks that a PWM output is high in a cycle of `len` ticks, rounded half up (R325). -/
def highTicks (duty len : Nat) : Nat := (2 * duty * len + 65536) / 131072

/-- A PWM output takes DUTY for the cycle that starts at `c0`, seen from the counter's present value (R325). -/
def State.pwmCycle (s : State) (n c0 len : Nat) : State :=
  let d := s.get (ACT_OUT_DUTY n) ACT_OUT_DUTY_DUTY
  let h := highTicks d len
  (s.modOut n fun o => { o with duty := d, start := c0, len := len, high := h, on := s.time < c0 + h, wait := false }).drive n

/-- A DUTY written applies from the next cycle boundary; on a PWM cycle's first tick it applies to that cycle (R324, R325). -/
def State.dutyWritten (s : State) (n : Nat) : State :=
  let o := s.out n
  if s.outMode n = 1 ∧ !o.wait ∧ o.start = s.time ∧ o.len ≠ 0 then s.pwmCycle n o.start o.len else s

/-- A store to ACT_OUT_DUTY (R324, R333). -/
def State.dutyStore (s : State) (n : Nat) (v : Word) : State :=
  if n < s.nAct then (s.storeReg (ACT_OUT_DUTY n) v).dutyWritten n else s

/-- The duty that an output posts (R324): 0 while it waits, and for ZX and HALF while the phase is lost or not tracked. -/
def State.posted (s : State) (n : Nat) : Nat :=
  if s.nAct ≤ n then 0
  else match s.outMode n with
    | 0 => if s.flag (ACT_OUT_CFG n) ACT_OUT_CFG_LEVEL then 65536 else 0
    | 1 => if (s.out n).wait then 0 else (s.out n).duty
    | _ => if (s.out n).wait || !s.phaseOk (s.get (ACT_OUT_CFG n) ACT_OUT_CFG_PHASE) then 0 else (s.out n).duty

/-- A store to ACT_OUT_CFG (R331). -/
def execOutputConfigWrite (n : Out) (v : Word) (s : State) : Host.Outcome State Fault Refusal :=
  .next (if s.fabric then s.outCfgStore n v else s)

/-- A store to ACT_OUT_DUTY (R324). -/
def execOutputDutyWrite (n : Out) (v : Word) (s : State) : Host.Outcome State Fault Refusal :=
  .next (if s.fabric then s.dutyStore n v else s)

/-! ## SAFE (R330) -/

/-- SAFE on one output: MODE becomes STATIC and LEVEL makes the ball show the SAFE level. (DESIGN CHOICE, log 34) -/
def State.safeOne (s : State) (n : Nat) : State :=
  let a := ACT_OUT_CFG n
  let ball := match s.get a ACT_OUT_CFG_SAFE with | 0 => false | 1 => true | _ => s.latchOf n
  let v := setField (s.rd a) ACT_OUT_CFG_MODE 0
  let s := { s with act := { s.act with safeAt := tset 0 s.act.safeAt n (s.raw + 1) } }
  s.outCfgPut n (setField v ACT_OUT_CFG_LEVEL (ball != s.flag a ACT_OUT_CFG_INV).toNat)

/-- After a launch that writes ACT_OUT_CFG on a tick on which SAFE has been applied to the output: SAFE overrides it (R329). (DESIGN CHOICE, log 34) -/
def State.keepSafe (s : State) (n : Nat) : State := if tget s.act.safeAt 0 n = s.raw + 1 then s.safeOne n else s

/-- SAFE on the outputs that a mask names and the variant has: SAFEDONE is set and source 22 raised. -/
def State.safe (s : State) (mask : Nat) : State :=
  let ns := s.outs.filter fun n => mask.testBit n
  if ns.isEmpty then s
  else ((ns.foldl State.safeOne s).set ACT_STATUS ACT_STATUS_SAFEDONE 1).raise 22

/-- SAFE on every output. -/
def State.safeAll (s : State) : State := s.safe (2 ^ 48 - 1)

/-- A write to ACT_SAFECMD0 or ACT_SAFECMD1 (R330). -/
def execSafeCommand (j : Fin 2) (v : Word) (s : State) : Host.Outcome State Fault Refusal :=
  .next (if s.fabric then s.safe (v.toNat * 2 ^ (32 * j.val)) else s)

/-! ## PWM generators (R325) -/

/-- The length in ticks that a setting gives: PER, in units of 256 ticks when SLOW = 1. -/
def genLen (w : Word) : Nat :=
  let l := fieldOf w ACT_GEN_PER * (if fieldOf w ACT_GEN_SLOW = 1 then 256 else 1)
  if l = 0 then 1 else l

/-- The setting in force at tick `t`: a written one counts from the next plant second boundary. -/
def State.genAt (s : State) (k t : Nat) : Word :=
  match tget s.act.gen none k with
  | some (w, sec) => if secOf t ≤ sec then w else s.rd (ACT_GEN k)
  | none => s.rd (ACT_GEN k)

/-- The cycle of generator `k` that tick `t` lies in: its start and its length; a second's last cycle is cut short. -/
def State.cycleAt (s : State) (k t : Nat) : Nat × Nat :=
  let l := genLen (s.genAt k t)
  let c0 := secOf t * secTicks + t % secTicks / l * l
  (c0, min l ((secOf t + 1) * secTicks - c0))

/-- The PWM outputs of a generator. -/
def State.pwmOuts (s : State) (k : Nat) : List Nat :=
  s.outs.filter fun n => s.outMode n = 1 && s.get (ACT_OUT_CFG n) ACT_OUT_CFG_GEN = k

/-- A cycle of generator `k` starts: its PWM outputs take their duty. -/
def State.startCycle (s : State) (k c0 len : Nat) : State :=
  let s := { s with act := { s.act with cycle := tset none s.act.cycle k (some c0) } }
  (s.pwmOuts k).foldl (fun s n => s.pwmCycle n c0 len) s

/-- A generator starts a cycle (R325): the present one if it has not been started, else the next, at its instant. -/
def execPwmCycleStart (k : Fin 4) (s : State) : Host.Outcome State Fault Refusal :=
  if s.pow.pllT then
    let here := s.cycleAt k s.time
    let s := if tget s.act.cycle none k = some here.1 then s.passTo (here.1 + here.2) else s
    let c := s.cycleAt k s.time
    .next ((s.startCycle k c.1 c.2).tRaise (24 + k))
  else .next s

/-- The high part of an output's PWM cycle ends (R325). -/
def execPwmDutyEnd (n : Out) (s : State) : Host.Outcome State Fault Refusal :=
  let o := s.out n
  if s.pow.pllT ∧ s.outMode n = 1 ∧ o.on ∧ o.high < o.len then
    .next (((s.passTo (o.start + o.high)).modOut n fun o => { o with on := false }).drive n)
  else .next s

/-- A write to ACT_GEN[k] takes effect at the next plant second boundary (R325). PER of 0 or 1 is refused. -/
def State.genStore (s : State) (k : Nat) (v : Word) : State :=
  let a := ACT_GEN k
  if fieldOf v ACT_GEN_PER < 2 then s.cfgErr a
  else
    let force := s.genAt k s.time
    let s := s.storeReg a v
    { s with act := { s.act with gen := tset none s.act.gen k (if s.rd a = force then none else some (force, secOf s.time)) } }

/-- A write to ACT_GEN (R325). -/
def execGenWrite (k : Fin 4) (v : Word) (s : State) : Host.Outcome State Fault Refusal :=
  .next (if s.fabric then s.genStore k v else s)

/-- A plant second begins: written generator settings are in force (R325). -/
def State.gensApply (s : State) : State :=
  { s with act := { s.act with gen := s.act.gen.filter fun e =>
      match e.2 with | some (_, sec) => secOf s.time ≤ sec | none => false } }

/-- ACT_MAINS_ZX shows the nanosecond of the last true crossing. (DESIGN CHOICE, log 36) -/
def State.showZx (s : State) (p : Nat) : State :=
  match (s.phase p).zx with
  | some z =>
    let r := s.approx (z % secTicks * 125) 32
    r.1.set (ACT_MAINS_ZX p) ACT_MAINS_ZX_NS r.2
  | none => s

/-- After a step of the counter (R307): every generator restarts its cycle from the new counter, and mains timestamps are
shifted by the same amount, with the registers that show them. A start on the new tick itself is left to its own row. -/
def State.actStep (s : State) (d : Int) : State :=
  let sh := fun (t : Nat) => ((t : Int) + d).toNat
  let s := { s with act := { s.act with
      gen := s.act.gen.map fun e => (e.1, e.2.map fun g => (g.1, min g.2 (secOf s.time)))
      mains := s.act.mains.map fun e => (e.1, { e.2 with
        edge := e.2.edge.map sh, preds := e.2.preds.map fun c => { c with z := sh c.z }, zx := e.2.zx.map sh })
      out := s.act.out.map fun e => (e.1, { e.2 with doneZ := e.2.doneZ.map sh, doneB := e.2.doneB.map sh }) } }
  let s := (List.range 3).foldl State.showZx s
  (List.range 4).foldl (fun s k =>
    let c := s.cycleAt k s.time
    if c.1 = s.time then { s with act := { s.act with cycle := tset none s.act.cycle k none } } else s.startCycle k c.1 c.2) s

/-! ## Mains (R326–R328, R475) -/

/-- The ZX and HALF outputs of a phase. -/
def State.mainsOuts (s : State) (p : Nat) : List Nat :=
  s.outs.filter fun n => 2 ≤ s.outMode n && s.get (ACT_OUT_CFG n) ACT_OUT_CFG_PHASE = p

/-- The phase stops being OK (R328): source 16 + p, and its ZX and HALF outputs stay off with their accumulators at 0. -/
def State.phaseLost (s : State) (p : Nat) : State :=
  if s.phaseOk p then
    let s := (s.set (ACT_MAINS_STAT p) ACT_MAINS_STAT_OK 0).tRaise (16 + p)
    (s.mainsOuts p).foldl (fun s n => (s.modOut n fun o => { o with on := false, acc := 0 }).drive n) s
  else s

/-- A phase whose history is cleared, with its last edge if it has one (R328); a crossing already predicted stays predicted, and
ACT_MAINS_ZX keeps what it shows. -/
def State.clearPhase (s : State) (p : Nat) (edge : Option Nat) : State :=
  s.setPhase p { edge, preds := (s.phase p).preds, zx := (s.phase p).zx }

/-- A phase that is not tracked: no crossing is predicted (R328). -/
def State.untrack (s : State) (p : Nat) : State := s.setPhase p { zx := (s.phase p).zx }

/-- The outputs of a phase that has become OK restart at the first crossing that still lies ahead (R328). (DEDUCED, log 38) -/
def State.restartOuts (s : State) (p : Nat) : State :=
  let past := (((s.phase p).preds.filter fun c => c.z ≤ s.time).map fun c => some c.z).getLast?.getD none
  (s.mainsOuts p).foldl (fun s n => s.modOut n fun o => { o with doneZ := past, doneB := past }) s

/-- The mean of intervals in ticks; a fraction of a tick is rounded in a direction that the spec does not state. (DESIGN CHOICE, log 36) -/
def State.mean (s : State) (l : List Nat) : State × Nat := s.approx (l.foldl (· + ·) 0) l.length

/-- An accepted edge at tick `t`, `d` ticks after the one before (R328). (DESIGN CHOICE, log 34) -/
def State.interval (s : State) (p t d : Nat) : State :=
  if 3937280 ≤ d ∧ d ≤ 5688320 then
    let m := s.phase p
    let h := (m.hist ++ [d]).drop (m.hist.length + 1 - 8)
    let r := s.mean h
    let ps := m.preds ++ [{ z := t + r.2 - s.zxdly p, t := r.2 }]
    let s := r.1.setPhase p { m with edge := some t, hist := h, period := r.2, preds := ps.drop (ps.length - 4) }
    let q := s.approx r.2 128
    let s := q.1.set (ACT_MAINS_STAT p) ACT_MAINS_STAT_PERIOD q.2
    if 4 ≤ h.length ∧ !s.phaseOk p then
      ((s.set (ACT_MAINS_STAT p) ACT_MAINS_STAT_OK 1).tRaise (19 + p)).restartOuts p
    else s
  else (s.phaseLost p).clearPhase p (some t)

/-- A rising edge on MAINS_SENSE at tick `t` (R328). -/
def State.mainsEdge (s : State) (p t : Nat) : State :=
  let zx := fun (s : State) => (s.setPhase p { s.phase p with zx := some (t - s.zxdly p) }).showZx p
  match (s.phase p).edge with
  | none => zx (s.clearPhase p (some t))
  | some e => if t < e + 3584000 then s else zx (s.interval p t (t - e))

/-- A rising edge on MAINS_SENSE (R328); in a WARM reset and in OASIS the ball is ignored (R47). -/
def execMainsEdge (p : Phase) (at_ : Nat) (s : State) : Host.Outcome State Fault Refusal :=
  let s := s.passTo at_
  .next (if s.pow.pllT ∧ s.fabric ∧ s.flag (ACT_MAINS_CFG p) ACT_MAINS_CFG_EN then s.mainsEdge p s.time else s)

/-- No edge has been accepted for 25 ms (R328). -/
def execMainsLostTimeout (p : Phase) (s : State) : Host.Outcome State Fault Refusal :=
  match (s.phase p).edge with
  | some e =>
    if s.pow.pllT ∧ s.flag (ACT_MAINS_CFG p) ACT_MAINS_CFG_EN then
      .next (((s.passTo (e + 6400000)).phaseLost p).clearPhase p none)
    else .next s
  | none => .next s

/-- A predicted crossing arrives (R328): the first one whose source has not been raised. -/
def execPredictedCrossing (p : Phase) (s : State) : Host.Outcome State Fault Refusal :=
  let m := s.phase p
  match m.preds.find? fun c => !c.told with
  | some c =>
    if s.pow.pllT ∧ s.flag (ACT_MAINS_CFG p) ACT_MAINS_CFG_EN then
      let ps := m.preds.map fun d => if d.z = c.z then { d with told := true } else d
      .next (((s.passTo c.z).setPhase p { m with preds := ps }).tRaise (28 + p))
    else .next s
  | none => .next s

/-- A write to ACT_MAINS_CFG[p] (R328). -/
def State.mainsCfgStore (s : State) (p : Nat) (v : Word) : State :=
  let a := ACT_MAINS_CFG p
  let was := s.flag a ACT_MAINS_CFG_EN
  let s := s.storeReg a v
  let now := s.flag a ACT_MAINS_CFG_EN
  if was && !now then (s.phaseLost p).untrack p else s

/-- A write to ACT_MAINS_CFG (R328). -/
def execMainsConfigWrite (p : Phase) (v : Word) (s : State) : Host.Outcome State Fault Refusal :=
  .next (if s.fabric then s.mainsCfgStore p v else s)

/-- A ZX output's decision for one cycle (R326). -/
def State.decideZx (s : State) (n z : Nat) : State :=
  let d := s.get (ACT_OUT_DUTY n) ACT_OUT_DUTY_DUTY
  let acc := (s.out n).acc + d
  let on := decide (65536 ≤ acc)
  (s.modOut n fun o => { o with
    acc := if on then acc - 65536 else acc, on := on, duty := d, wait := false, doneZ := some z }).drive n

/-- The first predicted crossing of a phase that comes after the one decided last (R475). -/
def State.nextCross (s : State) (p : Nat) (done : Option Nat) : Option Cross := (s.phase p).preds.find? fun c => undecided done c.z

/-- At Z − ADV, or at once where that has passed, a ZX output decides for the crossing Z (R326, R475). (DEDUCED, log 38) -/
def execZxDecision (n : Out) (s : State) : Host.Outcome State Fault Refusal :=
  let p := s.get (ACT_OUT_CFG n) ACT_OUT_CFG_PHASE
  match s.nextCross p (s.out n).doneZ with
  | some c =>
    if s.pow.pllT ∧ n.val < s.nAct ∧ s.outMode n = 2 ∧ s.phaseOk p then
      .next ((s.passTo (c.z - s.adv p)).decideZx n c.z)
    else .next s
  | none => .next s

/-- A HALF output's decision for one half-cycle of the given polarity (R327). -/
def State.decideHalf (s : State) (n : Nat) (positive : Bool) : State :=
  let d := s.get (ACT_OUT_DUTY n) ACT_OUT_DUTY_DUTY
  let acc := min 131071 ((s.out n).acc + d)
  let on := decide (65536 ≤ acc) && (s.out n).last != some positive
  (s.modOut n fun o => { o with
    acc := if on then acc - 65536 else acc, on := on, duty := d, wait := false
    last := if on then some positive else o.last }).drive n

/-- At B − ADV, or at once where that has passed, a HALF output decides for the half-cycle that begins at B (R327, R475): at Z,
positive, or at Z + T/2, negative. (DEDUCED, log 38) -/
def execHalfDecision (n : Out) (positive : Bool) (s : State) : Host.Outcome State Fault Refusal :=
  let p := s.get (ACT_OUT_CFG n) ACT_OUT_CFG_PHASE
  if s.pow.pllT ∧ n.val < s.nAct ∧ s.outMode n = 3 ∧ s.phaseOk p then
    if positive then
      match s.nextCross p (s.out n).doneZ with
      | some c => .next (((s.passTo (c.z - s.adv p)).decideHalf n true).modOut n fun o => { o with doneZ := some c.z })
      | none => .next s
    else
      match s.nextCross p (s.out n).doneB with
      | some c => .next (((s.passTo (c.z + c.t / 2 - s.adv p)).decideHalf n false).modOut n fun o => { o with doneB := some c.z })
      | none => .next s
  else .next s

end Sys2Proof.Machine
end

