-- ==== Sys2Proof/Machine/Path.lean ====
section
/-! DEFINITION. One decimation path (R112–R122): stage 1 in cascaded integrator-comb form, stage 2, the output code. -/

namespace Sys2Proof.Machine

open Sys2Proof

/-! ## Stage 1 (R115) -/

/-- The integrators after an input, each 34 bits wide and wrapping. -/
def pushInts : Nat → List Nat → Nat → List Nat
  | 0, _, _ => []
  | k + 1, l, x =>
    let y := (l.headD 0 + x) % 2 ^ 34
    y :: pushInts k l.tail y

/-- The combs after an input, and the output. -/
def pushCombs : Nat → List Nat → Nat → List Nat × Nat
  | 0, _, x => ([], x)
  | k + 1, l, x =>
    let r := pushCombs k l.tail ((x + 2 ^ 34 - l.headD 0) % 2 ^ 34)
    (x :: r.1, r.2)

/-- One input of a section of order `n` that decimates by `d`, and its sum at the end of a window. -/
def CicSt.feed (c : CicSt) (n d x : Nat) : CicSt × Option Nat :=
  let i := pushInts n c.ints x
  if c.n + 1 < d then ({ c with ints := i, n := c.n + 1 }, none)
  else
    let r := pushCombs n c.combs (i.getLastD 0)
    ({ ints := i, combs := r.1, n := 0 }, some r.2)

/-! ## Settings (R112, R114) -/

/-- RESP is MR. -/
def PathSt.mr (p : PathSt) : Bool := fieldOf p.a FLT_PROF_A_RESP = 2
/-- The order of stage 1. -/
def PathSt.order (p : PathSt) : Nat := if fieldOf p.a FLT_PROF_A_RESP = 1 then 4 else 3
/-- The binary logarithm of D1. -/
def PathSt.log2d1 (p : PathSt) : Nat := if p.mr then 11 else 6 + fieldOf p.a FLT_PROF_A_D1SEL
/-- D1. -/
def PathSt.d1 (p : PathSt) : Nat := 2 ^ p.log2d1
/-- L2; each of the three averages of MR has 100 points (R118). -/
def PathSt.l2 (p : PathSt) : Nat := if p.mr then 100 else fieldOf p.b FLT_PROF_B_L2
/-- D2; 100 in MR (R118). -/
def PathSt.d2 (p : PathSt) : Nat := if p.mr then 100 else fieldOf p.b FLT_PROF_B_D2
/-- F. -/
def PathSt.f (p : PathSt) : Nat := fieldOf p.a FLT_PROF_A_FM1 + 1
/-- S, the number of items that are not complete (R122). -/
def PathSt.settles (p : PathSt) : Nat :=
  if p.mr then 2 else (p.order + p.l2 - 1 + p.d2 - 1) / p.d2 - 1
/-- Edges from one stage-2 output to the next (R120). -/
def PathSt.every (p : PathSt) : Nat := p.d1 * p.d2
/-- The edge that carries the last bit of the `k`-th output's window, counting from 1 (R120, R122). -/
def PathSt.edgeOf (p : PathSt) (k : Nat) : Nat := p.start + p.every * k - 1
/-- The edge of the next output. -/
def PathSt.due (p : PathSt) : Nat := p.edgeOf (p.m + 1)
/-- The edge of the next output that is complete. -/
def PathSt.dueComplete (p : PathSt) : Nat := p.edgeOf (max (p.m + 1) (p.settles + 1))

/-- A path that starts from cleared state with its first window at an edge (R128, R130). -/
def PathSt.begin (prof : Nat) (a b : Word) (start : Nat) : PathSt := { prof, a, b, start }

/-! ## One bit -/

/-- One bit in stage 1: x1 at the end of a stage-1 window (R115). -/
def PathSt.stage1 (p : PathSt) (bit : Bool) : PathSt × Option Nat :=
  if p.order = 4 ∧ p.log2d1 = 10 then
    let r := p.cic.feed 4 256 bit.toNat
    match r.2 with
    | none => ({ p with cic := r.1 }, none)
    | some sa =>
      let q := p.cicB.feed 4 4 (roundHalfUp sa 128).toNat
      ({ p with cic := r.1, cicB := q.1 }, q.2)
  else
    let r := p.cic.feed p.order p.d1 bit.toNat
    ({ p with cic := r.1 }, r.2.map fun s1 => s1 * 2 ^ (33 - p.order * p.log2d1))

/-- A value at the front of a delay line of a given length. -/
def shiftIn (l : List Int) (len : Nat) (x : Int) : List Int := (x :: l).take len

/-- The sum of a delay line: the accumulator's 38 bits hold it exactly (R117). -/
def lineSum (l : List Int) : Int := l.foldl (· + ·) 0

/-- One stage-2 input (R117, R118): the path, and the last section's sum. -/
def PathSt.average (p : PathSt) (u : Int) : PathSt × Int :=
  if p.mr then
    let l1 := shiftIn p.line1 100 u
    let l2 := shiftIn p.line2 100 (roundHalfUp (lineSum l1) 100)
    let l3 := shiftIn p.line3 100 (roundHalfUp (lineSum l2) 100)
    ({ p with line1 := l1, line2 := l2, line3 := l3 }, lineSum l3)
  else
    let l1 := shiftIn p.line1 p.l2 u
    ({ p with line1 := l1 }, lineSum l1)

/-- A stage-1 output in stage 2 (R116–R118): on every D2-th one, the output code. -/
def PathSt.stage2 (p : PathSt) (x1 : Nat) : PathSt × Option Int :=
  let r := p.average (roundHalfUp ((x1 : Int) - 2 ^ 32) 256)
  if p.j + 1 < p.d2 then ({ r.1 with j := p.j + 1 }, none)
  else ({ r.1 with j := 0, m := p.m + 1 }, some (roundHalfUp r.2 (4 * p.l2)))

/-- One bit of the channel (R113): the path, and the output code where a window closes. -/
def PathSt.feed (p : PathSt) (bit : Bool) : PathSt × Option Int :=
  let r := p.stage1 bit
  match r.2 with
  | none => (r.1, none)
  | some x1 => r.1.stage2 x1

/-- The bits from edge `e` on: bits before the path's start are not its own. The code is that of the last bit's edge, if a
window closes there. -/
def PathSt.feedAll (p : PathSt) (e : Nat) : List Bool → PathSt × Option Int
  | [] => (p, none)
  | b :: l =>
    let r := if p.start ≤ e then p.feed b else (p, none)
    match l with
    | [] => r
    | _ => r.1.feedAll (e + 1) l

end Sys2Proof.Machine
end

