-- ==== Sys2Proof/Machine/Queue.lean ====
section
/-! DEFINITION. The queue manager (R265–R289). -/

namespace Sys2Proof.Machine

open Sys2Proof

/-- The word that a pop returns with nothing available, and that free slots hold (R269). -/
def emptyItem : Item := 0xFFFFFFFFFFFFFFFF

/-- A queue's state. -/
def State.qst (s : State) (q : Nat) : QSt := tget s.qm.q {} q

/-- A queue's state replaced. -/
def State.setQ (s : State) (q : Nat) (x : QSt) : State := { s with qm := { s.qm with q := tset {} s.qm.q q x } }

/-- The size of a queue: 2^N items (R266). -/
def sizeOf (cfg : Word) : Nat :=
  let n := fieldOf cfg QM_Q_CFG_LOG2SIZE
  if n = 0 then 65536 else 2 ^ n

/-- The size of queue `q`. -/
def State.qsize (s : State) (q : Nat) : Nat := sizeOf (s.rd (QM_Q_CFG q))

/-- The address of the slot of a running position: slot BASE + position modulo the size (R266). -/
def State.slot (s : State) (q pos : Nat) : Nat :=
  0x100000 + 8 * ((s.get (QM_Q_CFG q) QM_Q_CFG_BASE + pos % s.qsize q) % 65536)

/-- An item written to a slot with fresh parity. -/
def State.putSlot (s : State) (q pos : Nat) (item : Item) : State :=
  let a := s.slot q pos
  { s.mwr a 8 item.toNat with flips := tdel (tdel s.flips a) (a + 4) }

/-- The item in a slot, and the bytes that fail parity (R278). -/
def State.getSlot (s : State) (q pos : Nat) : Item × Nat :=
  let a := s.slot q pos
  let e0 := tget s.flips 0 a
  let e1 := tget s.flips 0 (a + 4)
  (BitVec.ofNat 64 (s.mrd a 8 ^^^ (e0 % 2 ^ 32 + e1 % 2 ^ 32 * 2 ^ 32)), parityFails .perByte e0 + 16 * parityFails .perByte e1)

/-- The queue is enabled and not in RESTORE. -/
def State.qlive (s : State) (q : Nat) : Bool := s.flag (QM_Q_CFG q) QM_Q_CFG_EN && !(s.qst q).restore

/-- ABOVE is evaluated for a data queue (R285): 1 at HI, 0 at or below LO, else kept; 0 while disabled or in RESTORE. -/
def State.evalAbove (s : State) (q : Nat) : State :=
  let x := s.qst q
  if 32 ≤ q then s
  else if !s.qlive q then s.setQ q { x with above := false }
  else
    let o := s.occ q
    let hi := s.get (QM_Q_HI q) QM_Q_HI_HI
    let lo := s.get (QM_Q_LO q) QM_Q_LO_LO
    s.setQ q { x with above := if hi ≤ o then true else if o ≤ lo then false else x.above }

/-- After an operation on a queue whose occupancy was `before`: EMPTY in slot WR where the last slot was freed (R277), and the
watermark (R282). -/
def State.qafter (s : State) (q before : Nat) : State :=
  let s := if before = s.qsize q ∧ s.occ q < s.qsize q then s.putSlot q (s.qst q).wr emptyItem else s
  s.evalAbove q

/-- A dropped item is counted (R276). -/
def State.countDrop (s : State) (q : Nat) : State := s.bumpSat (QM_Q_DROPS q) QM_Q_DROPS_DROPS 1

/-- An item written at slot WR; WR rises, and EMPTY follows while there is room (R276, R277). -/
def State.append (s : State) (q : Nat) (item : Item) (live : Bool) : State :=
  let s := s.putSlot q (s.qst q).wr item
  let s := s.setQ q { s.qst q with wr := (s.qst q).wr + 1, live := live }
  if s.occ q < s.qsize q then s.putSlot q (s.qst q).wr emptyItem else s

/-- A cullet item (R270): the low word of the first item dropped, and the count. -/
def culletItem (first : Item) (n : Nat) : Item :=
  BitVec.ofNat 64 (first.toNat % 2 ^ 32 * 2 ^ 32 + 0x71 * 2 ^ 25 + n)

/-- The live cullet's count rises by 1, saturating (R276). -/
def State.growCullet (s : State) (q : Nat) : State :=
  let p := (s.qst q).wr - 1
  let it := (s.getSlot q p).1.toNat
  s.putSlot q p (BitVec.ofNat 64 (setBitsOf it 0 24 (min 0xFFFFFF (it % 2 ^ 24 + 1))))

/-- A push (R271, R276). The flag says that the item was dropped (R280). -/
def State.push (s : State) (q : Nat) (item : Item) : State × Bool :=
  if item = emptyItem then (s.set QM_STATUS QM_STATUS_BADPUSH 1, false)
  else if !s.qlive q then (s.countDrop q, true)
  else
    let o := s.occ q
    let n := s.qsize q
    if (s.qst q).live ∧ n ≤ o + 1 then (((s.growCullet q).countDrop q).evalAbove q, true)
    else if o + 2 ≤ n then ((s.append q item false).evalAbove q, false)
    else if o + 1 = n then (((s.append q (culletItem item 1) true).countDrop q).evalAbove q, true)
    else (((s.set (QM_Q_FLAGS q) QM_Q_FLAGS_LOST 1).countDrop q).evalAbove q, true)

/-- A push of FLT, behind the EVT requests that it sent before (R19, R23): a dropped item makes the queue lack the epoch of the current
second (R280). -/
def State.pushF (s : State) (q : Nat) (item : Item) : State :=
  let r := (s.eventsIn .flt).push q item
  if r.2 then { r.1 with qm := { r.1.qm with epochF := tset none r.1.qm.epochF q none } } else r.1

/-- A push of the TEU, behind the sources that it raised before (R23, R280). -/
def State.pushT (s : State) (q : Nat) (item : Item) : State :=
  let r := (s.eventsIn .teu).push q item
  if r.2 then { r.1 with qm := { r.1.qm with epochT := tset none r.1.qm.epochT q none } } else r.1

/-- The item that a pop or a peek returns (R278): EMPTY with nothing available, DAMAGED for a slot that fails parity. (DESIGN CHOICE, log 30) -/
def State.front (s : State) (q : Nat) : State × Item :=
  if !s.qlive q || s.avail q = 0 then (s, emptyItem)
  else
    let p := (s.qst q).rd
    let r := s.getSlot q p
    if r.2 = 0 then (s, r.1)
    else
      let s := s.set (QM_Q_FLAGS q) QM_Q_FLAGS_PARERR 1
      let s := s.set QM_STATUS QM_STATUS_PARERR 1
      (s.eccBad 1 (s.slot q p) r.2, BitVec.ofNat 64 (0x72 * 2 ^ 25 + p % s.qsize q))

/-- RD moved to a position (R268): MARK follows it while MEN = 0. -/
def State.moveRd (s : State) (q pos : Nat) (live : Bool) : State :=
  let x := s.qst q
  s.setQ q { x with rd := pos, live, mark := if s.flag (QM_Q_CFG q) QM_Q_CFG_MEN then x.mark else pos }

/-- A pop (R278). -/
def State.pop (s : State) (q : Nat) : State × Item :=
  let r := s.front q
  if !s.qlive q || s.avail q = 0 then r
  else
    let x := s.qst q
    let o := s.occ q
    ((r.1.moveRd q (x.rd + 1) (x.live && x.rd + 1 != x.wr)).qafter q o, r.2)

/-- What a bus read returns. -/
def State.answer (s : State) (v : Nat) : State := { s with rdata := BitVec.ofNat 64 v, rerr := none }

/-- The set of held words of a core's access (R273): one in handler state and one outside it. -/
def heldOf (c : Core) (handler : Bool) : Nat := if handler then c.val + 16 else c.val

/-- The set of held words that a requester uses now (R273). -/
def State.heldIx (s : State) : Req → Nat
  | .core c => heldOf c (s.core c).inHandler
  | .dbg => 32
  | .dme => 33
  | .boot => 34

/-- A set of held words. -/
def State.heldSet (s : State) (h : Nat) : HeldSet := tget s.qm.held {} h

/-- A set of held words replaced. -/
def State.setHeldSet (s : State) (h : Nat) (x : HeldSet) : State :=
  { s with qm := { s.qm with held := tset {} s.qm.held h x } }

/-- PUSHL with a set of held words: the low word is held for this queue (R272, R273). -/
def State.pushl (s : State) (h q : Nat) (v : Word) : State :=
  s.setHeldSet h { s.heldSet h with push := some (q, v) }

/-- PUSHH with a set of held words: the held low word is pushed with this high word, or SEQERR is set (R272). (DESIGN CHOICE, log 30) -/
def State.pushh (s : State) (h q : Nat) (v : Word) : State :=
  match (s.heldSet h).push with
  | some (p, lo) =>
    if p = q then ((s.setHeldSet h { s.heldSet h with push := none }).push q (v ++ lo)).1
    else s.set (QM_Q_FLAGS q) QM_Q_FLAGS_SEQERR 1
  | none => s.set (QM_Q_FLAGS q) QM_Q_FLAGS_SEQERR 1

/-- POPL: one item is popped, its low word returned and its high word held (R272, R273). -/
def State.popl (s : State) (r : Req) (q : Nat) : State :=
  let p := s.pop q
  (p.1.setHeldSet (s.heldIx r) { s.heldSet (s.heldIx r) with pop := some (q, p.2.extractLsb' 32 32) }).answer (p.2.toNat % 2 ^ 32)

/-- PEEKL: as POPL, but the item stays (R272, R278). -/
def State.peekl (s : State) (r : Req) (q : Nat) : State :=
  let p := s.front q
  (p.1.setHeldSet (s.heldIx r) { s.heldSet (s.heldIx r) with pop := some (q, p.2.extractLsb' 32 32) }).answer (p.2.toNat % 2 ^ 32)

/-- HELD: the held high word of this queue, or all ones and SEQERR (R272). -/
def State.heldRead (s : State) (r : Req) (q : Nat) : State :=
  match (s.heldSet (s.heldIx r)).pop with
  | some (p, hi) =>
    if p = q then s.answer hi.toNat else (s.set (QM_Q_FLAGS q) QM_Q_FLAGS_SEQERR 1).answer 0xFFFFFFFF
  | none => (s.set (QM_Q_FLAGS q) QM_Q_FLAGS_SEQERR 1).answer 0xFFFFFFFF

/-- A store to PUSHL (R272). -/
def execPushl (r : Req) (q : QIx) (v : Word) (s : State) : Host.Outcome State Fault Refusal :=
  .next (if s.fabric then s.allowed r (0x50000000 + 256 * q.val) (·.pushl (s.heldIx r) q v) else s)

/-- A store to PUSHH (R272). -/
def execPushh (r : Req) (q : QIx) (v : Word) (s : State) : Host.Outcome State Fault Refusal :=
  .next (if s.fabric then s.allowed r (0x50000004 + 256 * q.val) (·.pushh (s.heldIx r) q v) else s)

/-- A 64-bit beat to PUSH by a fabric unit (R272, R276, R280), behind the events that the unit's island sent before it (R23). -/
def execPush (u : Pusher) (q : QIx) (item : Item) (s : State) : Host.Outcome State Fault Refusal :=
  .next (if s.fabric then
    match u with
    | .flt => s.pushF q item
    | .teu => s.pushT q item
    | .time => ((s.eventsIn .time).push q item).1
    | .caer _ => ((s.eventsIn .caer).push q item).1
    | .dme _ => (s.push q item).1
  else s)

/-- A load of POPL (R272, R278). -/
def execPopl (r : Req) (q : QIx) (s : State) : Host.Outcome State Fault Refusal :=
  .next (if s.fabric then s.popl r q else s)

/-- A load of HELD (R272). -/
def execHeld (r : Req) (q : QIx) (s : State) : Host.Outcome State Fault Refusal :=
  .next (if s.fabric then s.heldRead r q else s)

/-- A load of PEEKL (R272, R278). -/
def execPeekl (r : Req) (q : QIx) (s : State) : Host.Outcome State Fault Refusal :=
  .next (if s.fabric then s.peekl r q else s)

/-- A 64-bit beat from POP (R272, R278). -/
def execPop (q : QIx) (s : State) : Host.Outcome State Fault Refusal :=
  .next (if s.fabric then (let r := s.pop q; r.1.answer r.2.toNat) else s)

/-! ## Commands (R281–R283) -/

/-- The QMARK record of a queue for a mark (R421). -/
def State.qmarkRec (s : State) (q pos : Nat) : Rec :=
  { kind := 3, src := q, argd := pos % s.qsize q, body := [(s.rd (QM_Q_CFG q)).toNat % 2 ^ 20] }

/-- COMMIT on a queue with MEN = 1 (R281, R283): MARK moves to RD, or with JRNEN = 1 a QMARK record goes to JRN; while one is
there, the COMMIT is remembered. -/
def State.commitQ (s : State) (q : Nat) : State :=
  let x := s.qst q
  if !s.qlive q || !s.flag (QM_Q_CFG q) QM_Q_CFG_MEN then s
  else if s.flag (QM_Q_CFG q) QM_Q_CFG_JRNEN then
    if x.busy.isSome then s.setQ q { x with again := true }
    else (s.setQ q { x with busy := some x.rd }).hand (.qmark q) [s.qmarkRec q x.rd]
  else
    let o := s.occ q
    (s.setQ q { x with mark := x.rd }).qafter q o

/-- REWIND (R281): RD moves back to MARK. -/
def State.rewindQ (s : State) (q : Nat) : State :=
  let x := s.qst q
  if !s.qlive q || !s.flag (QM_Q_CFG q) QM_Q_CFG_MEN then s
  else (s.setQ q { x with rd := x.mark }).evalAbove q

/-- FLUSH (R281): RD moves to WR and a cullet stops being live; with MEN = 1 a COMMIT follows. -/
def State.flushQ (s : State) (q : Nat) : State :=
  let x := s.qst q
  if !s.qlive q then s
  else
    let o := s.occ q
    let s := (s.moveRd q x.wr false).qafter q o
    if s.flag (QM_Q_CFG q) QM_Q_CFG_MEN then s.commitQ q else s

/-- A commit's position becomes the mark (R283): MARK moves to it, and RD moves forward to it if it lies behind. -/
def State.moveMark (s : State) (q c : Nat) : State :=
  let x := s.qst q
  let o := s.occ q
  if x.mark ≤ c then (s.setQ q { x with mark := c, rd := max x.rd c }).qafter q o else s

/-- JRN's answer to the QMARK record of a COMMIT (R283). (DESIGN CHOICE, log 30) -/
def State.commitAnswer (s : State) (q : Nat) (ok : Bool) : State :=
  match (s.qst q).busy with
  | none => s
  | some c =>
    let again := (s.qst q).again
    let s := s.setQ q { s.qst q with busy := none, again := false }
    let s := if ok then (if s.qlive q then s.moveMark q c else s) else s.set (QM_Q_FLAGS q) QM_Q_FLAGS_QMFAIL 1
    if again then s.commitQ q else s

/-- The COMMIT command (R281, R283). -/
def execCommit (q : QIx) (s : State) : Host.Outcome State Fault Refusal := .next (if s.fabric then s.commitQ q else s)

/-- The REWIND command (R281). -/
def execRewind (q : QIx) (s : State) : Host.Outcome State Fault Refusal := .next (if s.fabric then s.rewindQ q else s)

/-- The FLUSH command (R281). -/
def execFlush (q : QIx) (s : State) : Host.Outcome State Fault Refusal := .next (if s.fabric then s.flushQ q else s)

/-- Where an answer of JRN goes: the answers to launch entries go to TIME, those to queues to FAB, any other to its requester. (DESIGN CHOICE, log 11) -/
def JFrom.goal : JFrom → JFrom
  | .launch _ => .launchDone
  | .qmark _ => .qmark 0
  | f => f

/-- The first answer of JRN to a requester, and the answers without it (R423): no answer overtakes one that goes to the same island
(R23). -/
def takeAnswer (f : JFrom) : List (Group × Bool) → Option ((Group × Bool) × List (Group × Bool))
  | [] => none
  | a :: r =>
    if a.1.frm.goal = f.goal then if a.1.frm = f then some (a, r) else none
    else match takeAnswer f r with
      | none => none
      | some (x, l) => some (x, a :: l)

/-- JRN acknowledges or refuses a QMARK record (R283). -/
def execCommitAck (q : QIx) (s : State) : Host.Outcome State Fault Refusal :=
  match takeAnswer (.qmark q) s.jrn.acked with
  | none => .next s
  | some (a, l) => .next (({ s with jrn := { s.jrn with acked := l } }).commitAnswer q a.2)

/-- A store to QM_Q_CTL[q] (R281): one command, or with more than one bit set none and CFGERR. -/
def State.qctlWrite (s : State) (q : Nat) (v : Word) : State :=
  match v.toNat % 8 with
  | 0 => s
  | 1 => s.commitQ q
  | 2 => s.rewindQ q
  | 4 => s.flushQ q
  | _ => s.cfgErr QM_STATUS

/-! ## Enabling and restoring (R284, R288) -/

/-- The ordinary enable (R288): positions 0, EMPTY in slot 0, no live cullet, ABOVE evaluated. A commit that is still in JRN
moves no mark of the new contents. (DESIGN CHOICE, log 30) -/
def State.initQ (s : State) (q : Nat) : State :=
  ((s.setQ q { busy := (s.qst q).busy.map fun _ => 0 }).putSlot q 0 emptyItem).evalAbove q

/-- A queue in RESTORE is restored from its latest QMARK, where the layout is the same, or released (R284, R435). MARK and RD take the
record's value and the scan begins. -/
def State.restoreQ (s : State) (q : Nat) : State :=
  if (s.qst q).restore then
    match tget s.jrn.qmarks none q with
    | some (_, r) =>
      if r.body.getD 0 0 = (s.rd (QM_Q_CFG q)).toNat % 2 ^ 20 then
        (s.setQ q { s.qst q with rd := r.argd, mark := r.argd, scan := some r.argd }).setBit
          (if q < 32 then JRN_RQ0 else JRN_RQ1) (q % 32) true
      else s.initQ q
    | none => s.initQ q
  else s

/-- A queue enters RESTORE (R284). JRN restores or releases it at its own step of the replay, or, that being over, at once. (DESIGN CHOICE, log 30) -/
def State.enterRestore (s : State) (q : Nat) : State :=
  let s := (s.setQ q { restore := true }).evalAbove q
  if s.jrn.restored then s.restoreQ q else s

/-- The replay window (R284): REPLAYING after a WARM reset, and not a resumption after a COLD one (R445). -/
def State.replayWindow (s : State) : Bool := s.flag JRN_STATUS JRN_STATUS_REPLAYING && s.boot.load != some .cold

/-- A store to QM_Q_CFG[q] (R266, R283, R284, R288). (DESIGN CHOICE, log 30) -/
def State.qcfgWrite (s : State) (q : Nat) (v : Word) : State :=
  let a := QM_Q_CFG q
  let old := s.rd a
  let v := if 32 ≤ q then setField v QM_Q_CFG_SRC 0 else v
  let lg := fieldOf v QM_Q_CFG_LOG2SIZE
  let lg' := if 1 ≤ lg ∧ lg ≤ 3 then fieldOf old QM_Q_CFG_LOG2SIZE else lg
  let n := if lg' = 0 then 65536 else 2 ^ lg'
  if fieldOf v QM_Q_CFG_BASE % n ≠ 0 || fieldOf v QM_Q_CFG_JRNEN = 1 && fieldOf v QM_Q_CFG_MEN = 0 then s.cfgErr a
  else
    let w := setField v QM_Q_CFG_LOG2SIZE lg'
    let keep := [QM_Q_CFG_BASE, QM_Q_CFG_LOG2SIZE, QM_Q_CFG_MEN, QM_Q_CFG_JRNEN]
    let was := fieldOf old QM_Q_CFG_EN = 1
    let locked := was && keep.any fun f => fieldOf w f != fieldOf old f
    let w := if was then keep.foldl (fun w f => setField w f (fieldOf old f)) w else w
    let s := if lg ≠ lg' then s.cfgErr a else s
    let s := s.storeReg a w
    let s := if locked then s.set QM_STATUS QM_STATUS_LOCKERR 1 else s
    let now := s.flag a QM_Q_CFG_EN
    if !was && now then
      if s.flag a QM_Q_CFG_JRNEN && s.replayWindow then s.enterRestore q else s.initQ q
    else if was && !now then (s.setQ q { s.qst q with restore := false, scan := none }).evalAbove q
    else (s.moveRd q (s.qst q).rd (s.qst q).live).evalAbove q

/-- A write to QM_Q_CFG (R288). -/
def execQueueConfigWrite (q : QIx) (v : Word) (s : State) : Host.Outcome State Fault Refusal :=
  .next (if s.fabric then s.qcfgWrite q v else s)

/-- The restore scan (R284): how many slots from MARK on hold items, and whether a parity failure ended it. -/
def State.scanQ (s : State) (q pos : Nat) : Nat → Nat × Bool
  | 0 => (0, false)
  | k + 1 =>
    let r := s.getSlot q pos
    if r.2 ≠ 0 then (0, true)
    else if r.1 = emptyItem then (0, false)
    else
      let t := s.scanQ q (pos + 1) k
      (t.1 + 1, t.2)

/-- The scan's end (R284): WR becomes the first EMPTY slot, or the slot that fails parity, or MARK + size; RESTORE ends. -/
def State.endScan (s : State) (q m : Nat) : State :=
  let r := s.scanQ q m (s.qsize q)
  let wr := m + r.1
  let s := if r.2 then
      let s := s.set (QM_Q_FLAGS q) QM_Q_FLAGS_PARERR 1
      let s := s.set QM_STATUS QM_STATUS_PARERR 1
      s.eccBad 1 (s.slot q wr) (s.getSlot q wr).2
    else s
  (s.setQ q { rd := m, mark := m, wr := wr }).evalAbove q

/-- The restore scan of a queue ends (R284). -/
def execRestoreScanEnd (q : QIx) (s : State) : Host.Outcome State Fault Refusal :=
  match (s.qst q).scan with
  | some m => .next (if (s.qst q).restore then s.endScan q m else s)
  | none => .next s

/-- A read of QM_Q_DROPS returns and clears the count (R10). -/
def execQmDropsRead (q : QIx) (s : State) : Host.Outcome State Fault Refusal :=
  .next (if s.fabric then
    (s.answer (s.get (QM_Q_DROPS q) QM_Q_DROPS_DROPS)).set (QM_Q_DROPS q) QM_Q_DROPS_DROPS 0 else s)

/-- FLOW ball `f` is high (R287): EN = 1, and ABOVE of the queue it follows, inverted with INV; low while the fabric is in
reset or off. -/
def State.flowHigh (s : State) (f : Nat) : Bool :=
  s.fabric && s.flag (QM_FLOW f) QM_FLOW_EN &&
    ((s.qst (s.get (QM_FLOW f) QM_FLOW_QSEL)).above != s.flag (QM_FLOW f) QM_FLOW_INV)

end Sys2Proof.Machine
end

