-- ==== Sys2Proof/Machine/Therm.lean ====
section
/-! DEFINITION. Temperatures (R133–R137): the reference functions of IEC 60584-1 and IEC 60751, exact, and the conversion that differs from
them by no more than the error of R137. The spec names the two standards; their coefficients stand here as the standards print them. -/

namespace Sys2Proof.Machine

open Sys2Proof

/-! ## Thermocouples: the reference functions, in units of 10^-42 × 2^-224 mV, of a temperature in units of 2^-16 °C

A coefficient `(m, e)` is m × 10^e in units of 10^-42 mV. -/

/-- Type B (IEC 60584-1): from each temperature on, in units of 10^-3 °C, the coefficients of the powers of t. -/
def typeB : List (Int × List (Int × Nat)) :=
  [(0, [
     (0, 0), (-246508183460, 27), (590404211710, 25), (-132579316360, 22), (156682919010, 19),
     (-169445292400, 16), (629903470940, 12)]),
   (630615, [
     (-389381686210, 31), (285717474700, 29), (-848851047850, 26), (157852801640, 24),
     (-168353448640, 21), (111097940130, 18), (-445154310330, 14), (989756408210, 10), (-937913302890, 6)])]

/-- Type E (IEC 60584-1): from each temperature on, in units of 10^-3 °C, the coefficients of the powers of t. -/
def typeE : List (Int × List (Int × Nat)) :=
  [(-270000, [
     (0, 0), (586655087080, 29), (454109771240, 26), (-779980486860, 24), (-258001608430, 23),
     (-594525830570, 21), (-932140586670, 19), (-102876055340, 18), (-803701236210, 15),
     (-439794973910, 13), (-164147763550, 11), (-396736195160, 8), (-558273287210, 5), (-346578420130, 2)]),
   (0, [
     (0, 0), (586655087100, 29), (450322755820, 26), (289084072120, 23), (-330568966520, 21),
     (650244032700, 18), (-191974955040, 15), (-125366004970, 13), (214892175690, 10), (-143880417820, 7),
     (359608994810, 3)])]

/-- Type J (IEC 60584-1): from each temperature on, in units of 10^-3 °C, the coefficients of the powers of t. -/
def typeJ : List (Int × List (Int × Nat)) :=
  [(-210000, [
     (0, 0), (503811878150, 29), (304758369300, 26), (-856810657200, 23), (132281952950, 21),
     (-170529583370, 18), (209480906970, 15), (-125383953360, 12), (156317256970, 8)]),
   (760000, [
     (296456256810, 33), (-149761277860, 31), (317871039240, 28), (-318476867010, 25), (157208190040, 22),
     (-306913690560, 18)])]

/-- Type K (IEC 60584-1): from each temperature on, in units of 10^-3 °C, the coefficients of the powers of t. -/
def typeK : List (Int × List (Int × Nat)) :=
  [(-270000, [
     (0, 0), (394501280250, 29), (236223735980, 26), (-328589067840, 24), (-499048287770, 22),
     (-675090591730, 20), (-574103274280, 18), (-310888728940, 16), (-104516093650, 14),
     (-198892668780, 11), (-163226974860, 8)]),
   (0, [
     (-176004136860, 29), (389212049750, 29), (185587700320, 26), (-994575928740, 23), (318409457190, 21),
     (-560728448890, 18), (560750590590, 15), (-320207200030, 12), (971511471520, 8), (-121047212750, 5)])]

/-- Type N (IEC 60584-1): from each temperature on, in units of 10^-3 °C, the coefficients of the powers of t. -/
def typeN : List (Int × List (Int × Nat)) :=
  [(-270000, [
     (0, 0), (261591059620, 29), (109574842280, 26), (-938411115540, 23), (-464120397590, 20),
     (-263033577160, 19), (-226534380030, 17), (-760893007910, 14), (-934196678350, 11)]),
   (0, [
     (0, 0), (259293946010, 29), (157101418800, 26), (438256272370, 23), (-252611697940, 21),
     (643118193390, 18), (-100634715190, 16), (997453389920, 12), (-608632456070, 9), (208492293390, 6),
     (-306821961510, 2)])]

/-- Type R (IEC 60584-1): from each temperature on, in units of 10^-3 °C, the coefficients of the powers of t. -/
def typeR : List (Int × List (Int × Nat)) :=
  [(-50000, [
     (0, 0), (528961729765, 28), (139166589782, 26), (-238855693017, 23), (356916001063, 20),
     (-462347666298, 17), (500777441034, 14), (-373105886191, 11), (157716482367, 8), (-281038625251, 4)]),
   (1064180, [
     (295157925316, 31), (-252061251332, 28), (159564501865, 26), (-764085947576, 22), (205305291024, 19),
     (-293359668173, 15)]),
   (1664500, [
     (152232118209, 33), (-268819888545, 30), (171280280471, 27), (-345895706453, 23),
     (-934633971046, 16)])]

/-- Type S (IEC 60584-1): from each temperature on, in units of 10^-3 °C, the coefficients of the powers of t. -/
def typeS : List (Int × List (Int × Nat)) :=
  [(-50000, [
     (0, 0), (540313308631, 28), (125934289740, 26), (-232477968689, 23), (322028823036, 20),
     (-331465196389, 17), (255744251786, 14), (-125068871393, 11), (271443176145, 7)]),
   (1064180, [
     (132900444085, 31), (334509311344, 28), (654805192818, 25), (-164856259209, 22), (129989605174, 17)]),
   (1664500, [
     (146628232636, 33), (-258430516752, 30), (163693574641, 27), (-330439046987, 23),
     (-943223690612, 16)])]

/-- Type T (IEC 60584-1): from each temperature on, in units of 10^-3 °C, the coefficients of the powers of t. -/
def typeT : List (Int × List (Int × Nat)) :=
  [(-270000, [
     (0, 0), (387481063640, 29), (441944343470, 26), (118443231050, 24), (200329735540, 23),
     (901380195590, 21), (226511565930, 20), (360711542050, 18), (384939398830, 16), (282135219250, 14),
     (142515947790, 12), (487686622860, 9), (107955392700, 7), (139450270620, 4), (797951539270, 0)]),
   (0, [
     (0, 0), (387481063640, 29), (332922278800, 26), (206182434040, 24), (-218822568460, 22),
     (109968809280, 20), (-308157587720, 17), (454791352900, 14), (-275129016730, 11)])]

/-- The pieces of a type's reference function, by SENSOR (R133). (PRESUMED, log 18) -/
def piecesOf (sensor : Nat) : List (Int × List (Int × Nat)) :=
  match sensor with
  | 1 => typeB | 2 => typeE | 3 => typeJ | 4 => typeK | 5 => typeN | 6 => typeR | 7 => typeS | _ => typeT

/-- The coefficients in force at a temperature. -/
def pieceAt (l : List (Int × List (Int × Nat))) (n : Int) : List (Int × Nat) :=
  match l with
  | [] => []
  | (_, c) :: rest =>
    match rest with
    | [] => c
    | (from_, _) :: _ => if from_ * 65536 < n * 1000 then pieceAt rest n else c

/-- The polynomial at `n`: the coefficient of power `k` times n^k × 2^(16 (14 - k)). -/
def polyAt (n : Int) : (k : Nat) → List (Int × Nat) → Int
  | _, [] => 0
  | k, (m, e) :: l => m * 10 ^ e * n ^ k * 2 ^ (16 * (14 - k)) + polyAt n (k + 1) l

/-- The terms of exp(-z) from the `k`-th on, with `z` and the term before in units of 2^-100. -/
def expTerms (z : Int) : (fuel k : Nat) → Int → Int
  | 0, _, _ => 0
  | fuel + 1, k, term =>
    let next := (-term * z).fdiv (2 ^ 100 * k)
    next + expTerms z fuel (k + 1) next

/-- exp(-y / d) in units of 2^-100: the series of exp(-y / (256 d)), squared eight times. -/
def expNeg (y d : Int) : Int :=
  let one := 2 ^ 100
  Nat.repeat (fun v => v * v / one) 8 (one + expTerms (y * one / (256 * d)) 30 1 one)

/-- The exponential term of type K above 0 °C: 0.1185976 mV × exp(-1.183432 × 10^-4 × (t - 126.9686)^2). -/
def typeKTerm (n : Int) : Int :=
  1185976 * 10 ^ 35 * 2 ^ 124 * expNeg ((n * 10 ^ 4 - 1269686 * 65536) ^ 2 * 1183432) (10 ^ 18 * 2 ^ 32)

/-- A type's reference function E(t) (R134). -/
def emf (sensor : Nat) (n : Int) : Int :=
  polyAt n 0 (pieceAt (piecesOf sensor) n) + if sensor = 4 ∧ 0 < n then typeKTerm n else 0

/-- The temperatures for which IEC 60584-1 gives a type's function, in units of 10^-3 °C. -/
def emfDomain (sensor : Nat) : Int × Int :=
  match sensor with
  | 1 => (0, 1820000)
  | 2 => (-270000, 1000000)
  | 3 => (-210000, 1200000)
  | 4 => (-270000, 1372000)
  | 5 => (-270000, 1300000)
  | 6 => (-50000, 1768100)
  | 7 => (-50000, 1768100)
  | _ => (-270000, 400000)

/-! ## Resistance thermometers (R136) -/

/-- The Callendar–Van Dusen equation of IEC 60751: R(t) / R(0) in units of 10^-15 × 2^-64, of a temperature in units of 2^-16 °C. (PRESUMED, log 18) -/
def cvd (n : Int) : Int :=
  10 ^ 15 * 2 ^ 64 + 3908300000000 * n * 2 ^ 48 - 577500000 * n ^ 2 * 2 ^ 32 -
    if n < 0 then 4183 * (n - 100 * 65536) * n ^ 3 else 0

/-! ## The conversion -/

/-- Where `f` rises: the greatest of `lo … lo + 2^k - 1` whose value is at most `v`, given that `lo`'s is. -/
def lastAtMost (f : Int → Int) (v : Int) : (k : Nat) → Int → Int
  | 0, lo => lo
  | k + 1, lo => lastAtMost f v k (if f (lo + 2 ^ k) ≤ v then lo + 2 ^ k else lo)

/-- The greatest temperature from `lo` to `hi` whose value of `f` is at most `v`; where `v` lies beyond an end, that end's neighbour outside,
or one far outside where `v` lies further from the end than `2 k` units of temperature take `f`. -/
def inverse (f : Int → Int) (lo hi k v : Int) : Int :=
  if v < f lo then if f lo - v ≤ f (lo + 2 * k) - f lo then lo - 1 else lo - 4 * k
  else if f hi ≤ v then if v - f hi ≤ f hi - f (hi - 2 * k) then hi else hi + 4 * k
  else lastAtMost (fun n => if hi < n then v + 1 else f n) v 28 lo

/-- The error of the conversion, in units of 2^-16 °C and rounded to the nearest (R137). -/
def convError (sensor : Nat) : Int :=
  match sensor with
  | 1 | 6 | 7 => 1311
  | 9 | 10 => 328
  | _ => 655

/-- A temperature that a conversion can give whose exact result lies from `n` on, below `n + 1`: within the error of R137, rounded; which
one is left open. -/
def within (sensor : Nat) (n : Int) (pick : Nat) : Int :=
  let k := convError sensor
  n - k + pick % (2 * k + 2)

/-- The temperature before the clamps, in units of 2^-16 °C, of a thermocouple at `num / den` µV and a cold-junction temperature (R134):
E⁻¹(V + E(Tcj)). Where IEC 60584-1 gives no E(Tcj), it is left open. (PRESUMED, log 18) -/
def thermocouple (sensor : Nat) (num : Int) (den : Nat) (tcj : Int) : Int :=
  let d := emfDomain sensor
  if tcj * 1000 < d.1 * 65536 ∨ d.2 * 65536 < tcj * 1000 then Config.coldOutside sensor num den tcj
  else
    let v := num * 10 ^ 39 * 2 ^ 224 + emf sensor tcj * den
    let n := inverse (fun n => emf sensor n * den) (d.1 * 65536 / 1000) (d.2 * 65536 / 1000) (convError sensor) v
    within sensor n (Config.convPick sensor num den tcj)

/-- The temperature before the clamps, in units of 2^-16 °C, of a resistance thermometer of `num / den` ohms (R136). (PRESUMED, log 18) -/
def rtd (sensor : Nat) (num : Int) (den : Nat) : Int :=
  let r0 : Int := if sensor = 9 then 100 else 1000
  let n := inverse (fun n => r0 * cvd n * den) (-200 * 65536) (850 * 65536) (convError sensor) (num * 10 ^ 15 * 2 ^ 64)
  within sensor n (Config.convPick sensor num den 0)

end Sys2Proof.Machine
end

