-- ==== Sys2Proof/Machine/Flt.lean ====
section
/-! DEFINITION. The filters (R112–R139, R473): requests, restarts, syncs, linearisation and the sample item; and what the AFE
tells them of a channel. -/

namespace Sys2Proof.Machine

open Sys2Proof

/-! ## What the AFE tells (R88, R92, R103, R108) -/

/-- A channel of the AFE. -/
def State.achan (s : State) (n : Nat) : AfeCh := tget s.afe.ch {} n

/-- A channel of the AFE changed. -/
def State.modA (s : State) (n : Nat) (f : AfeCh → AfeCh) : State :=
  { s with afe := { s.afe with ch := tset {} s.afe.ch n (f (s.achan n)) } }

/-- The first AFE edge on which a write that is made now counts (R27). -/
def State.nextEdge (s : State) : Nat := s.edgeNow + 1

/-- The channel's validity flag on an edge (R88, R92). -/
def AfeCh.flagAt (x : AfeCh) (e : Nat) : Bool := x.valid || e < x.since

/-- AFE_CH_CFG as in force for the bit of an edge on which the flag is set (R134). -/
def State.cfgAt (s : State) (n e : Nat) : Word :=
  let x := s.achan n
  if !x.valid && e < x.since then x.prior else s.rd (AFE_CH_CFG n)

/-- A wiring test holds the channel (R103). -/
def State.underTest (s : State) (n : Nat) : Bool :=
  match s.afe.test with
  | some t => t.now.contains n
  | none => false

/-- The channel is an enabled watch channel (R108). -/
def State.watched (s : State) (n : Nat) : Bool := n < 8 && s.flag (AFE_WATCH_CFG n) AFE_WATCH_CFG_EN

/-- In NAP a channel that is not an enabled watch channel is powered down (R108). -/
def State.napped (s : State) (n : Nat) : Bool := (s.achan n).off

/-- An excitation source is off or in RETURN, or the hub has switched it off (R97, R103, R108, R136). -/
def State.sourceOff (s : State) (k : Nat) : Bool :=
  let cur := s.get (AFE_EXC_CFG k) AFE_EXC_CFG_CUR
  let ch := s.get (AFE_EXC_CFG k) AFE_EXC_CFG_CH
  cur = 0 || cur = 7 || s.napped ch || s.underTest ch

/-! ## Channels -/

/-- A channel's filter. -/
def State.fch (s : State) (n : Nat) : FltCh := tget s.flt.ch {} n

/-- A channel's filter changed. -/
def State.modF (s : State) (n : Nat) (f : FltCh → FltCh) : State :=
  { s with flt := { s.flt with ch := tset {} s.flt.ch n (f (s.fch n)) } }

/-- The registers of a profile. -/
def State.profRegs (s : State) (p : Nat) : Word × Word := (s.rd (FLT_PROF_A p), s.rd (FLT_PROF_B p))

/-- The profile that would be active once every accepted and pending request had completed (R131). -/
def FltCh.target (x : FltCh) : Nat := x.pending.getD ((x.alt.map (·.prof)).getD x.prof)

/-- FLT accepts a request on its edge (R112, R130): a second path starts on the profile's present settings. -/
def State.acceptReq (s : State) (n p edge : Nat) : State :=
  let r := s.profRegs p
  s.modF n fun x => { x with alt := some (.begin p r.1 r.2 edge), fade := 0 }

/-- A request that arrives while the flag is clear (R130): the profile is active at once, a change in progress ends, and a
pending request is absorbed. The instants stay those of the path that runs. (DEDUCED, log 17) -/
def State.requestNow (s : State) (n p : Nat) : State :=
  let x := s.fch n
  let w := match x.alt with
    | some q => if q.prof = p then (q.a, q.b) else s.profRegs p
    | none => s.profRegs p
  let keep := p = x.prof && (x.alt.map (·.prof)) != some p
  s.modF n fun x => { x with
    prof := p, work := if keep then some (x.work.getD (s.profRegs p)) else some w, alt := none, fade := 0, pending := none }

/-- A response request for a channel that arrives on edge `e` (R129–R131). (DEDUCED, log 17) -/
def State.request (s : State) (n p e : Nat) : State :=
  let x := s.fch n
  if !(s.achan n).flagAt e || x.main.isNone then s.requestNow n p
  else if p = x.target then s
  else if x.alt.isSome then
    let s := if x.pending.isSome then s.set FLT_STATUS FLT_STATUS_PENDREPL 1 else s
    s.modF n fun x => { x with pending := some p }
  else s.acceptReq n p e

/-- The channels of the groups of a mask (R126). -/
def State.grouped (s : State) (mask : Nat) : List Nat :=
  (List.range s.nCh).filter fun n => mask.testBit (s.get (FLT_CH_CFG n) FLT_CH_CFG_GROUP)

/-- A request is to arrive on an edge (R129); those of one edge arrive in the order in which they were made. -/
def State.ask (s : State) (r : FltReq) : State :=
  let l := s.flt.reqs
  { s with flt := { s.flt with reqs := l.takeWhile (·.edge ≤ r.edge) ++ r :: l.dropWhile (·.edge ≤ r.edge) } }

/-- A request reaches its edge (R129): PROF then reads the profile that the launch or the write asks for; an AFE restart asks for the one
that PROF names, while the flag is clear (R130). (DEDUCED, log 17) -/
def State.arrive (s : State) (r : FltReq) : State :=
  match r.chan, r.prof with
  | some n, some p => (s.set (FLT_CH_CFG n) FLT_CH_CFG_PROF p).request n p r.edge
  | some n, none => s.requestNow n (s.get (FLT_CH_CFG n) FLT_CH_CFG_PROF)
  | none, p =>
    (s.grouped r.groups).foldl (fun s n =>
      (s.set (FLT_CH_CFG n) FLT_CH_CFG_PROF (p.getD 0)).request n (p.getD 0) r.edge) s

/-- The requests up to edge `e` arrive. (DEDUCED, log 17) -/
def State.reqsTo (s : State) (e : Nat) : State :=
  (s.flt.reqs.takeWhile (·.edge ≤ e)).foldl State.arrive
    { s with flt := { s.flt with reqs := s.flt.reqs.dropWhile (·.edge ≤ e) } }

/-- The requests whose edges have come arrive. -/
def State.fltNow (s : State) : State := s.reqsTo s.edgeNow

/-- After a restart on edge `e`, a pending request is accepted on the same edge (R132). -/
def State.takePending (s : State) (n e : Nat) : State :=
  match (s.fch n).pending with
  | some p => (s.modF n fun x => { x with pending := none }).acceptReq n p e
  | none => s

/-- A channel starts on edge `e` on a profile with settings (R128, R132): no other path, no open window. (DESIGN CHOICE, log 76) -/
def FltCh.start (x : FltCh) (p : Nat) (w : Word × Word) (e : Nat) : FltCh :=
  { x with main := some (.begin p w.1 w.2 e), alt := none, fade := 0, next := e, prof := p, work := some w, recent := none }

/-- The channel's flag becomes set on edge `e` (R124, R130, R132, R473). -/
def State.flagSet (s : State) (n e : Nat) : State :=
  let x := s.fch n
  let s := match x.alt with
    | some q => s.modF n fun x => x.start q.prof (q.a, q.b) e
    | none => s.modF n fun x => x.start x.prof (x.work.getD (s.profRegs x.prof)) e
  s.takePending n e

/-- A sync reaches a channel on edge `e` (R128, R132). A channel without a phase takes none from it (R473). While the flag is
clear, the path that runs keeps its settings (R130). -/
def State.syncOne (s : State) (n e : Nat) : State :=
  let x := s.fch n
  match x.main, x.alt with
  | none, _ => s
  | some _, some q => (s.modF n fun x => x.start q.prof (q.a, q.b) e).takePending n e
  | some p, none =>
    s.modF n fun x => { x with main := some (.begin p.prof p.a p.b e), next := e, recent := none }

/-! ## Linearisation (R133–R137) -/

/-- The ends of a sensor type's range in °C (R137). -/
def sensorRange (sensor : Nat) : Int × Int :=
  match sensor with
  | 1 => (250, 1820)
  | 2 => (-200, 1000)
  | 3 => (-210, 1200)
  | 4 => (-200, 1372)
  | 5 => (-200, 1300)
  | 6 => (-50, 1768)
  | 7 => (-50, 1768)
  | 8 => (-200, 400)
  | _ => (-200, 850)

/-- The nominal full scale of a range in µV (R89). -/
def fullScale (range : Nat) : Nat :=
  match range with | 0 => 20000 | 1 => 80000 | 2 => 320000 | 3 => 1280000 | _ => 2560000

/-- The nominal current of a source in nA (R97). -/
def sourceNa (cur : Nat) : Nat :=
  match cur with | 1 => 10000 | 2 => 50000 | 3 => 100000 | 4 => 250000 | 5 => 500000 | 6 => 1000000 | _ => 0

/-- The output code is beyond 1.2 × FSR (R119). -/
def codeRange (code : Int) : Bool := 3774873 < code.natAbs

/-- A temperature with the clamps of R137: by the sign of the overrange for a code with RANGE set, else to the nearer end. -/
def clampTemp (sensor : Nat) (code t : Int) : ItemVal :=
  let r := sensorRange sensor
  if codeRange code then { v := 65536 * (if 0 < code then r.2 else r.1), rng := true, lin := true }
  else if t < 65536 * r.1 then { v := 65536 * r.1, rng := true, lin := true }
  else if 65536 * r.2 < t then { v := 65536 * r.2, rng := true, lin := true }
  else { v := t, rng := false, lin := true }

/-- The reference in µV that the conversion to volts takes (R134). -/
def State.vref (s : State) (cfg : Word) : Nat :=
  if fieldOf cfg AFE_CH_CFG_REF = 1 then s.get FLT_EXTREF FLT_EXTREF_UV else 2500000

/-- The cold-junction temperature (R134, R135); none where the cold-junction channel is unusable. -/
def State.coldJunction (s : State) (n : Nat) : Option Int :=
  let c := FLT_CH_CFG n
  match s.get c FLT_CH_CFG_CJSEL with
  | 1 =>
    let m := s.get c FLT_CH_CFG_CJCH
    let sn := s.get (FLT_CH_CFG m) FLT_CH_CFG_SENSOR
    if sn = 9 || sn = 10 then (s.fch m).recent.map (·.v) else none
  | 2 => some (s.rd FLT_CJFIX).toInt
  | _ => some 0

/-- What keeps the channel's items from a temperature, as FLT_STATUS shows it: an unusable cold-junction channel (R135), a source that is
off (R136). -/
def State.tempFault (s : State) (n : Nat) : Option Fld :=
  let sensor := s.get (FLT_CH_CFG n) FLT_CH_CFG_SENSOR
  if sensor = 0 then none
  else if sensor < 9 then (if (s.coldJunction n).isNone then some FLT_STATUS_CJERR else none)
  else if s.sourceOff (s.get (FLT_CH_CFG n) FLT_CH_CFG_EXC) then some FLT_STATUS_RTDERR
  else none

/-- An item of the channel is linearised (R113): CJERR or RTDERR is set where it cannot be (R135, R136). -/
def State.judgeTemp (s : State) (n : Nat) : State :=
  match s.tempFault n with
  | some f => s.set FLT_STATUS f 1
  | none => s

/-- The final item value of an output code on edge `e` (R113 steps 3 and 4, R119, R133–R137); none, with CJERR or RTDERR set,
where the item is tagged SETTLE instead. -/
def State.convert (s : State) (n e : Nat) (code : Int) : State × Option ItemVal :=
  let c := code - signedOf 24 (s.get (FLT_CH_OFFS n) FLT_CH_OFFS_OFFS)
  let sensor := s.get (FLT_CH_CFG n) FLT_CH_CFG_SENSOR
  let cfg := s.cfgAt n e
  let num := c * (fullScale (fieldOf cfg AFE_CH_CFG_RANGE) * s.vref cfg : Nat)
  let den := 3145728 * 2500000
  if (s.tempFault n).isSome then (s.judgeTemp n, none)
  else if sensor = 0 then (s, some { v := c, rng := codeRange code, lin := false })
  else if sensor < 9 then (s, some (clampTemp sensor code (thermocouple sensor num den ((s.coldJunction n).getD 0))))
  else
    let k := s.get (FLT_CH_CFG n) FLT_CH_CFG_EXC
    let cal := 1000000 + signedOf 16 (s.get (AFE_EXC_CAL k) AFE_EXC_CAL_CALPPM)
    let i := sourceNa (s.get (AFE_EXC_CFG k) AFE_EXC_CFG_CUR) * cal.toNat
    (s, some (clampTemp sensor code (rtd sensor (num * 1000000000) (den * i))))

/-! ## The item (R113, R124, R130, R138, R139) -/

/-- The edge on which a channel's next window closes: of the path that gives the items, or of the second path from its first
complete output on (R120, R130). -/
def FltCh.due (x : FltCh) : Option Nat :=
  x.main.map fun p =>
    match x.alt with
    | some q => min p.due q.dueComplete
    | none => p.due

/-- The sample item (R138). -/
def sampleItem (n : Nat) (x : ItemVal) (settle evt : Bool) (offset : Nat) : Item :=
  BitVec.ofInt 64 (x.v * 2 ^ 32 + (n * 2 ^ 25 + settle.toNat * 2 ^ 24 + x.rng.toNat * 2 ^ 23 + x.lin.toNat * 2 ^ 22 +
    evt.toNat * 2 ^ 21 + offset : Nat))

/-- The epoch item of a plant second (R139, R270). -/
def epochItem (sec : Nat) : Item :=
  BitVec.ofNat 64 (sec % 2 ^ 32 * 2 ^ 32 + 0x70 * 2 ^ 25 + sec / 2 ^ 32 % 2 ^ 16)

/-- FLT pushes an item to a data queue, after the epoch item where it is the first of its second there (R139, R280). -/
def State.pushSample (s : State) (q sec : Nat) (item : Item) : State :=
  let s := if tget s.qm.epochF none q = some sec then s
    else ({ s with qm := { s.qm with epochF := tset none s.qm.epochF q (some sec) } }).pushF q (epochItem sec)
  s.pushF q item

/-- The item goes to EVT, to its queue, and to the operand vector of the TEU (R113). -/
def State.deliver (s : State) (n e : Nat) (x : ItemVal) (settle : Bool) : State :=
  let r := s.evaluate n x.v settle x.rng
  let s := r.1
  let t := s.edgeTime e
  let item := sampleItem n x settle r.2 (t % secTicks / 125)
  let route := s.rd (FLT_CH_ROUTE n)
  let s := if fieldOf route FLT_CH_ROUTE_QEN = 1 then s.pushSample (fieldOf route FLT_CH_ROUTE_QSEL) (secOf t) item else s
  let p : PostedItem := { v := BitVec.ofInt 32 x.v, settle, rng := x.rng, edge := e }
  { s with flt := { s.flt with post := tset [] s.flt.post n ((p :: tget s.flt.post [] n).take 2) } }

/-- A SETTLE item, with what R124 gives it. What keeps it from a temperature besides is reported (R113, R135, R136). -/
def State.settleItem (s : State) (n e : Nat) : State := (s.judgeTemp n).deliver n e ((s.fch n).last.getD {}) true

/-- An item without SETTLE. -/
def State.goodItem (s : State) (n e : Nat) (x : ItemVal) : State :=
  (s.modF n fun c => { c with last := some x, recent := some x }).deliver n e x false

/-- The main path's most recent output (R130): what its item carries. -/
def State.setMainOut (s : State) (n : Nat) (x : ItemVal) : State :=
  s.modF n fun c => { c with main := c.main.map fun p => { p with out := some x } }

/-- The path that gives the items closes a window with a code (R122, R130); during a fade its output gives no item. (DEDUCED, log 17) -/
def State.mainOutput (s : State) (n e : Nat) (code : Int) : State :=
  let x := s.fch n
  let hold := x.last.getD {}
  match x.main with
  | none => s
  | some p =>
    if p.m ≤ p.settles then
      let s := s.setMainOut n hold
      if x.fade = 0 then s.settleItem n e else s
    else
      let r := s.convert n e code
      match r.2 with
      | some v =>
        let s := r.1.setMainOut n v
        if x.fade = 0 then s.goodItem n e v else s
      | none =>
        if x.fade = 0 then (r.1.setMainOut n hold).settleItem n e else s.setMainOut n hold

/-- One value of the cross-fade (R130 step 4). -/
def fadeValue (old new : ItemVal) (f k : Nat) : ItemVal :=
  { v := roundHalfUp (old.v * (f - k : Nat) + new.v * k) f, rng := old.rng || new.rng, lin := new.lin }

/-- The second path closes a complete window with a code: item `k` of the fade (R130 steps 3–5), and after the last one the
change is complete and a pending request is accepted on the next edge (R131). (DEDUCED, log 17) (DESIGN CHOICE, log 76) -/
def State.fadeOutput (s : State) (n e : Nat) (q : PathSt) (code : Int) : State :=
  let x := s.fch n
  let k := x.fade + 1
  let hold := x.last.getD {}
  let old := ((x.main.bind (·.out)).getD hold)
  let r := s.convert n e code
  let new := r.2.getD hold
  let s := match r.2 with
    | some v => r.1.goodItem n e (fadeValue old v q.f k)
    | none => r.1.settleItem n e
  if k < q.f then s.modF n fun c => { c with fade := k }
  else
    (s.modF n fun c => { c with main := some { q with out := some new }, alt := none, fade := 0, prof := q.prof
                                work := some (q.a, q.b) }).takePending n (e + 1)

/-- What the channel's windows that close on edge `e` give while the flag is set. Where both paths close one, the output of the
first is the fade's old value, and the item is the fade's (R130). (DEDUCED, log 17) -/
def State.outputs (s : State) (n e : Nat) (mo ao : Option Int) : State :=
  match (s.fch n).alt, ao with
  | some q, some code =>
    if q.settles < q.m then
      let s := match mo with
        | some c =>
          let s' := s.modF n fun x => { x with fade := max 1 x.fade }
          let s' := s'.mainOutput n e c
          s'.modF n fun x => { x with fade := (s.fch n).fade }
        | none => s
      s.fadeOutput n e q code
    else match mo with | some c => s.mainOutput n e c | none => s
  | _, _ => match mo with | some c => s.mainOutput n e c | none => s

/-- What they give while the flag is clear (R124): SETTLE items at the instants of the path that gives the items. (DEDUCED, log 17) -/
def State.clearOutputs (s : State) (n e : Nat) (mo ao : Option Int) : State :=
  let x := s.fch n
  let s := if mo.isSome then s.setMainOut n (x.last.getD {}) else s
  if (if x.fade = 0 then mo.isSome else ao.isSome) then s.settleItem n e else s

/-- A channel's bits up to edge `e`, on which a window closes (R113–R120). -/
def State.runBits (s : State) (n e : Nat) (bits : List Bool) : State :=
  let x := s.fch n
  match x.main with
  | none => s
  | some p =>
    let m := p.feedAll x.next bits
    let a := x.alt.map fun q => q.feedAll x.next bits
    let s := s.modF n fun c => { c with main := some m.1, alt := a.map (·.1), next := e + 1 }
    let ao := a.bind (·.2)
    if s.napped n then s
    else if (s.achan n).flagAt e then (s.modA n fun c => { c with zeroed := false }).outputs n e m.2 ao
    else s.clearOutputs n e m.2 ao

/-- A sync that is scheduled for the channel at or before edge `e` has not been applied. -/
def State.syncAhead (s : State) (n e : Nat) : Bool :=
  s.flt.syncs.any fun q => q.edge ≤ e && q.mask.testBit (s.get (FLT_CH_CFG n) FLT_CH_CFG_GROUP)

/-- The end of a restart of the channel lies at or before edge `e`. -/
def State.restartAhead (s : State) (n e : Nat) : Bool :=
  match (s.achan n).restart with
  | some r => r ≤ e && !s.napped n
  | none => false

/-- A channel of a lower number has a window that closes on the same edge or before it, and has not given its item (R18, R135). -/
def State.lowerDue (s : State) (n e : Nat) : Bool :=
  (List.range n).any fun m =>
    match (s.fch m).due with
    | some d => d ≤ e
    | none => false

/-- A window of the channel closes before edge `e` and has not been given: as its paths stand, or as the requests before that edge
leave them. -/
def State.behind (s : State) (n e : Nat) : Bool :=
  [s, s.reqsTo (e - 1)].any fun s =>
    match (s.fch n).due with
    | some d => d < e && ((s.reqsTo d).fch n).due = some d
    | none => false

/-- A channel's window closes (R113). The bits are those that the modulator has emitted since the channel's last window closed;
where it emits none, they stand for nothing. (DESIGN CHOICE, log 16) (DESIGN CHOICE, log 70) -/
def execSampleItem (n : Chan) (bits : List Bool) (s : State) : Host.Outcome State Fault Refusal :=
  let e := (s.fch n).next + bits.length - 1
  let t := s.reqsTo e
  if s.fabric ∧ s.pow.pllT ∧ (t.fch n).due = some e ∧ bits ≠ [] ∧ !s.behind n e ∧ !s.syncAhead n e ∧ !s.restartAhead n e ∧
      !t.lowerDue n e then
    .next ((t.passTo (t.edgeTime e)).runBits n e bits)
  else .next s

/-! ## Syncs (R125–R128) -/

/-- A sync is scheduled. -/
def State.schedule (s : State) (q : SyncReq) : State := { s with flt := { s.flt with syncs := s.flt.syncs ++ [q] } }

/-- A rising edge on SYNC_IN whose filter accepts it at tick `at_` (R126); in reset and in OASIS the ball is ignored (R47). An
edge captured within 10 µs of an accepted one is ignored too. (DEDUCED, log 17) (DESIGN CHOICE, log 76) -/
def execSyncInEdge (at_ : Nat) (s : State) : Host.Outcome State Fault Refusal :=
  let s := s.passTo at_
  let t := s.raw
  let far : Bool := match s.flt.syncIn with | some p => decide (2560 ≤ t - p) | none => true
  if s.fabric ∧ s.pow.pllT ∧ far then
    let s := { s with flt := { s.flt with syncIn := some t } }
    let s := s.set FLT_STATUS FLT_STATUS_SYNCIN 1
    .next (s.schedule { edge := s.edgeNow + 2, mask := s.get FLT_SYNC_CTL FLT_SYNC_CTL_INGRP, out := false })
  else .next s

/-- The earliest scheduled sync. -/
def earliest : List SyncReq → Option SyncReq
  | [] => none
  | q :: r =>
    match earliest r with
    | none => some q
    | some p => if q.edge ≤ p.edge then some q else some p

/-- The sync edge arrives (R127, R128). What falls on an earlier edge comes first: the end of a restart, a window that closes, a
request. -/
def execSyncApply (s : State) : Host.Outcome State Fault Refusal :=
  match earliest s.flt.syncs with
  | none => .next s
  | some q =>
    let ns := s.grouped q.mask
    if s.fabric ∧ s.pow.pllT ∧ ns.all fun n => !s.behind n q.edge && !s.restartAhead n (q.edge - 1) then
      let s := (s.reqsTo (q.edge - 1)).passTo (s.edgeTime q.edge)
      let s := { s with flt := { s.flt with syncs := s.flt.syncs.erase q, syncOut := if q.out then some q.edge else s.flt.syncOut } }
      .next (ns.foldl (fun s n => s.syncOne n q.edge) s)
    else .next s

/-- SYNC_OUT has been high for 1 µs, which is 256 ticks, and returns low (R127). -/
def execSyncOutPulseEnd (s : State) : Host.Outcome State Fault Refusal :=
  match s.flt.syncOut with
  | some e =>
    if s.pow.pllT then
      let s := s.passTo (s.edgeTime e + 256)
      .next { s with flt := { s.flt with syncOut := none } }
    else .next s
  | none => .next s

/-- An FLT sync launch (R126, R127): its sync applies on edge `e`. -/
def State.syncLaunch (s : State) (arg e : Nat) : State :=
  s.schedule { edge := e, mask := arg % 2 ^ 16, out := arg.testBit 16 }

/-- An FLT response-change launch (R129): on edge `e` every channel of the groups requests the profile. -/
def State.responseLaunch (s : State) (arg e : Nat) : State :=
  s.ask { edge := e, groups := arg % 2 ^ 16, prof := some (bitsOf arg 16 3) }

/-! ## Registers -/

/-- A store to FLT_CH_CFG (R124, R129, R149): a change of PROF is a request that arrives on the next AFE edge. -/
def State.fltCfgStore (s : State) (n : Nat) (v : Word) : State :=
  if s.nCh ≤ n then s
  else
    let s := s.fltNow
    let a := FLT_CH_CFG n
    let old := s.rd a
    let bad := s.nCh ≤ fieldOf v FLT_CH_CFG_CJCH
    let s := s.storeReg a (if bad then setField v FLT_CH_CFG_CJCH (fieldOf old FLT_CH_CFG_CJCH) else v)
    let s := if bad then s.cfgErr FLT_STATUS else s
    let s := if s.get a FLT_CH_CFG_SENSOR = fieldOf old FLT_CH_CFG_SENSOR then s else s.modF n fun x => { x with last := none }
    let p := s.get a FLT_CH_CFG_PROF
    if p = fieldOf old FLT_CH_CFG_PROF then s else s.ask { edge := s.nextEdge, chan := some n, prof := some p }

/-- A write to FLT_CH_CFG (R129). -/
def execFltChCfgWrite (n : Chan) (v : Word) (s : State) : Host.Outcome State Fault Refusal :=
  .next (if s.fabric then s.fltCfgStore n v else s)

/-- Whether FLT_PROF_A takes a word. -/
def profAOk (v : Word) : Bool :=
  let d := fieldOf v FLT_PROF_A_D1SEL
  match fieldOf v FLT_PROF_A_RESP with
  | 0 => d < 6
  | 1 => d = 2 || d = 4
  | 2 => true
  | _ => false

/-- Whether FLT_PROF_B takes a word. -/
def profBOk (v : Word) : Bool :=
  let l := fieldOf v FLT_PROF_B_L2
  let d := fieldOf v FLT_PROF_B_D2
  1 ≤ l && l ≤ 4096 && 1 ≤ d && d ≤ l

/-- Second paths on a profile whose edge of acceptance lies ahead take its registers as they stand (R112). -/
def State.reword (s : State) (p : Nat) : State :=
  let r := s.profRegs p
  { s with flt := { s.flt with ch := s.flt.ch.map fun c => (c.1, { c.2 with
      alt := c.2.alt.map fun q => if q.prof = p ∧ s.edgeNow < q.start then { q with a := r.1, b := r.2 } else q }) } }

/-- A store to a profile register (R112): it is taken whole, or refused whole with CFGERR. Requests that have arrived keep the
settings that they found. -/
def State.profStore (s : State) (p : Nat) (isB : Bool) (v : Word) : State :=
  let s := s.fltNow
  if isB then (if profBOk v then (s.storeReg (FLT_PROF_B p) v).reword p else s.cfgErr FLT_STATUS)
  else (if profAOk v then (s.storeReg (FLT_PROF_A p) v).reword p else s.cfgErr FLT_STATUS)

/-- A write to FLT_PROF_A or FLT_PROF_B (R112). -/
def execFltProfileWrite (p : Fin 8) (isB : Bool) (v : Word) (s : State) : Host.Outcome State Fault Refusal :=
  .next (if s.fabric then s.profStore p isB v else s)

/-- FLT_CH_STAT (R130, R131). -/
def State.chStat (s : State) (n : Nat) : Nat :=
  let x := s.fch n
  let st := if x.fade != 0 then 2 else if x.alt.isSome then 1 else 0
  x.pending.isSome.toNat * 2 ^ 11 + x.pending.getD 0 * 2 ^ 8 + st * 2 ^ 4 + x.prof

/-- A store to the window of FLT. -/
def State.fltStore (s : State) (a : Nat) (v : Word) : State :=
  if FLT_CH_CFG 0 ≤ a ∧ a < FLT_CH_CFG 96 then s.fltCfgStore ((a - FLT_CH_CFG 0) / 4) v
  else if FLT_CH_ROUTE 0 ≤ a ∧ a < FLT_CH_ROUTE 96 then (if a < FLT_CH_ROUTE s.nCh then s.storeReg a v else s)
  else if FLT_CH_OFFS 0 ≤ a ∧ a < FLT_CH_OFFS 96 then (if a < FLT_CH_OFFS s.nCh then s.storeReg a v else s)
  else if FLT_PROF_A 0 ≤ a ∧ a < FLT_PROF_A 8 then s.profStore ((a - FLT_PROF_A 0) / 8) (a % 8 = 4) v
  else s.storeReg a v

/-- A store to the window of EVT. -/
def State.evtWindowStore (s : State) (a : Nat) (v : Word) : State :=
  let u := (a % 0x400) / 4
  if u < 96 then
    match a / 0x400 % 64 with
    | 1 => s.evtStore .cfg u v
    | 2 => s.evtStore .hi u v
    | 3 => s.evtStore .lo u v
    | 4 => s.evtStore .hyst u v
    | 5 => s.evtStore .rate u v
    | 6 => s.evtStore .stuck u v
    | 7 => s.flagStore u v
    | _ => s.storeReg a v
  else s.storeReg a v

end Sys2Proof.Machine
end

