-- ==== Sys2Proof/Machine/Afe.lean ====
section
/-! DEFINITION. The analogue front end (R88–R111): restarts, overload, the reference, the wiring tests, the watch channels. What
is analogue reaches the model as a command's operand: bits, the results of a test, the moment the reference has settled. -/

namespace Sys2Proof.Machine

open Sys2Proof

/-! ## Restarts (R92) -/

/-- The channel's flag is clear from edge `r` on. `old` is AFE_CH_CFG as in force until then. -/
def AfeCh.clear (x : AfeCh) (r : Nat) (old : Word) : AfeCh :=
  if x.valid then { x with valid := false, since := r, prior := old } else x

/-- A restart of the channel begins on the next AFE edge: 64 AFE cycles in reset (R92), and on that edge a request for the profile
that PROF names (R129, R130). -/
def State.restartCh (s : State) (n : Nat) (old : Word) : State :=
  let r := s.nextEdge
  (s.modA n fun x => { x.clear r old with restart := some (r + 64), zeroed := true }).ask { edge := r, chan := some n }

/-- The channel is powered down from the next AFE edge on (R88). -/
def State.powerDownCh (s : State) (n : Nat) (old : Word) : State :=
  s.modA n fun x => { x.clear s.nextEdge old with restart := none }

/-- EN, RANGE, REF, BIAS, BO and INSEL of AFE_CH_CFG but for EN: a change of these restarts the channel (R92). -/
def restartFields : List Fld := [AFE_CH_CFG_RANGE, AFE_CH_CFG_REF, AFE_CH_CFG_BIAS, AFE_CH_CFG_BO, AFE_CH_CFG_INSEL]

/-- A store to AFE_CH_CFG (R92, R111). A channel under test takes its new fields when the test releases it (R103). -/
def State.afeCfgStore (s : State) (n : Nat) (v : Word) : State :=
  if s.nCh ≤ n then s
  else
    let a := AFE_CH_CFG n
    let old := s.rd a
    let s := s.storeReg a v
    let new := s.rd a
    let was := fieldOf old AFE_CH_CFG_EN = 1
    let now := fieldOf new AFE_CH_CFG_EN = 1
    if s.underTest n then s
    else if now && (!was || restartFields.any fun f => fieldOf old f != fieldOf new f) then s.restartCh n old
    else if was && !now then s.powerDownCh n old
    else s

/-- A write to AFE_CH_CFG (R92). -/
def execAfeChCfgWrite (n : Chan) (v : Word) (s : State) : Host.Outcome State Fault Refusal :=
  .next (if s.fabric then s.afeCfgStore n v else s)

/-- The 64 AFE cycles of a restart end: the flag becomes set, and FLT restarts the channel on that edge (R92, R124, R473). -/
def execChannelRestartEnd (n : Chan) (s : State) : Host.Outcome State Fault Refusal :=
  match (s.achan n).restart with
  | some e =>
    if s.fabric ∧ s.pow.pllT ∧ s.flag (AFE_CH_CFG n) AFE_CH_CFG_EN ∧ !s.underTest n ∧ !s.napped n ∧ !s.behind n e then
      let s := (s.reqsTo (e - 1)).passTo (s.edgeTime e)
      .next ((s.modA n fun x => { x with valid := true, restart := none }).flagSet n e)
    else .next s
  | none => .next s

/-- A channel emits bits: powered, and not held in reset (R88, R92, R102). -/
def State.emits (s : State) (n : Nat) : Bool := n < s.nCh && !s.napped n && ((s.achan n).valid || s.underTest n)

/-- 32 equal modulator bits in a row (R91, R105). -/
def State.overload (s : State) (n : Nat) : State :=
  let s := s.setBit (AFE_OVL (n / 32)) (n % 32) true
  match s.afe.test with
  | some t =>
    if t.loop && t.now.contains n && 2 ≤ t.phase && !t.ovl.contains n then
      { s with afe := { s.afe with test := some { t with ovl := t.ovl ++ [n] } } }
    else s
  | none => s

/-- 32 equal modulator bits in a row (R91). (DESIGN CHOICE, log 16) -/
def execOverload (n : Chan) (s : State) : Host.Outcome State Fault Refusal :=
  .next (if s.fabric ∧ s.emits n then s.overload n else s)

/-- 64 equal modulator bits in a row clear the modulator's integrators; the channel keeps running and its flag stays set
(R91). -/
def execIntegratorClear (n : Chan) (s : State) : Host.Outcome State Fault Refusal :=
  .next (if s.fabric ∧ s.emits n then s.modA n fun x => { x with zeroed := true } else s)

/-! ## The reference (R94) -/

/-- A watch channel is enabled in the AO copy (R109). -/
def State.aoWatching (s : State) : Bool := s.afe.aoWatch.any fun e => fieldOf e.2 AFE_WATCH_CFG_EN = 1

/-- The internal reference is on: by REFEN, which a WARM reset sets; in OASIS while a watch channel is enabled; in a COLD reset as
soon as AVDD is valid, which AVDDLOW shows (R47, R94). -/
def State.refOn (s : State) : Bool :=
  match s.pow.phase with
  | .up | .warm => s.flag AFE_CTRL AFE_CTRL_REFEN
  | .oasis => s.aoWatching
  | .cold | .vcore | .lock => true

/-- The internal reference is within 0.05 % of its final value (R94): it is on, and AVDD is up. AFE_STATUS.REFRDY shows it. (DESIGN CHOICE, log 16) -/
def execRefrdy (s : State) : Host.Outcome State Fault Refusal :=
  .next (if s.refOn ∧ !s.flag SYS_STATUS SYS_STATUS_AVDDLOW then { s with afe := { s.afe with ref := true } } else s)

/-! ## Wiring tests (R102–R107) -/

/-- The channels of the test mask that the variant has (R102, R111). -/
def State.masked (s : State) : List Nat := (List.range s.nCh).filter fun n => bitAt (s.rd (AFE_TEST_MASK (n / 32))) (n % 32)

/-- AFE_TEST_POS shows the test. -/
def State.showPos (s : State) : State :=
  s.set AFE_TEST_POS AFE_TEST_POS_CH
    (match s.afe.test with
      | none => 0x7F
      | some t => if t.seq then t.now.headD 0x7F else 0x7E)

/-- Channels come under test (R103): their flags clear. The sources associated with them are off meanwhile. -/
def State.underTestNow (s : State) (t : TestSt) : State :=
  let s := t.now.foldl (fun s n => s.modA n fun x => { x.clear s.nextEdge (s.rd (AFE_CH_CFG n)) with restart := none }) s
  ({ s with afe := { s.afe with test := some t } }).showPos

/-- The test ends. -/
def State.testOver (s : State) : State :=
  (({ s with afe := { s.afe with test := none } }).set AFE_STATUS AFE_STATUS_TESTBUSY 0).showPos

/-- A test releases channels (R103): their sources and fields are as before, and those with EN = 1 restart. -/
def State.releaseCh (s : State) (ns : List Nat) : State :=
  ns.foldl (fun s n => if s.flag (AFE_CH_CFG n) AFE_CH_CFG_EN then s.restartCh n (s.rd (AFE_CH_CFG n)) else s) s

/-- START (R102, R106): VALID clears in the results of the masked channels, and the first dwell begins. (DESIGN CHOICE, log 16) -/
def State.startTest (s : State) : State :=
  let ns := s.masked
  let s := ns.foldl (fun s n => s.set (AFE_TEST_RES n) AFE_TEST_RES_VALID 0) s
  let seq := s.flag AFE_TEST_CTL AFE_TEST_CTL_SEQ
  let loop := s.get AFE_TEST_CTL AFE_TEST_CTL_MODE = 2
  match ns with
  | [] => s.set AFE_STATUS AFE_STATUS_TESTDONE 1
  | n :: rest =>
    let t : TestSt := if seq then { loop, seq, now := [n], rest } else { loop, seq, now := ns, rest := [] }
    (s.set AFE_STATUS AFE_STATUS_TESTBUSY 1).underTestNow t

/-- The running test is aborted (R107). (DESIGN CHOICE, log 16) -/
def State.abortTest (s : State) : State :=
  match s.afe.test with
  | none => s
  | some t => ((s.testOver).releaseCh t.now).set AFE_STATUS AFE_STATUS_TESTABORT 1

/-- A store to AFE_TEST_CTL (R102, R107). (DESIGN CHOICE, log 16) -/
def State.testCtlStore (s : State) (v : Word) : State :=
  let abort := fieldOf v AFE_TEST_CTL_ABORT = 1
  let start := fieldOf v AFE_TEST_CTL_START = 1
  if abort then (if start then s else s.storeReg AFE_TEST_CTL v).abortTest
  else if s.afe.test.isSome then s.set AFE_STATUS AFE_STATUS_TESTCOLL 1
  else
    let s := s.storeReg AFE_TEST_CTL v
    if start && s.pstate = 0 then s.startTest else s

/-- A write to AFE_TEST_CTL with START = 1 (R102). The command's word stands for it with that bit set. -/
def execTestStart (v : Word) (s : State) : Host.Outcome State Fault Refusal :=
  .next (if s.fabric then s.testCtlStore (v ||| 0x80000000) else s)

/-- ABORT = 1 (R107). -/
def execTestAbort (s : State) : Host.Outcome State Fault Refusal := .next (if s.fabric then s.abortTest else s)

/-- The last phase of a dwell (R106): 0–1 in LEAK, 0–3 in LOOP. -/
def TestSt.lastPhase (t : TestSt) : Nat := if t.loop then 3 else 1

/-- A phase of a dwell ends and the next begins (R106). (DESIGN CHOICE, log 16) -/
def execTestPhaseEnd (s : State) : Host.Outcome State Fault Refusal :=
  match s.afe.test with
  | some t =>
    .next (if s.fabric ∧ s.pstate = 0 ∧ t.phase < t.lastPhase then { s with afe := { s.afe with test := some { t with phase := t.phase + 1 } } } else s)
  | none => .next s

/-- One result (R104, R105): VALUE and OVER. A negative loop result has no encoding that the spec states: its VALUE is free. (DESIGN CHOICE, log 16) -/
def State.testResult (s : State) (t : TestSt) (n : Nat) (x : Int) : State × Nat × Bool :=
  if t.loop then
    if 65534 < x ∨ t.ovl.contains n then (s, 0xFFFF, true)
    else if x < 0 then (s.free.2, s.free.1.toNat % 2 ^ 16, false)
    else (s, x.toNat, false)
  else
    let y := clampInt (-16383) 16383 x
    (s, (y % 65536).toNat, y != x)

/-- AFE_TEST_RES of a channel is written (R106). -/
def State.writeResult (s : State) (t : TestSt) (n : Nat) (x : Int) : State :=
  let r := s.testResult t n x
  r.1.wr (AFE_TEST_RES n) (BitVec.ofNat 32 (t.loop.toNat * 2 ^ 18 + r.2.2.toNat * 2 ^ 17 + 2 ^ 16 + r.2.1))

/-- A dwell ends (R106): results, release, then the next masked channel or the end of the test. -/
def State.dwellEnd (s : State) (t : TestSt) (res : List (Chan × Int)) : State :=
  let s := t.now.foldl (fun s n =>
    match res.find? fun r => r.1.val = n with
    | some r => s.writeResult t n r.2
    | none => s) s
  match t.rest with
  | [] => (s.testOver.releaseCh t.now).set AFE_STATUS AFE_STATUS_TESTDONE 1
  | m :: rest =>
    (({ s with afe := { s.afe with test := none } }).releaseCh t.now).underTestNow { loop := t.loop, seq := t.seq, now := [m], rest }

/-- A dwell ends (R106). The results are what the AFE has measured, one for each channel under test: in units of 0.25 nA, or of
1 Ω. (DESIGN CHOICE, log 16) -/
def execTestDwellEnd (res : List (Chan × Int)) (s : State) : Host.Outcome State Fault Refusal :=
  match s.afe.test with
  | some t =>
    .next (if s.fabric ∧ s.pstate = 0 ∧ t.phase = t.lastPhase ∧ t.now.all fun n => res.any fun r => r.1.val = n then s.dwellEnd t res else s)
  | none => .next s

/-! ## NAP and OASIS (R107–R110) -/

/-- NAP powers a channel down (R108). (DESIGN CHOICE, log 16) -/
def State.napOff (s : State) (n : Nat) : State :=
  (s.powerDownCh n (s.rd (AFE_CH_CFG n))).modA n fun x => { x with off := true }

/-- Entry into NAP (R92, R107, R108): a test is aborted, and every channel but the enabled watch channels is powered down. -/
def State.afeNap (s : State) : State :=
  let s := s.abortTest
  (List.range s.nCh).foldl (fun s n => if s.watched n then s else s.napOff n) s

/-- A store to AFE_WATCH_CFG (R108): in NAP a channel that stops being an enabled watch channel is powered down. (DESIGN CHOICE, log 16) -/
def State.watchCfgStore (s : State) (w : Nat) (v : Word) : State :=
  let s := s.storeReg (AFE_WATCH_CFG w) v
  if s.pstate = 2 ∧ !s.watched w ∧ !s.napped w then s.napOff w else s

/-- The return from NAP (R92): the channels that were powered down restart, those with EN = 1. -/
def State.afeNapEnd (s : State) : State :=
  (List.range s.nCh).foldl (fun s n =>
    if s.napped n then
      let s := s.modA n fun x => { x with off := false }
      if s.flag (AFE_CH_CFG n) AFE_CH_CFG_EN then s.restartCh n (s.rd (AFE_CH_CFG n)) else s
    else s) s

/-- Entry into OASIS (R47, R94, R109): the AO island takes its copies, with the sources of enabled watch channels; with none
enabled the reference goes off. -/
def State.afeOasis (s : State) : State :=
  let w := (List.range 8).map fun k => (k, s.rd (AFE_WATCH_CFG k))
  let e := ((List.range 16).filter fun k => s.watched (s.get (AFE_EXC_CFG k) AFE_EXC_CFG_CH)).map fun k => (k, s.rd (AFE_EXC_CFG k))
  { s with afe := { s.afe with
      ref := s.afe.ref && w.any fun p => fieldOf p.2 AFE_WATCH_CFG_EN = 1
      aoWatch := w.filter fun p => p.2 != 0, aoExc := e.filter fun p => p.2 != 0, aoCic := [], aoCount := [] } }

/-- AFE_WATCH_CFG as the AO island holds it (R109). -/
def State.aoWatch (s : State) (w : Nat) : Word := tget s.afe.aoWatch 0 w

/-- An output code of the AO decimator, sinc3 with D = 2048, from its sum (R109, R116, R117): the code of R119. (DESIGN CHOICE, log 16) -/
def watchCode (s1 : Nat) : Int := roundHalfUp (roundHalfUp ((s1 : Int) - 2 ^ 32) 256) 4

/-- The AO decimator takes bits; the code of the window that the last bit closes. -/
def cicAll (c : CicSt) : List Bool → CicSt × Option Nat
  | [] => (c, none)
  | b :: l =>
    let r := c.feed 3 2048 b.toNat
    match l with
    | [] => r
    | _ => cicAll r.1 l

/-- A watch channel's decimator delivers a result in OASIS (R109, R264): OAS_WRES takes it, with VALID from the third one on. The first
two depend on bits from before the entry, and their codes are free. (DESIGN CHOICE, log 16) -/
def execWatchResult (w : Fin 8) (bits : List Bool) (s : State) : Host.Outcome State Fault Refusal :=
  let r := cicAll (tget s.afe.aoCic {} w) bits
  match r.2 with
  | some s1 =>
    if s.pow.phase = .oasis ∧ bits.length = 2048 ∧ fieldOf (s.aoWatch w) AFE_WATCH_CFG_EN = 1 then
      let k := tget s.afe.aoCount 0 w + 1
      let s := { s with afe := { s.afe with aoCic := tset {} s.afe.aoCic w r.1, aoCount := tset 0 s.afe.aoCount w (min 3 k) } }
      .next (if 3 ≤ k then
        (s.set (OAS_WRES w) OAS_WRES_CODE ((watchCode s1) % 2 ^ 24).toNat).set (OAS_WRES w) OAS_WRES_VALID 1
      else s.free.2.set (OAS_WRES w) OAS_WRES_CODE (s.free.1.toNat % 2 ^ 24))
    else .next s
  | none => .next s

/-! ## Registers -/

/-- The bits of register `j` of three that stand for channels of the variant (R111). -/
def State.chMask (s : State) (j : Nat) : Nat := 2 ^ min 32 (s.nCh - 32 * j) - 1

/-- A store to AFE_CTRL (R94): with REFEN = 0 the reference goes off. -/
def State.afeCtrlStore (s : State) (v : Word) : State :=
  let s := s.storeReg AFE_CTRL v
  if s.flag AFE_CTRL AFE_CTRL_REFEN then s else { s with afe := { s.afe with ref := false } }

/-- A store to AFE_EXC_CFG (R99): CH at or above the channel count is reserved. -/
def State.excStore (s : State) (k : Nat) (v : Word) : State :=
  let a := AFE_EXC_CFG k
  if s.nCh ≤ fieldOf v AFE_EXC_CFG_CH then
    (s.storeReg a (setField v AFE_EXC_CFG_CH (s.get a AFE_EXC_CFG_CH))).cfgErr a
  else s.storeReg a v

/-- A store to the window of the AFE. -/
def State.afeStore (s : State) (a : Nat) (v : Word) : State :=
  if a = AFE_CTRL then s.afeCtrlStore v
  else if a = AFE_TEST_CTL then s.testCtlStore v
  else if AFE_TEST_MASK 0 ≤ a ∧ a < AFE_TEST_MASK 3 then
    if s.afe.test.isSome then s.set AFE_STATUS AFE_STATUS_TESTCOLL 1
    else s.storeReg a (v &&& BitVec.ofNat 32 (s.chMask ((a - AFE_TEST_MASK 0) / 4)))
  else if AFE_EXC_CFG 0 ≤ a ∧ a < AFE_EXC_CFG 16 then s.excStore ((a - AFE_EXC_CFG 0) / 4) v
  else if AFE_WATCH_CFG 0 ≤ a ∧ a < AFE_WATCH_CFG 8 then s.watchCfgStore ((a - AFE_WATCH_CFG 0) / 4) v
  else if AFE_CH_CFG 0 ≤ a ∧ a < AFE_CH_CFG 96 then s.afeCfgStore ((a - AFE_CH_CFG 0) / 4) v
  else s.storeReg a v

end Sys2Proof.Machine
end

