-- ==== Sys2Proof/Machine/Flags.lean ====
section
/-! DEFINITION. The arithmetic of the Dexgar cores with the flags that it sets (R181, R183, R188–R192, R204, R210–R212). -/

namespace Sys2Proof.Machine

open Sys2Proof

/-- The flags register (R181): Z, N, C, V, T, DZ, SAT from bit 0 on. -/
abbrev Flags := BitVec 7

/-- A flag. -/
def flagAt (f : Flags) (i : Nat) : Bool := f.toNat.testBit i

/-- The flags with one put to a value. -/
def putFlag (f : Flags) (i : Nat) (b : Bool) : Flags :=
  BitVec.ofNat 7 (setBitsOf f.toNat i 1 b.toNat)

/-- Z and N from a result. -/
def putZN (f : Flags) (r : Word) : Flags := putFlag (putFlag f 0 (r = 0)) 1 r.msb

/-- C. -/
def putC (f : Flags) (c : Bool) : Flags := putFlag f 2 c

/-- V, and SAT with it when V becomes 1 (R181). -/
def putV (f : Flags) (v : Bool) : Flags :=
  let f := putFlag f 3 v
  if v then putFlag f 6 true else f

/-- Whether a condition holds (R183). -/
def holds (f : Flags) : Cond → Bool
  | .al => true
  | .eq => flagAt f 0
  | .ne => !flagAt f 0
  | .cs => flagAt f 2
  | .cc => !flagAt f 2
  | .mi => flagAt f 1
  | .ge => flagAt f 1 == flagAt f 3
  | .ts => flagAt f 4

/-- A result with the flags after it. -/
structure Alu where
  res : Word
  flags : Flags
  deriving DecidableEq, Repr

/-- `add(a, b, cin)` of R188: the sum, the carry and the signed overflow. -/
def addWith (a b : Word) (cin : Bool) : Word × Bool × Bool :=
  let n := a.toNat + b.toNat + cin.toNat
  let r := BitVec.ofNat 32 n
  (r, decide (2 ^ 32 ≤ n), a.msb == b.msb && r.msb != a.msb)

/-- Addition with its flags (R188). -/
def aluAdd (f : Flags) (a b : Word) (cin : Bool) : Alu :=
  let r := addWith a b cin
  { res := r.1, flags := putV (putC (putZN f r.1) r.2.1) r.2.2 }

/-- Subtraction with its flags (R188): `a - b - (1 - cin)`. -/
def aluSub (f : Flags) (a b : Word) (cin : Bool) : Alu := aluAdd f a (~~~b) cin

/-- A logical result: Z and N (R192). -/
def aluLogic (f : Flags) (r : Word) : Alu := { res := r, flags := putZN f r }

/-- MUL (R189). -/
def aluMul (f : Flags) (a b : Word) : Alu :=
  let r := a * b
  let p := a.toInt * b.toInt
  { res := r, flags := putV (putC (putZN f r) (decide (2 ^ 32 ≤ a.toNat * b.toNat))) (decide (p < -2 ^ 31 ∨ 2 ^ 31 ≤ p)) }

/-- MULH (R189). -/
def aluMulh (f : Flags) (a b : Word) : Alu := aluLogic f (BitVec.ofInt 32 ((a.toInt * b.toInt).fdiv (2 ^ 32)))

/-- MULHU (R189). -/
def aluMulhu (f : Flags) (a b : Word) : Alu := aluLogic f (BitVec.ofNat 32 (a.toNat * b.toNat / 2 ^ 32))

/-- What a division writes, with its flags (R190): Z and N from the value, V and C, and DZ. -/
def divFlags (f : Flags) (r : Word) (v dz : Bool) : Alu :=
  let f := putV (putC (putZN f r) false) v
  { res := r, flags := if dz then putFlag f 5 true else f }

/-- Whether a signed division overflows (R190). -/
def divOverflow (a b : Word) : Bool := a = 0x80000000 && b = 0xFFFFFFFF

/-- DIV (R190). -/
def aluDiv (f : Flags) (a b : Word) : Alu :=
  if b = 0 then divFlags f 0xFFFFFFFF false true
  else if divOverflow a b then divFlags f 0x80000000 true false
  else divFlags f (BitVec.ofInt 32 (a.toInt.tdiv b.toInt)) false false

/-- DIVU (R190). -/
def aluDivu (f : Flags) (a b : Word) : Alu :=
  if b = 0 then divFlags f 0xFFFFFFFF false true else divFlags f (BitVec.ofNat 32 (a.toNat / b.toNat)) false false

/-- REM (R190). -/
def aluRem (f : Flags) (a b : Word) : Alu :=
  if b = 0 then divFlags f a false true
  else if divOverflow a b then divFlags f 0 true false
  else divFlags f (BitVec.ofInt 32 (a.toInt.tmod b.toInt)) false false

/-- REMU (R190). -/
def aluRemu (f : Flags) (a b : Word) : Alu :=
  if b = 0 then divFlags f a false true else divFlags f (BitVec.ofNat 32 (a.toNat % b.toNat)) false false

/-- A shift's result with Z and N, and C where the amount is not 0 (R191). -/
def shiftFlags (f : Flags) (r : Word) (n : Nat) (c : Bool) : Alu :=
  let f := putZN f r
  { res := r, flags := if n = 0 then f else putC f c }

/-- SHL by an amount 0–63 (R191). -/
def aluShl (f : Flags) (a b : Word) : Alu :=
  let n := b.toNat % 64
  shiftFlags f (BitVec.ofNat 32 (a.toNat * 2 ^ n)) n (decide (n ≤ 32) && a.toNat.testBit (32 - n))

/-- SHR (R191). -/
def aluShr (f : Flags) (a b : Word) : Alu :=
  let n := b.toNat % 64
  shiftFlags f (BitVec.ofNat 32 (a.toNat / 2 ^ n)) n (a.toNat.testBit (n - 1))

/-- SAR (R191). -/
def aluSar (f : Flags) (a b : Word) : Alu :=
  let n := b.toNat % 64
  shiftFlags f (BitVec.ofInt 32 (a.toInt.fdiv (2 ^ n))) n (if n ≤ 32 then a.toNat.testBit (n - 1) else a.msb)

/-- ROR (R191). -/
def aluRor (f : Flags) (a b : Word) : Alu :=
  let n := b.toNat % 64
  let r := a.rotateRight (n % 32)
  shiftFlags f r n r.msb

/-! ## Parity, reversal, CRC -/

/-- The number built from the low `k` bits of `n` in reverse order. -/
def reverseBits : (k : Nat) → Nat → Nat
  | 0, _ => 0
  | k + 1, n => n % 2 * 2 ^ k + reverseBits k (n / 2)

/-- The number of ones among the low `k` bits of `n`. -/
def onesIn : (k : Nat) → Nat → Nat
  | 0, _ => 0
  | k + 1, n => n % 2 + onesIn k (n / 2)

/-- PAR (R212): 1 for an odd number of ones. -/
def parityOf (w : Word) : Word := BitVec.ofNat 32 (onesIn 32 w.toNat % 2)

/-- BREV (R212). -/
def brevOf (w : Word) : Word := BitVec.ofNat 32 (reverseBits 32 w.toNat)

/-- BREVB (R212). -/
def brevbOf (w : Word) : Word :=
  BitVec.ofNat 32 ((List.range 4).foldl (fun n k => n + reverseBits 8 (w.toNat / 2 ^ (8 * k) % 256) * 2 ^ (8 * k)) 0)

/-- The width that CRCC names (R210); the reserved value is never held. -/
def crcWidth (crcc : BitVec 3) : Nat := match crcc.toNat % 4 with | 0 => 32 | 1 => 16 | _ => 8

/-- One bit of a reflected CRC step (R211). -/
def crcBitRefl (p v : Nat) : Nat := if v % 2 = 1 then (v / 2) ^^^ p else v / 2

/-- One bit of a CRC step that is not reflected (R211). -/
def crcBit (w p v : Nat) : Nat := if v.testBit (w - 1) then (v * 2 ^^^ p) % 2 ^ w else v * 2 % 2 ^ w

/-- A function applied `k` times. -/
def timesN {α : Type} (f : α → α) : Nat → α → α
  | 0, x => x
  | k + 1, x => timesN f k (f x)

/-- One CRC step on a byte (R211). -/
def crcStep (crcc : BitVec 3) (crcp crcv : Word) (b : Byte) : Word :=
  let w := crcWidth crcc
  let p := crcp.toNat % 2 ^ w
  if crcc.toNat.testBit 2 then
    BitVec.ofNat 32 (timesN (crcBitRefl (reverseBits w p)) 8 (crcv.toNat % 2 ^ w ^^^ b.toNat))
  else BitVec.ofNat 32 (timesN (crcBit w p) 8 (crcv.toNat % 2 ^ w ^^^ b.toNat * 2 ^ (w - 8)))

/-- CRC steps over bytes (R211). -/
def crcBytes (crcc : BitVec 3) (crcp : Word) : Word → List Byte → Word
  | v, [] => v
  | v, b :: r => crcBytes crcc crcp (crcStep crcc crcp v b) r

/-- CRC-32C over bytes: initial value all ones, reflected, inverted at the end (R357). -/
def crc32c (l : List Byte) : Word := ~~~(crcBytes 4 0x1EDC6F41 0xFFFFFFFF l)

end Sys2Proof.Machine
end

