-- ==== Sys2Proof/Machine/Dexgar.lean ====
section
/-! DEFINITION. How the Dexgar cores fetch and decode: the short form from program memory (R182–R187, R213, R214) and the byte
form from shared memory (R216–R222). -/

namespace Sys2Proof.Machine

open Sys2Proof

/-- What a core finds at its PC: an instruction; a reserved encoding, with the number of the word or byte that breaks the rules;
a word or byte that cannot be fetched intact, with the KIND of R229 and its address; or a byte that has not arrived. -/
inductive Fetched where
  | op (i : Instr)
  | illegal (breaking : Nat)
  | fault (kind addr : Nat)
  | stall
  deriving DecidableEq, Repr

/-- The KIND codes of CORE_FAULT (R229). -/
def kindParity : Nat := 5
def kindRegion : Nat := 6
def kindOf : BusErr → Nat | .absent => 1 | .decode => 2 | .width => 3 | .ecc => 4

/-- A condition by its code (R183). -/
def condOf (n : Nat) : Cond :=
  match n % 8 with | 0 => .al | 1 => .eq | 2 => .ne | 3 => .cs | 4 => .cc | 5 => .mi | 6 => .ge | _ => .ts

/-- A gather register by its number. -/
def gregOf (n : Nat) : GReg := ⟨n % 8, Nat.mod_lt n (by decide)⟩

/-- A special register by its index (R180); index 7 names none. -/
def specialOf (n : Nat) : Option Special :=
  match n with
  | 0 => some .lr | 1 => some .flags | 2 => some .vbase | 3 => some .crcv | 4 => some .crcp | 5 => some .crcc
  | 6 => some .pcView | _ => none

/-- The signed value of the low `w` bits, as a word; a field of no bits is 0. -/
def sext (w n : Nat) : Word := if w = 0 then 0 else BitVec.ofInt 32 (signedOf w n)

/-! ## The short form -/

/-- The field that EXT payloads and an instruction's own field of `w` bits make together (R185): the first payload holds the
most significant bits. -/
def joined (exts : List Nat) (w own : Nat) : Word :=
  sext (w + 7 * exts.length) (exts.foldl (fun n k => n * 128 + k) 0 * 2 ^ w + own)

/-- The instructions of the miscellaneous group (R187): major 0b111 with bit 7 clear, group [6:3], code [2:0]. -/
def miscOp (c : Core) (e : Enc) (group code : Nat) (off : Word) : Option Instr :=
  let r := gregOf code
  match group, code with
  | 0, 0 => some (.nop c e)
  | 0, 1 => some (.ret c e)
  | 0, 2 => some (.reti c e)
  | 0, 3 => some (.sleep c e)
  | 0, 4 => some (.waitev c e)
  | 0, 5 => some (.ckpt c e)
  | 1, 0 => some (.xcpy c e)
  | 1, 1 => some (.xfil c e)
  | 1, 2 => some (.xcmp c e)
  | 1, 3 => some (.xfnd c e)
  | 1, 4 => some (.xcrc c e)
  | 2, 0 => if e.cond = .al then some (.xcpyRun c e) else none
  | 2, 1 => if e.cond = .al then some (.xfilRun c e) else none
  | 2, 2 => some (.xcmpRun c e)
  | 2, 3 => some (.xfndRun c e)
  | 2, 4 => if e.cond = .al then some (.xcrcRun c e) else none
  | 3, t => some (.tstc c e (condOf t))
  | 4, _ => some (.neg c e r)
  | 5, _ => some (.not c e r)
  | 6, _ => some (.par c e r)
  | 7, _ => some (.brev c e r)
  | 8, _ => some (.brevb c e r)
  | 9, _ => some (.crcb c e r)
  | 10, _ => some (.crcw c e r)
  | 11, _ => some (.jr c e r)
  | 12, _ => some (.callReg c e r)
  | 13, k => (specialOf k).map fun k => .movFromSpecial c e 0 k
  | 14, k => if k < 6 then (specialOf k).map fun k => .movToSpecial c e k 0 else none
  | 15, _ => some (.call c e off)
  | _, _ => none

/-- The instructions of major 0b011 (R187), by their minor code. -/
def minorOp (c : Core) (e : Enc) (minor : Nat) (d s : GReg) (disp : Word) : Option Instr :=
  match minor with
  | 0 => some (.adc c e d s)
  | 1 => some (.sbc c e d s)
  | 2 => some (.shl c e d s)
  | 3 => some (.shr c e d s)
  | 4 => some (.sar c e d s)
  | 5 => some (.ror c e d s)
  | 6 => some (.mul c e d s)
  | 7 => some (.mulh c e d s)
  | 8 => some (.mulhu c e d s)
  | 9 => some (.div c e d s)
  | 10 => some (.divu c e d s)
  | 11 => some (.rem c e d s)
  | 12 => some (.remu c e d s)
  | 13 => some (.ldh c e d s disp)
  | 14 => some (.sth c e d s disp)
  | _ => none

/-- Whether a final word names an instruction that accepts EXT words (R185). -/
def takesExt (w : Nat) : Bool :=
  match bitsOf w 8 3 with
  | 2 | 4 | 5 | 6 => true
  | 3 => bitsOf w 4 4 = 13 || bitsOf w 4 4 = 14
  | 7 => bitsOf w 3 5 = 15
  | _ => false

/-- The instruction that a final word makes with the EXT payloads before it (R185, R187); none is reserved (R213). -/
def decodeWord (c : Core) (exts : List Nat) (w : Nat) : Option Instr :=
  let e : Enc := { cond := condOf (bitsOf w 11 3), len := exts.length + 1, noFlags := false }
  let d := gregOf (bitsOf w 3 3)
  let s := gregOf (bitsOf w 0 3)
  let d4 := gregOf (bitsOf w 5 3)
  if !exts.isEmpty && !takesExt w then none
  else
    match bitsOf w 8 3, bitsOf w 6 2 with
    | 0, 0 => some (.add c e d s)
    | 0, 1 => some (.sub c e d s)
    | 0, 2 => some (.and c e d s)
    | 0, _ => some (.or c e d s)
    | 1, 0 => some (.xor c e d s)
    | 1, 1 => some (.mov c e d s)
    | 1, 2 => some (.cmp c e d s)
    | 1, _ => some (.tst c e d s)
    | 2, 0 => some (.ld c e d s (joined exts 0 0))
    | 2, 1 => some (.st c e d s (joined exts 0 0))
    | 2, 2 => some (.ldb c e d s (joined exts 0 0))
    | 2, _ => some (.stb c e d s (joined exts 0 0))
    | 3, _ => minorOp c e (bitsOf w 4 4) (gregOf (bitsOf w 2 2)) (gregOf (bitsOf w 0 2)) (joined exts 0 0)
    | 4, _ => some (.movi c e d4 (joined exts 5 (bitsOf w 0 5)))
    | 5, _ => some (.addi c e d4 (joined exts 5 (bitsOf w 0 5)))
    | 6, _ => some (.br c e (joined exts 8 (bitsOf w 0 8)))
    | _, _ => miscOp c e (bitsOf w 3 4) (bitsOf w 0 3) (joined exts 3 (bitsOf w 0 3))

/-- An EXT word (R185): major 0b111 with bit 7 set. -/
def isExt (w : Nat) : Bool := bitsOf w 7 4 = 15

/-- Decoding from word `n` of the instruction on, with the payloads before it (R185, R186, R214). `word k` is word `k`: its
value, or none where its parity fails; `addr k` is its address. -/
def decodeShort (c : Core) (word : Nat → Option Nat) (addr : Nat → Nat) : (fuel : Nat) → List Nat → Fetched
  | 0, _ => .stall
  | fuel + 1, exts =>
    let n := exts.length
    match word n with
    | none => .fault kindParity (addr n)
    | some w =>
      if isExt w then
        if bitsOf w 11 3 ≠ 0 || n = 2 then .illegal n else decodeShort c word addr fuel (exts ++ [bitsOf w 0 7])
      else match decodeWord c exts w with
        | some i => .op i
        | none => .illegal n

/-! ## The byte form -/

/-- A byte of an instruction: its value, not there yet, or not to be fetched intact. -/
inductive ByteAt where
  | byte (b : Nat)
  | stall
  | fault (kind addr : Nat)
  deriving DecidableEq, Repr

/-- The prefixes found so far (R217): the condition, the size of the field that an IMM prefix names, NOFLAGS, RUN. -/
structure Prefixes where
  cond : Option Nat := none
  imm : Nat := 1
  noFlags : Bool := false
  run : Bool := false
  deriving DecidableEq, Repr

/-- The operand formats of R218. -/
inductive Fmt where
  | none | rr | mov | r | ri | m | b | call | c
  deriving DecidableEq, Repr

/-- The format of an opcode byte (R187, R218); none is no operation number (R222). -/
def fmtOf (op : Nat) : Option Fmt :=
  if op = 0 ∨ 0x2A = op ∨ 0x2C ≤ op ∧ op ≤ 0x2F ∨ 0x38 ≤ op ∧ op ≤ 0x3C then some .none
  else if 1 ≤ op ∧ op ≤ 7 ∨ op = 9 ∨ op = 0xA ∨ 0xD ≤ op ∧ op ≤ 0x17 then some .rr
  else if op = 8 then some .mov
  else if op = 0xB ∨ op = 0xC ∨ op = 0x2B ∨ 0x30 ≤ op ∧ op ≤ 0x34 then some .r
  else if op = 0x18 ∨ op = 0x19 then some .ri
  else if 0x20 ≤ op ∧ op ≤ 0x25 then some .m
  else if op = 0x28 then some .b
  else if op = 0x29 then some .call
  else if op = 0x40 then some .c
  else Option.none

/-- Whether NOFLAGS is accepted (R219). -/
def takesNoFlags (op : Nat) : Bool :=
  1 ≤ op && op ≤ 7 || op = 0xB || op = 0xC || 0xD ≤ op && op ≤ 0x18 || 0x30 ≤ op && op ≤ 0x32

/-- Whether an opcode is a block instruction. -/
def isBlock (op : Nat) : Bool := 0x38 ≤ op && op ≤ 0x3C

/-- Whether a format has a field (R218); CALL has one in its relative mode. -/
def hasField : Fmt → Bool
  | .ri | .m | .b | .call => true
  | _ => false

/-- Whether the prefixes are allowed before an opcode (R222). -/
def prefixesOk (p : Prefixes) (op : Nat) (f : Fmt) : Bool :=
  (p.imm = 1 || hasField f) && (!p.run || isBlock op) &&
    (!p.run || op = 0x3A || op = 0x3B || p.cond.getD 0 = 0) && (!p.noFlags || takesNoFlags op)

/-- The instructions with two registers (R187, R218). -/
def rrOp (c : Core) (e : Enc) (op : Nat) (d s : GReg) : Option Instr :=
  match op with
  | 1 => some (.add c e d s)
  | 2 => some (.sub c e d s)
  | 3 => some (.adc c e d s)
  | 4 => some (.sbc c e d s)
  | 5 => some (.and c e d s)
  | 6 => some (.or c e d s)
  | 7 => some (.xor c e d s)
  | 8 => some (.mov c e d s)
  | 9 => some (.cmp c e d s)
  | 10 => some (.tst c e d s)
  | 13 => some (.mul c e d s)
  | 14 => some (.mulh c e d s)
  | 15 => some (.mulhu c e d s)
  | 16 => some (.div c e d s)
  | 17 => some (.divu c e d s)
  | 18 => some (.rem c e d s)
  | 19 => some (.remu c e d s)
  | 20 => some (.shl c e d s)
  | 21 => some (.shr c e d s)
  | 22 => some (.sar c e d s)
  | 23 => some (.ror c e d s)
  | _ => none

/-- The instructions with one register. -/
def rOp (c : Core) (e : Enc) (op : Nat) (r : GReg) : Option Instr :=
  match op with
  | 0x0B => some (.neg c e r)
  | 0x0C => some (.not c e r)
  | 0x2B => some (.jr c e r)
  | 0x30 => some (.par c e r)
  | 0x31 => some (.brev c e r)
  | 0x32 => some (.brevb c e r)
  | 0x33 => some (.crcb c e r)
  | 0x34 => some (.crcw c e r)
  | _ => none

/-- The instructions without operand bytes; RUN selects the run forms. -/
def plainOp (c : Core) (e : Enc) (op : Nat) (run : Bool) : Option Instr :=
  match op with
  | 0x00 => some (.nop c e)
  | 0x2A => some (.ret c e)
  | 0x2C => some (.reti c e)
  | 0x2D => some (.sleep c e)
  | 0x2E => some (.waitev c e)
  | 0x2F => some (.ckpt c e)
  | 0x38 => some (if run then .xcpyRun c e else .xcpy c e)
  | 0x39 => some (if run then .xfilRun c e else .xfil c e)
  | 0x3A => some (if run then .xcmpRun c e else .xcmp c e)
  | 0x3B => some (if run then .xfndRun c e else .xfnd c e)
  | 0x3C => some (if run then .xcrcRun c e else .xcrc c e)
  | _ => none

/-- The loads and stores. -/
def memOp (c : Core) (e : Enc) (op : Nat) (d s : GReg) (disp : Word) : Option Instr :=
  match op with
  | 0x20 => some (.ld c e d s disp)
  | 0x21 => some (.ldh c e d s disp)
  | 0x22 => some (.ldb c e d s disp)
  | 0x23 => some (.st c e d s disp)
  | 0x24 => some (.sth c e d s disp)
  | 0x25 => some (.stb c e d s disp)
  | _ => none

/-- MOV's operand byte (R218). -/
def movOp (c : Core) (e : Enc) (b : Nat) : Option Instr :=
  if b < 128 then (if b.testBit 3 then none else some (.mov c e (gregOf (b / 16)) (gregOf b)))
  else
    match specialOf (bitsOf b 3 3) with
    | none => none
    | some k =>
      if b.testBit 6 then (if k = .pcView then none else some (.movToSpecial c e k (gregOf b)))
      else some (.movFromSpecial c e (gregOf b) k)

/-- What an instruction found, or a reserved encoding at byte `n`. -/
def orIllegal (n : Nat) : Option Instr → Fetched
  | some i => .op i
  | none => .illegal n

/-- The field's bytes from byte `n` on, least significant first (R218), passed on as a sign-extended word. -/
def withField (at_ : Nat → ByteAt) (n size : Nat) (k : Word → Fetched) : (left : Nat) → (acc : Nat) → Fetched
  | 0, acc => k (sext (8 * size) acc)
  | left + 1, acc =>
    match at_ (n + (size - (left + 1))) with
    | .stall => .stall
    | .fault kind a => .fault kind a
    | .byte b => withField at_ n size k left (acc + b * 256 ^ (size - (left + 1)))

/-- Decoding an opcode and its operand bytes, the opcode being byte `n` (R218, R222). (DEDUCED, log 26) -/
def decodeOp (c : Core) (at_ : Nat → ByteAt) (p : Prefixes) (n op : Nat) : Fetched :=
  match fmtOf op with
  | none => .illegal n
  | some f =>
    if !prefixesOk p op f then .illegal n
    else
      let enc := fun (len : Nat) => ({ cond := condOf (p.cond.getD 0), len := len, noFlags := p.noFlags } : Enc)
      let size := (match f with
        | .none => 1 | .rr | .mov | .r | .c | .call => 2 | .ri | .m => 2 + p.imm | .b => 1 + p.imm)
      if 8 < n + size then .illegal n
      else if f = .none then orIllegal n (plainOp c (enc (n + 1)) op p.run)
      else if f = .b then withField at_ (n + 1) p.imm (fun v => .op (.br c (enc (n + 1 + p.imm)) v)) p.imm 0
      else
        match at_ (n + 1) with
        | .stall => .stall
        | .fault kind a => .fault kind a
        | .byte b =>
          let e := enc (n + 2)
          let rrBad := b.testBit 7 || b.testBit 3
          match f with
          | .rr => if rrBad then .illegal (n + 1) else orIllegal n (rrOp c e op (gregOf (b / 16)) (gregOf b))
          | .mov => orIllegal (n + 1) (movOp c e b)
          | .r => if 8 ≤ b then .illegal (n + 1) else orIllegal n (rOp c e op (gregOf b))
          | .c => if 8 ≤ b then .illegal (n + 1) else .op (.tstc c e (condOf b))
          | .ri =>
            if 8 ≤ b then .illegal (n + 1)
            else
              let e := enc (n + 2 + p.imm)
              let d := gregOf b
              withField at_ (n + 2) p.imm (fun v => .op (if op = 0x18 then .addi c e d v else .movi c e d v)) p.imm 0
          | .m =>
            if rrBad then .illegal (n + 1)
            else
              let e := enc (n + 2 + p.imm)
              withField at_ (n + 2) p.imm (fun v => orIllegal n (memOp c e op (gregOf (b / 16)) (gregOf b) v)) p.imm 0
          | _ =>
            if b < 8 then (if p.imm = 1 then .op (.callReg c e (gregOf b)) else .illegal (n + 1))
            else if b = 0x80 then
              if 8 < n + 2 + p.imm then .illegal (n + 1)
              else withField at_ (n + 2) p.imm (fun v => .op (.call c (enc (n + 2 + p.imm)) v)) p.imm 0
            else .illegal (n + 1)

/-- Decoding from byte `n` of the instruction on, with the prefixes before it (R216, R217, R222). -/
def decodeBytes (c : Core) (at_ : Nat → ByteAt) : (fuel : Nat) → (n : Nat) → Prefixes → Fetched
  | 0, n, _ => .illegal (n - 1)
  | fuel + 1, n, p =>
    match at_ n with
    | .stall => .stall
    | .fault kind a => .fault kind a
    | .byte b =>
      if 0xE0 ≤ b ∧ b < 0xE8 then
        if p.cond.isSome then .illegal n else decodeBytes c at_ fuel (n + 1) { p with cond := some (b - 0xE0) }
      else if b = 0xE8 ∨ b = 0xE9 then
        if p.imm ≠ 1 then .illegal n else decodeBytes c at_ fuel (n + 1) { p with imm := if b = 0xE8 then 2 else 4 }
      else if b = 0xEA then
        if p.noFlags then .illegal n else decodeBytes c at_ fuel (n + 1) { p with noFlags := true }
      else if b = 0xEB then
        if p.run then .illegal n else decodeBytes c at_ fuel (n + 1) { p with run := true }
      else decodeOp c at_ p n b

/-! ## Fetching -/

/-- The byte form is in use (R197, R220). -/
def byteForm (pc : Word) : Bool := pc.msb

/-- The address of word `w` of a core's program memory in its load window (R28, R240). -/
def progAddr (c w : Nat) : Nat := if c = 8 then 0x10080000 + 4 * (w % 4096) else 0x10000000 + 0x10000 * c + 4 * (w % 16384)

/-- A word of program memory: its value, or none where its parity fails (R31, R32). -/
def State.progWord (s : State) (c w : Nat) : Option Nat :=
  let a := progAddr c w
  if parityFails .groups (tget s.flips 0 a) = 0 then some ((s.mrd a 4 ^^^ s.hidden a 4) % 2 ^ 14) else none

/-- Whether a core may fetch byte-form code from an address (R221). -/
def fetchable (c a : Nat) : Bool := if c = 8 then 0x300000 ≤ a && a < 0x304000 else a < 0x100000

/-- A byte of byte-form code as the core finds it: in its fetch buffer, or for C8 in its own data memory (R221, R224, R240). -/
def State.codeByte (s : State) (c a : Nat) : ByteAt :=
  if !fetchable c a then .fault kindRegion a
  else if c = 8 then
    if (s.check a).2 then .fault (kindOf .ecc) a else .byte ((s.check a).1.mrd a 1)
  else
    match ((s.core c).fetched.find? fun b => b.1 = a / 8 * 8) with
    | none => .stall
    | some (_, l) => match l[a % 8]? with
      | some b => .byte b.toNat
      | none => .fault (kindOf .ecc) a

/-- What a core finds at its PC. (DESIGN CHOICE, log 22) -/
def State.fetchOf (s : State) (c : Core) : Fetched :=
  let pc := (s.core c).pc
  if byteForm pc then
    decodeBytes c (fun n => s.codeByte c ((pc.toNat + n) % 2 ^ 31)) 8 0 {}
  else
    let addr := fun n => (pc.toNat + n) % 16384
    decodeShort c (fun n => s.progWord c (addr n)) addr 3 []

end Sys2Proof.Machine
end

