-- ==== Sys2Proof/Machine/CaerOps.lean ====
section
/-! DEFINITION. How Caer sends: classes, the window of sequenced frames, routing along the line, mailboxes (R357–R361, R367). -/

namespace Sys2Proof.Machine

open Sys2Proof

/-- A link's state. -/
def State.link (s : State) (n : Nat) : LinkSt := tget s.caer.link {} n

/-- A link's state changed. -/
def State.modLink (s : State) (n : Nat) (f : LinkSt → LinkSt) : State :=
  { s with caer := { s.caer with link := tset {} s.caer.link n (f (s.link n)) } }

/-- This hub's number (R362). -/
def State.hub (s : State) : Nat := s.get CAER_ID CAER_ID_HUB

/-- The link is UP (R355). -/
def State.linkUp (s : State) (n : Nat) : Bool := n < s.nCaer && s.get (CAER_LINK_STAT n) CAER_LINK_STAT_STATE = 2

/-- Whether frames of a type are sequenced (R358). -/
def sequenced (typ : Nat) : Bool := 4 ≤ typ && typ ≤ 10

/-- The class of a frame type (R358). -/
def classOf (typ : Nat) : Nat := if typ < 4 then 1 else if typ < 9 then 2 else if typ = 9 then 3 else 4

/-- A frame leaves the port, carrying the acknowledgement of what has been received in order (R360). -/
def State.transmit (s : State) (n : Nat) (f : CFrame) : State :=
  s.modLink n fun x => { x with
    wire := x.wire ++ [{ f with ackseq := some ((x.expSeq + 4095) % 4096), resent := 0 }], ackDue := false }

/-- A sequenced frame gets the next LSEQ, is kept until its acknowledgement, and leaves (R360). -/
def State.sendSeq (s : State) (n : Nat) (f : CFrame) : State :=
  let f := { f with lseq := (s.link n).nextSeq }
  let s := s.modLink n fun x => { x with nextSeq := (x.nextSeq + 1) % 4096, unacked := x.unacked ++ [f] }
  s.transmit n f

/-- A frame is given to a link that is UP (R359, R360): a sequenced one waits while 16 are unacknowledged. A frame waits only then, so
that none that waits is overtaken. -/
def State.send (s : State) (n : Nat) (f : CFrame) : State :=
  if !sequenced f.typ then s.transmit n f
  else if (s.link n).unacked.length < 16 && (s.link n).waiting.isEmpty then s.sendSeq n f
  else s.modLink n fun x => { x with waiting := x.waiting ++ [f] }

/-- The waiting frame to send next: the lowest class, and within it the oldest (R359). -/
def nextFrame : List CFrame → Option CFrame
  | [] => none
  | f :: r =>
    match nextFrame r with
    | none => some f
    | some g => if classOf f.typ ≤ classOf g.typ then some f else some g

/-- The link to the partner (R371). -/
def State.plink (s : State) : Nat := s.get CAER_PAIR_CFG CAER_PAIR_CFG_PLINK

/-- A journal record in the send buffer belongs to a baseline (R420, R447). -/
def isBase (b : List Byte) : Bool := bitsOf (ofBytesLE (b.drop 4 |>.take 1)) 6 1 = 1

/-- The oldest record of the send buffer leaves as a JRNL frame; the JSEQ of a live one is the last sent (R373, R447). -/
def State.sendRecord (s : State) (n : Nat) (r : List Byte) (rest : List (List Byte)) : State :=
  let last := if isBase r then s.caer.lastLive else some (ofBytesLE (r.take 4))
  ({ s with caer := { s.caer with jbuf := rest, lastLive := last } }).sendSeq n { typ := 9, src := s.hub, payload := r }

/-- What a link sends next (R359): a waiting frame of class 2, then on the partner link a journal record, of class 3, then a waiting frame
of class 4. -/
def State.sendNext (s : State) (n : Nat) : Option State :=
  let f := nextFrame (s.link n).waiting
  let next := f.map fun f => (s.modLink n fun x => { x with waiting := x.waiting.erase f }).sendSeq n f
  match s.caer.jbuf with
  | r :: rest => if n = s.plink && (f.all fun f => 3 < classOf f.typ) then some (s.sendRecord n r rest) else next
  | [] => next

/-- What waits on an UP link leaves while the window has room (R359, R360, R373); `fuel` bounds it. -/
def State.pump (s : State) (n : Nat) : Nat → State
  | 0 => s
  | fuel + 1 =>
    if s.linkUp n && (s.link n).unacked.length < 16 then
      match s.sendNext n with
      | none => s
      | some t => t.pump n fuel
    else s

/-- An acknowledgement arrives on a link (R360): the frames up to the named one are delivered, and waiting ones follow. -/
def State.caerAcked (s : State) (n seq : Nat) : State :=
  if (s.link n).unacked.any (·.lseq = seq) then
    (s.modLink n fun x => { x with unacked := (x.unacked.dropWhile (·.lseq != seq)).drop 1 }).pump n 16
  else s

/-- Undeliverable: NODEST and source 195 (R361). -/
def State.noDest (s : State) : State := (s.set CAER_STATUS CAER_STATUS_NODEST 1).raise 195

/-- The direction of a hub: the link that CAER_DIR names, if any (R361). -/
def State.dirOf (s : State) (h : Nat) : Option Nat :=
  match bitsOf (s.rd CAER_DIR).toNat (2 * h) 2 with
  | 1 => some 0
  | 2 => some 1
  | _ => none

/-- A frame that this hub originates (R361): with BC = 1 on every UP link; a unicast one on the link of its direction, or with
the direction unknown on every UP link. (DEDUCED, log 44) (DESIGN CHOICE, log 47) -/
def State.originate (s : State) (f : CFrame) : State :=
  let f := { f with src := s.hub }
  let all := (List.range 2).filter s.linkUp
  let ls := if f.bc then all else
    match s.dirOf f.dst with
    | some n => if s.linkUp n then [n] else []
    | none => all
  if ls.isEmpty then (if f.bc then s else s.noDest)
  else ls.foldl (fun s n => s.send n f) s

/-- A received frame is relayed (R361): on the other link when it is broadcast, on the link of its direction or the other link
when it is unicast; HOPS rises by 1, and a frame with HOPS = 15 is not relayed. A unicast one that has no UP link onward sets NODEST. (DEDUCED, log 44) -/
def State.relay (s : State) (n : Nat) (f : CFrame) : State :=
  let m := if f.bc then 1 - n else (s.dirOf f.dst).getD (1 - n)
  if m = n || !s.linkUp m then (if f.bc then s else s.noDest)
  else if f.hops = 15 then s
  else s.send m { f with hops := f.hops + 1 }

/-- A word arrives in the mailbox of its sender (R367). -/
def State.mailbox (s : State) (src : Nat) (w : Word) : State :=
  let old := bitAt (s.rd CAER_MBOX_STAT) src
  let s := s.wr (CAER_MBOX src) w
  let s := if old then s.setBit CAER_MBOX_STAT (16 + src) true else s
  (s.setBit CAER_MBOX_STAT src true).raise 194

/-- A word is sent to a hub in a MSG frame; one for this hub goes to its own mailbox (R367). -/
def State.message (s : State) (h : Nat) (w : Word) : State :=
  if h = s.hub then s.mailbox h w
  else s.originate { typ := 5, src := s.hub, dst := h, payload := bytesLE 8 w.toNat }

/-- The value that an export entry names (R368): a channel's latest item, or a probe. -/
def State.exportValue (s : State) (sel : Nat) : Word :=
  if sel < 96 then (tget s.flt.post [] sel).head?.elim 0 (·.v) else s.rd (TEU_PROBE (sel - 96))

/-- The enabled peer exports send their values, in ascending order (R368). (DESIGN CHOICE, log 47) -/
def State.peerExport (s : State) : State :=
  (List.range 16).foldl (fun s j =>
    let w := s.rd (CAER_PEXP j)
    if fieldOf w CAER_PEXP_EN = 1 then
      s.originate { typ := 6, src := s.hub, bc := fieldOf w CAER_PEXP_BCAST = 1, dst := fieldOf w CAER_PEXP_DSTHUB
                    payload := bytesLE 4 (fieldOf w CAER_PEXP_IDX) ++ bytesLE 4 (s.exportValue (fieldOf w CAER_PEXP_SEL)).toNat }
    else s) s

end Sys2Proof.Machine
end

