-- ==== Sys2Proof/Machine/TimeTable.lean ====
section
/-! DEFINITION. The launch table: stores, commits, cancels, arming, and the suppression of commits that a replayed core makes
again (R314–R323, R443, R444). -/

namespace Sys2Proof.Machine

open Sys2Proof

/-- The code of a requester in a LAUNCH-COMMIT record (R421); CAER is 11. -/
def reqCode : Req → Nat
  | .core c => c
  | .dme => 9
  | .dbg => 10
  | .boot => 12

/-- TIME_LTERR records a KIND (R316): LTERR is set and source 14 raised. -/
def State.lterr (s : State) (kind i : Nat) : State :=
  let s := s.wr TIME_LTERR (BitVec.ofNat 32 (2 ^ 31 + 2 ^ 16 * kind + i % 1024))
  (s.set TIME_STATUS TIME_STATUS_LTERR 1).tRaise 14

/-- Whether an ACT mode argument carries no reserved encoding of ACT_OUT_CFG (R316). -/
def modeArgOk (arg : Nat) : Bool := bitsOf arg 12 2 != 3 && bitsOf arg 8 2 != 3

/-- Whether an action and its argument are allowed on this variant (R315, R316, R333). -/
def State.actionOk (s : State) (action arg : Nat) : Bool :=
  let t := action % 4096
  match action / 4096 with
  | 1 => t < s.nAct
  | 2 => t < s.nAct && arg ≤ 65536
  | 3 => t < s.nAct && modeArgOk arg
  | 4 | 5 | 6 | 7 | 9 => t = 0
  | 8 => t % 64 < 8
  | 10 => t < 16
  | 11 => t < 2 && arg * 2 ^ (32 * t) < 2 ^ s.nAct
  | _ => false

/-- Whether TIME accepts the commit of an entry (R316). -/
def State.accepts (s : State) (e : LEnt) : Bool :=
  s.actionOk e.action e.w2.toNat && e.policy != 3 && !(e.broadcast && e.per != 0)

/-- The LAUNCH frame of an entry (R366). -/
def LEnt.frame (e : LEnt) : CFrame :=
  { typ := 4, src := 0, bc := true
    payload := bytesLE 8 e.ns ++ bytesLE 4 e.w2.toNat ++ bytesLE 2 e.action ++
      bytesLE 2 (e.journal.toNat + 2 * e.policy + 8 * e.per) }

/-- An entry is armed (R316, R317, R323): it is late when less than its lead is left, and a broadcast one goes along the
line. -/
def State.arm (s : State) (i : Nat) : State :=
  let e := s.lent i
  let s := s.setL i { e with st := .armed, late := e.exec < s.time + e.lead, ran := false, given := false }
  if e.broadcast && s.fabric then s.originate e.frame else s

/-- The LAUNCH-COMMIT record of an entry (R421). -/
def LEnt.commitRec (e : LEnt) (i src : Nat) : Rec :=
  { kind := 1, src, argd := i, body := [e.seq.toNat, e.w0.toNat, e.w1.toNat, e.w2.toNat, e.w3.toNat ||| 2 ^ 31] }

/-- A commit of the words that an entry holds (R316): it is refused, or numbered and armed, or handed to JRN first. (DESIGN CHOICE, log 34) -/
def State.commitL (s : State) (i src : Nat) : State :=
  let e := s.lent i
  if !s.accepts e then (s.cfgErr TIME_STATUS).lterr 1 i
  else
    let e := { e with seq := s.rd TIME_SEQ, ran := false }
    let s := s.wr TIME_SEQ (s.rd TIME_SEQ + 1)
    if e.journal then (s.setL i { e with st := .pending }).hand (.launch i) [e.commitRec i src]
    else (s.setL i e).arm i

/-- The part of a written word 3 that an entry keeps: JOURNAL, BROADCAST, LATE, PER and ACTION (R314). -/
def w3Keep (v : Word) : Word := v &&& 0x7F00FFFF

/-- A store to word `w` of an entry as the table takes it (R316, R321). (DESIGN CHOICE, log 34) -/
def State.tableStore (s : State) (i src w : Nat) (v : Word) : State :=
  let e := s.lent i
  match w with
  | 0 | 1 | 2 =>
    if e.st = .free then
      s.setL i { e with w0 := if w = 0 then v else e.w0, w1 := if w = 1 then v else e.w1
                        w2 := if w = 2 then v else e.w2, ran := false }
    else s.lterr 2 i
  | _ =>
    if bitAt v 31 then
      if e.st = .free then (s.setL i { e with w3 := w3Keep v, ran := false }).commitL i src else s.lterr 2 i
    else
      match e.st with
      | .free => if e.ran then s.lterr 5 i else s.setL i { e with w3 := w3Keep v }
      | .pending => (s.doneRec i e 4).setL i { e with st := .free, late := false }
      | .armed => if e.due ≤ s.time then s.lterr 5 i else (s.doneRec i e 4).setL i { e with st := .free, late := false }
      | .dispatched => s.lterr 5 i

/-! ## JRN's answers -/

/-- JRN's answer to a LAUNCH-COMMIT record (R316, R321): the entry that still waits with that number is armed, or freed with
KIND 0x3. -/
def State.launchAnswer (s : State) (i : Nat) (g : Group) (ok : Bool) : State :=
  let e := s.lent i
  if e.st = .pending ∧ g.recs.head?.bind (·.body.head?) = some e.seq.toNat then
    if ok then s.arm i else (s.setL i { e with st := .free, late := false }).lterr 3 i
  else s

/-- The oldest answer to a LAUNCH-COMMIT record under way reaches TIME, and it is one for entry `i`. -/
def State.takeArm (s : State) (i : Nat) : State :=
  match takeAnswer (.launch i) s.jrn.acked with
  | none => s
  | some (a, l) => ({ s with jrn := { s.jrn with acked := l } }).launchAnswer i a.1 a.2

/-- What JRN has answered to launch entries is in TIME before anything that FAB sends there later (R23, R24). (DESIGN CHOICE, log 11) -/
def State.answersIn (s : State) : State :=
  s.jrn.acked.foldl (fun s a => match a.1.frm with | .launch i => s.takeArm i | _ => s) s

/-- What FAB has sent to TIME is there, and then what TIME has sent to the HIC, as a load of TIME finds them (R23, R24). (DESIGN CHOICE, log 11) -/
def State.throughTime (s : State) : State := s.answersIn.eventsIn .time

/-! ## The suppression lists (R443) -/

/-- The suppression list of a core. -/
def State.supList (s : State) (c : Nat) : List Rec := tget s.jrn.sup [] c

/-- The suppression list of a core replaced. -/
def State.setSup (s : State) (c : Nat) (l : List Rec) : State :=
  { s with jrn := { s.jrn with sup := tset [] s.jrn.sup c l } }

/-- The holding set of a core replaced. -/
def State.setHold (s : State) (c : Nat) (h : Option HoldSet) : State :=
  { s with jrn := { s.jrn with hold := tset none s.jrn.hold c h } }

/-- The held words of a core are stored into their entry, and the set ends (R443); FAB sends them behind JRN's answers (R23). (DESIGN CHOICE, log 11) -/
def State.flushHold (s : State) (c : Nat) : State :=
  match tget s.jrn.hold none c with
  | none => s
  | some h =>
    let st := fun (s : State) (p : Nat × Option Word) =>
      match p.2 with | some v => s.tableStore h.entry c p.1 v | none => s
    [(0, h.w0), (1, h.w1), (2, h.w2)].foldl st (s.setHold c none).answersIn

/-- The list of a core ends and its held words are stored (R443). -/
def State.dropList (s : State) (c : Nat) : State := (s.setSup c []).flushHold c

/-- A held word put into a set. -/
def HoldSet.put (h : HoldSet) (w : Nat) (v : Word) : HoldSet :=
  match w with
  | 0 => { h with w0 := some v }
  | 1 => { h with w1 := some v }
  | _ => { h with w2 := some v }

/-- A store to word 0, 1 or 2 by a core whose list is not empty (R443). -/
def State.holdStore (s : State) (c i w : Nat) (v : Word) : State :=
  match tget s.jrn.hold none c with
  | some h =>
    if h.entry = i then s.setHold c (some (h.put w v))
    else (s.flushHold c).setHold c (some ((HoldSet.mk i none none none).put w v))
  | none => s.setHold c (some ((HoldSet.mk i none none none).put w v))

/-- The words that a commit by a core would make: the held ones, else the entry's (R443). -/
def State.wouldCommit (s : State) (c i : Nat) (v : Word) : List Nat :=
  let e := s.lent i
  let h := match tget s.jrn.hold none c with
    | some h => if h.entry = i then h else HoldSet.mk i none none none
    | none => HoldSet.mk i none none none
  [(h.w0.getD e.w0).toNat, (h.w1.getD e.w1).toNat, (h.w2.getD e.w2).toNat, (w3Keep v).toNat ||| 2 ^ 31]

/-- A store of VALID = 1 to word 3 by a core whose list has the head `r` (R443, R444): it is absorbed, or the list is
discarded and the commit is an ordinary one. -/
def State.supCommit (s : State) (c i : Nat) (v : Word) (r : Rec) (rest : List Rec) : State :=
  if r.argd = i ∧ r.body.drop 1 = s.wouldCommit c i v then (s.setHold c none).setSup c rest
  else
    let s := (s.setBit JRN_SUP (8 + c) true).raise 213
    (s.dropList c).tableStore i c 3 v

/-- A store to a word of the launch table (R316, R443). Lists belong to C0–C7. -/
def State.launchStore (s : State) (r : Req) (i w : Nat) (v : Word) : State :=
  let s := s.answersIn
  match r with
  | .core c =>
    match s.supList c with
    | [] => s.tableStore i c w v
    | h :: rest =>
      if w < 3 then s.holdStore c i w v
      else if bitAt v 31 then s.supCommit c i v h rest
      else s.tableStore i c w v
  | _ => s.tableStore i (reqCode r) w v

/-- A store to word 0, 1 or 2 (R316, R443). -/
def execLaunchWordStore (r : Req) (i : LIx) (w : Fin 3) (v : Word) (s : State) : Host.Outcome State Fault Refusal :=
  .next (if s.fabric then s.allowed r (0x40088000 + 16 * i.val + 4 * w.val) (·.launchStore r i w v) else s)

/-- A store of VALID = 1 to word 3 (R316, R443). The command's word stands for it with that bit set. -/
def execLaunchCommit (r : Req) (i : LIx) (v : Word) (s : State) : Host.Outcome State Fault Refusal :=
  .next (if s.fabric then s.allowed r (0x4008800C + 16 * i.val) (·.launchStore r i 3 (v ||| 0x80000000)) else s)

/-- A store of VALID = 0 to word 3 (R321). The command's word stands for it with that bit clear. -/
def execLaunchCancel (r : Req) (i : LIx) (v : Word) (s : State) : Host.Outcome State Fault Refusal :=
  .next (if s.fabric then s.allowed r (0x4008800C + 16 * i.val) (·.launchStore r i 3 (v &&& 0x7FFFFFFF)) else s)

/-- JRN acknowledges or refuses a LAUNCH-COMMIT record (R316). -/
def execLaunchArm (i : LIx) (s : State) : Host.Outcome State Fault Refusal := .next (s.takeArm i)

/-! ## Broadcast entries (R323, R366) -/

/-- The entry in a LAUNCH frame from a hub (R366): BROADCAST = 0, RX = 1, ORIG set. -/
def receivedEntry (src : Nat) (time arg action flags : Nat) : LEnt :=
  { w0 := BitVec.ofNat 32 time, w1 := BitVec.ofNat 32 (time / 2 ^ 32), w2 := BitVec.ofNat 32 arg
    w3 := BitVec.ofNat 32 (bitsOf flags 0 1 * 2 ^ 30 + bitsOf flags 1 2 * 2 ^ 27 + bitsOf flags 3 3 * 2 ^ 24 +
      2 ^ 23 + src % 16 * 2 ^ 19 + action % 2 ^ 16) }

/-- A received entry goes to the lowest free index of the pool and is committed, or is dropped with KIND 0x4 or 0x1 (R323). -/
def State.receiveLaunch (s : State) (e : LEnt) : State :=
  let base := s.get TIME_BCPOOL TIME_BCPOOL_BASE
  let pool := (List.range (s.get TIME_BCPOOL TIME_BCPOOL_COUNT)).map (base + ·)
  match pool.find? fun i => (s.lent i).st = .free with
  | none => s.lterr 4 base
  | some i => if s.accepts e then (s.setL i e).commitL i 11 else (s.cfgErr TIME_STATUS).lterr 1 i

/-! ## Loading and freeing -/

/-- Every entry becomes free and no record is made (R431). -/
def State.freeTable (s : State) : State :=
  { s with tim := { s.tim with table := s.tim.table.filterMap fun p =>
      let e := { p.2 with st := .free, late := false, how := 0, given := false }
      if e = {} then none else some (p.1, e) } }

/-- TIME_FREE (R316): the entries with VALID = 0. -/
def State.freeEntries (s : State) : Nat := 1024 - (s.tim.table.filter fun p => p.2.st != .free).length

/-- Word `w` of an entry as it reads (R314). -/
def State.launchWord (s : State) (i w : Nat) : Word :=
  let e := s.lent i
  match w with
  | 0 => e.w0
  | 1 => e.w1
  | 2 => e.w2
  | _ => e.w3 ||| (if e.st = .free then 0 else 0x80000000) ||| (if e.st = .pending then 0x40000 else 0)

end Sys2Proof.Machine
end

