-- ==== Sys2Proof/Machine/Operands.lean ====
section
/-! DEFINITION. How a Dexgar core issues an instruction: registers and special registers, the PC in both forms, the fetch buffer,
conditions, and the precise faults (R179–R186, R197, R205, R210, R214–R230). -/

namespace Sys2Proof.Machine

open Sys2Proof

/-! ## Registers -/

/-- A special register as a read gives it (R180, R205). -/
def CoreSt.special (x : CoreSt) : Special → Word
  | .lr => x.lr
  | .flags => x.flags.setWidth 32
  | .vbase => x.vbase
  | .crcv => x.crcv
  | .crcp => x.crcp
  | .crcc => x.crcc.setWidth 32
  | .pcView => x.pc

/-- A special register written (R180, R205, R210). The reserved WIDTH leaves CRCC unchanged. -/
def CoreSt.putSpecial (x : CoreSt) (k : Special) (v : Word) : CoreSt :=
  match k with
  | .lr => { x with lr := v }
  | .flags => { x with flags := v.setWidth 7 }
  | .vbase => { x with vbase := v &&& 0x3E00 }
  | .crcv => { x with crcv := v }
  | .crcp => { x with crcp := v }
  | .crcc => if v.toNat % 4 = 3 then x else { x with crcc := v.setWidth 3 }
  | .pcView => x

/-! ## PC -/

/-- The address after the instruction's last word or byte, in the format of R220. -/
def nextPc (pc : Word) (len : Nat) : Word :=
  if byteForm pc then BitVec.ofNat 32 (2 ^ 31 + (pc.toNat + len) % 2 ^ 31) else BitVec.ofNat 32 ((pc.toNat + len) % 16384)

/-- A target from a 32-bit value (R197): a short-form word address, or a byte address with bit 31. -/
def targetOf (v : Word) : Word := if byteForm v then v else v &&& 0x3FFF

/-- A relative target (R196, R220). -/
def relPc (next off : Word) : Word :=
  if byteForm next then BitVec.ofNat 32 (2 ^ 31 + (next + off).toNat % 2 ^ 31) else (next + off) &&& 0x3FFF

/-- The byte address of a relative target in the byte form that lies at 2^31 or above (R220). -/
def relBeyond (next off : Word) : Option Nat :=
  let a := (next.toNat % 2 ^ 31 + off.toNat) % 2 ^ 32
  if byteForm next && 2 ^ 31 ≤ a then some a else none

/-! ## The fetch buffer (R224) -/

/-- Whether the buffer holds a block, or it has been requested. -/
def CoreSt.hasBlock (x : CoreSt) (b : Nat) : Bool := (x.fetched.any fun e => e.1 = b) || x.requested.contains b

/-- A request of a block that is neither held nor requested. -/
def CoreSt.ask (x : CoreSt) (b : Nat) : CoreSt :=
  if x.hasBlock b || !fetchable 0 b then x else { x with requested := x.requested ++ [b] }

/-- The block that an address in the format of R220 lies in. -/
def blockOf (pc : Word) : Nat := pc.toNat % 2 ^ 31 / 8 * 8

/-- A block becomes the most recently executed one. -/
def CoreSt.touch (x : CoreSt) (b : Nat) : CoreSt :=
  { x with fetched := (x.fetched.filter fun e => e.1 != b) ++ (x.fetched.filter fun e => e.1 = b) }

/-- C0–C7 execute an instruction of `len` bytes in the byte form: its blocks are the most recently executed ones. -/
def CoreSt.executes (x : CoreSt) (len : Nat) : CoreSt :=
  let b := blockOf x.pc
  let x := x.touch b
  if b ≠ blockOf (nextPc x.pc (len - 1)) then x.touch (b + 8) else x

/-- C0–C7 stand in the byte form: the block of the PC and the one after it are requested where the buffer does not hold them. (DEDUCED, log 25) -/
def CoreSt.want (x : CoreSt) (c : Nat) : CoreSt :=
  if byteForm x.pc && c != 8 then (x.ask (blockOf x.pc)).ask (blockOf x.pc + 8) else x

/-- The PC moves to another instruction. -/
def CoreSt.moveTo (x : CoreSt) (c : Nat) (pc : Word) : CoreSt := ({ x with pc := pc }).want c

/-- JR, CALL gs and RET take a core from the short form into the byte form: what the buffer held before is fetched again (R224). (DEDUCED, log 25) -/
def CoreSt.entering (x : CoreSt) (target : Word) : CoreSt :=
  if byteForm target && !byteForm x.pc then { x with fetched := [] } else x

/-! ## Faults (R229–R231) -/

/-- The FAULT record of a core (R421). -/
def State.faultRec (s : State) (c cause kind addr : Nat) : Rec :=
  { kind := 7, src := c, argd := cause + 256 * kind, body := [(s.core c).pc.toNat, addr] ++ nowWords s.time }

/-- The registers that record a fault (R230). -/
def State.faultRegs (s : State) (c cause kind addr : Nat) : State :=
  let s := s.wr (CORE_FAULT c) (BitVec.ofNat 32 (cause + 256 * kind))
  let s := s.wr (CORE_FLTPC c) (s.core c).pc
  s.wr (CORE_FLTADDR c) (BitVec.ofNat 32 addr)

/-- A fault of the core leads to a WARM reset (R231). -/
def State.escalates (s : State) (c : Nat) : Bool := c != 8 && bitAt (s.rd CORE_ESC) c

/-- A precise fault (R230, R231, R240, R443): the core stops, the fault is recorded, JRN gets a FAULT record, and a suppression
list of the core ends. -/
def State.coreFault (s : State) (c cause kind addr : Nat) : State :=
  let s := s.faultRegs c cause kind addr
  let s := if s.fabric then s.hand (.fault c (s.escalates c)) [s.faultRec c cause kind addr] else s
  if c = 8 then s else s.dropList c

/-- ILLEGAL (R214, R215). -/
def State.illegal (s : State) (c : Nat) : State := s.coreFault c 1 0 0

/-- BUS (R195). -/
def State.busFault (s : State) (c : Nat) (e : BusErr) (addr : Nat) : State := s.coreFault c 2 (kindOf e) addr

/-- FETCH (R229): a parity error, or an uncorrectable one in C8's data memory, is found by the memory, which reports it (R33). -/
def State.fetchFault (s : State) (c kind addr : Nat) : State :=
  let s := if kind = kindParity then (s.check (progAddr c addr)).1 else if c = 8 ∧ kind = 4 then (s.check addr).1 else s
  s.coreFault c 3 kind addr

/-! ## Issue -/

/-- The core stands at an instruction boundary and can execute. -/
def State.ready (s : State) (c : Nat) : Bool :=
  s.awake c && (s.core c).mode = .run && (s.core c).load = none

/-- What executing an instruction of the given length does to the fetch buffer; C8 reads its own memory. -/
def State.began (s : State) (c len : Nat) : State :=
  let pc := (s.core c).pc
  if !byteForm pc then s
  else if c = 8 then (List.range len).foldl (fun s n => (s.check ((pc.toNat + n) % 2 ^ 31)).1) s
  else s.modCore c fun x => x.executes len

/-- An instruction takes effect when the core can execute and finds exactly that instruction at its PC. A word or byte that
cannot be fetched intact raises FETCH instead (R229). (DESIGN CHOICE, log 2) (DESIGN CHOICE, log 22) -/
def State.issue (s : State) (c : Core) (len : Nat) (i : Instr) (k : State → State) : State :=
  if s.ready c then
    match s.fetchOf c with
    | .op j => if j = i then k (s.began c len) else s
    | .fault kind addr => s.fetchFault c kind addr
    | .illegal _ | .stall => s
  else s

/-- The PC moves past the instruction. -/
def State.advance (s : State) (c len : Nat) : State := s.modCore c fun x => x.moveTo c (nextPc x.pc len)

/-- After a transfer of control, a target that cannot be fetched intact raises FETCH (R221). (DESIGN CHOICE, log 22) -/
def State.landed (s : State) (c : Core) : State :=
  if s.ready c then
    match s.fetchOf c with
    | .fault kind addr => s.fetchFault c kind addr
    | _ => s
  else s

/-- An instruction whose condition gates it (R184): with a false condition it changes nothing but PC. (DESIGN CHOICE, log 22) -/
def State.gated (s : State) (c : Core) (e : Enc) (i : Instr) (k : State → State) : State :=
  s.issue c e.len i fun s => if holds (s.core c).flags e.cond then k s else s.advance c e.len

/-- NOFLAGS leaves FLAGS as they were (R217). -/
def keepFlags (e : Enc) (x y : CoreSt) : CoreSt := if e.noFlags then { y with flags := x.flags } else y

/-- An instruction that works on registers only. -/
def State.regOp (s : State) (c : Core) (e : Enc) (i : Instr) (f : CoreSt → CoreSt) : State :=
  s.gated c e i fun s => (s.modCore c fun x => keepFlags e x (f x)).advance c e.len

/-- A result written to a register with its flags. -/
def CoreSt.putAlu (x : CoreSt) (d : GReg) (a : Alu) : CoreSt := { x.setG d a.res with flags := a.flags }

end Sys2Proof.Machine
end

