-- ==== Sys2Proof/Machine/Cpu.lean ====
section
/-! DEFINITION. The Dexgar instructions that touch registers and control only (R187–R193, R196–R204, R205, R210–R214, R233). -/

namespace Sys2Proof.Machine

open Sys2Proof

/-- NOP (R187). -/
def execNop (c : Core) (e : Enc) (s : State) : Host.Outcome State Fault Refusal := .next (s.regOp c e (.nop c e) id)

/-- ADD (R188). -/
def execAdd (c : Core) (e : Enc) (d r : GReg) (s : State) : Host.Outcome State Fault Refusal :=
  .next (s.regOp c e (.add c e d r) fun x => x.putAlu d (aluAdd x.flags (x.gr d) (x.gr r) false))

/-- SUB (R188). -/
def execSub (c : Core) (e : Enc) (d r : GReg) (s : State) : Host.Outcome State Fault Refusal :=
  .next (s.regOp c e (.sub c e d r) fun x => x.putAlu d (aluSub x.flags (x.gr d) (x.gr r) true))

/-- ADC (R188). -/
def execAdc (c : Core) (e : Enc) (d r : GReg) (s : State) : Host.Outcome State Fault Refusal :=
  .next (s.regOp c e (.adc c e d r) fun x => x.putAlu d (aluAdd x.flags (x.gr d) (x.gr r) (flagAt x.flags 2)))

/-- SBC (R188). -/
def execSbc (c : Core) (e : Enc) (d r : GReg) (s : State) : Host.Outcome State Fault Refusal :=
  .next (s.regOp c e (.sbc c e d r) fun x => x.putAlu d (aluSub x.flags (x.gr d) (x.gr r) (flagAt x.flags 2)))

/-- AND (R192). -/
def execAnd (c : Core) (e : Enc) (d r : GReg) (s : State) : Host.Outcome State Fault Refusal :=
  .next (s.regOp c e (.and c e d r) fun x => x.putAlu d (aluLogic x.flags (x.gr d &&& x.gr r)))

/-- OR (R192). -/
def execOr (c : Core) (e : Enc) (d r : GReg) (s : State) : Host.Outcome State Fault Refusal :=
  .next (s.regOp c e (.or c e d r) fun x => x.putAlu d (aluLogic x.flags (x.gr d ||| x.gr r)))

/-- XOR (R192). -/
def execXor (c : Core) (e : Enc) (d r : GReg) (s : State) : Host.Outcome State Fault Refusal :=
  .next (s.regOp c e (.xor c e d r) fun x => x.putAlu d (aluLogic x.flags (x.gr d ^^^ x.gr r)))

/-- MOV between gather registers (R192). -/
def execMov (c : Core) (e : Enc) (d r : GReg) (s : State) : Host.Outcome State Fault Refusal :=
  .next (s.regOp c e (.mov c e d r) fun x => x.setG d (x.gr r))

/-- MOV from a special register (R205). -/
def execMovFromSpecial (c : Core) (e : Enc) (d : GReg) (k : Special) (s : State) : Host.Outcome State Fault Refusal :=
  .next (s.regOp c e (.movFromSpecial c e d k) fun x => x.setG d (x.special k))

/-- The unit status register that reports a core's CFGERR (R205, R240). -/
def cfgErrOfCore (c : Nat) : Nat := if c = 8 then OAS_STATUS else CORE_STATUS

/-- MOV to a special register (R205); the reserved WIDTH of CRCC sets CFGERR. -/
def execMovToSpecial (c : Core) (e : Enc) (k : Special) (r : GReg) (s : State) : Host.Outcome State Fault Refusal :=
  .next (s.gated c e (.movToSpecial c e k r) fun s =>
    let v := (s.core c).gr r
    let s := if k = .crcc ∧ v.toNat % 4 = 3 then s.set (cfgErrOfCore c) ⟨31, 1⟩ 1 else s
    (s.modCore c fun x => x.putSpecial k v).advance c e.len)

/-- CMP (R188). -/
def execCmp (c : Core) (e : Enc) (d r : GReg) (s : State) : Host.Outcome State Fault Refusal :=
  .next (s.regOp c e (.cmp c e d r) fun x => { x with flags := (aluSub x.flags (x.gr d) (x.gr r) true).flags })

/-- TST (R192). -/
def execTst (c : Core) (e : Enc) (d r : GReg) (s : State) : Host.Outcome State Fault Refusal :=
  .next (s.regOp c e (.tst c e d r) fun x => { x with flags := (aluLogic x.flags (x.gr d &&& x.gr r)).flags })

/-- NEG (R188). -/
def execNeg (c : Core) (e : Enc) (d : GReg) (s : State) : Host.Outcome State Fault Refusal :=
  .next (s.regOp c e (.neg c e d) fun x => x.putAlu d (aluSub x.flags 0 (x.gr d) true))

/-- NOT (R192). -/
def execNot (c : Core) (e : Enc) (d : GReg) (s : State) : Host.Outcome State Fault Refusal :=
  .next (s.regOp c e (.not c e d) fun x => x.putAlu d (aluLogic x.flags (~~~(x.gr d))))

/-- MUL (R189). -/
def execMul (c : Core) (e : Enc) (d r : GReg) (s : State) : Host.Outcome State Fault Refusal :=
  .next (s.regOp c e (.mul c e d r) fun x => x.putAlu d (aluMul x.flags (x.gr d) (x.gr r)))

/-- MULH (R189). -/
def execMulh (c : Core) (e : Enc) (d r : GReg) (s : State) : Host.Outcome State Fault Refusal :=
  .next (s.regOp c e (.mulh c e d r) fun x => x.putAlu d (aluMulh x.flags (x.gr d) (x.gr r)))

/-- MULHU (R189). -/
def execMulhu (c : Core) (e : Enc) (d r : GReg) (s : State) : Host.Outcome State Fault Refusal :=
  .next (s.regOp c e (.mulhu c e d r) fun x => x.putAlu d (aluMulhu x.flags (x.gr d) (x.gr r)))

/-- DIV (R190). -/
def execDiv (c : Core) (e : Enc) (d r : GReg) (s : State) : Host.Outcome State Fault Refusal :=
  .next (s.regOp c e (.div c e d r) fun x => x.putAlu d (aluDiv x.flags (x.gr d) (x.gr r)))

/-- DIVU (R190). -/
def execDivu (c : Core) (e : Enc) (d r : GReg) (s : State) : Host.Outcome State Fault Refusal :=
  .next (s.regOp c e (.divu c e d r) fun x => x.putAlu d (aluDivu x.flags (x.gr d) (x.gr r)))

/-- REM (R190). -/
def execRem (c : Core) (e : Enc) (d r : GReg) (s : State) : Host.Outcome State Fault Refusal :=
  .next (s.regOp c e (.rem c e d r) fun x => x.putAlu d (aluRem x.flags (x.gr d) (x.gr r)))

/-- REMU (R190). -/
def execRemu (c : Core) (e : Enc) (d r : GReg) (s : State) : Host.Outcome State Fault Refusal :=
  .next (s.regOp c e (.remu c e d r) fun x => x.putAlu d (aluRemu x.flags (x.gr d) (x.gr r)))

/-- SHL (R191). -/
def execShl (c : Core) (e : Enc) (d r : GReg) (s : State) : Host.Outcome State Fault Refusal :=
  .next (s.regOp c e (.shl c e d r) fun x => x.putAlu d (aluShl x.flags (x.gr d) (x.gr r)))

/-- SHR (R191). -/
def execShr (c : Core) (e : Enc) (d r : GReg) (s : State) : Host.Outcome State Fault Refusal :=
  .next (s.regOp c e (.shr c e d r) fun x => x.putAlu d (aluShr x.flags (x.gr d) (x.gr r)))

/-- SAR (R191). -/
def execSar (c : Core) (e : Enc) (d r : GReg) (s : State) : Host.Outcome State Fault Refusal :=
  .next (s.regOp c e (.sar c e d r) fun x => x.putAlu d (aluSar x.flags (x.gr d) (x.gr r)))

/-- ROR (R191). -/
def execRor (c : Core) (e : Enc) (d r : GReg) (s : State) : Host.Outcome State Fault Refusal :=
  .next (s.regOp c e (.ror c e d r) fun x => x.putAlu d (aluRor x.flags (x.gr d) (x.gr r)))

/-- ADDI (R185, R188). -/
def execAddi (c : Core) (e : Enc) (d : GReg) (imm : Word) (s : State) : Host.Outcome State Fault Refusal :=
  .next (s.regOp c e (.addi c e d imm) fun x => x.putAlu d (aluAdd x.flags (x.gr d) imm false))

/-- MOVI (R185). -/
def execMovi (c : Core) (e : Enc) (d : GReg) (imm : Word) (s : State) : Host.Outcome State Fault Refusal :=
  .next (s.regOp c e (.movi c e d imm) fun x => x.setG d imm)

/-- PAR (R212). -/
def execPar (c : Core) (e : Enc) (d : GReg) (s : State) : Host.Outcome State Fault Refusal :=
  .next (s.regOp c e (.par c e d) fun x => x.putAlu d (aluLogic x.flags (parityOf (x.gr d))))

/-- BREV (R212). -/
def execBrev (c : Core) (e : Enc) (d : GReg) (s : State) : Host.Outcome State Fault Refusal :=
  .next (s.regOp c e (.brev c e d) fun x => x.putAlu d (aluLogic x.flags (brevOf (x.gr d))))

/-- BREVB (R212). -/
def execBrevb (c : Core) (e : Enc) (d : GReg) (s : State) : Host.Outcome State Fault Refusal :=
  .next (s.regOp c e (.brevb c e d) fun x => x.putAlu d (aluLogic x.flags (brevbOf (x.gr d))))

/-- CRC steps on bytes, by the core's CRC registers (R211). -/
def CoreSt.crc (x : CoreSt) (l : List Byte) : CoreSt := { x with crcv := crcBytes x.crcc x.crcp x.crcv l }

/-- CRCB (R211). -/
def execCrcb (c : Core) (e : Enc) (r : GReg) (s : State) : Host.Outcome State Fault Refusal :=
  .next (s.regOp c e (.crcb c e r) fun x => x.crc (bytesLE 1 (x.gr r).toNat))

/-- CRCW (R211). -/
def execCrcw (c : Core) (e : Enc) (r : GReg) (s : State) : Host.Outcome State Fault Refusal :=
  .next (s.regOp c e (.crcw c e r) fun x => x.crc (bytesLE 4 (x.gr r).toNat))

/-- TSTC (R204). -/
def execTstc (c : Core) (e : Enc) (t : Cond) (s : State) : Host.Outcome State Fault Refusal :=
  .next (s.regOp c e (.tstc c e t) fun x => { x with flags := putFlag x.flags 4 (holds x.flags t) })

/-! ## Control transfer -/

/-- A transfer of control of a core, with what it writes besides. -/
def State.jump (s : State) (c : Core) (f : CoreSt → CoreSt) (target : CoreSt → Word) : State :=
  (s.modCore c fun x => (f x).moveTo c (target x)).landed c

/-- A relative transfer in the byte form wraps modulo 2^32 (R220): a target at 2^31 or above completes the transfer and lies in no
region, so that the fault falls on it (R221). PC holds the 31 bits that the format of R220 has. -/
def State.jumpRel (s : State) (c : Core) (e : Enc) (off : Word) (f : CoreSt → CoreSt) : State :=
  let next := nextPc (s.core c).pc e.len
  match relBeyond next off with
  | none => s.jump c f fun _ => relPc next off
  | some a => (s.modCore c fun x => { f x with pc := relPc next off }).fetchFault c kindRegion a

/-- BR (R196, R220). -/
def execBr (c : Core) (e : Enc) (off : Word) (s : State) : Host.Outcome State Fault Refusal :=
  .next (s.gated c e (.br c e off) fun s => s.jumpRel c e off id)

/-- Relative CALL (R196, R197, R220). -/
def execCall (c : Core) (e : Enc) (off : Word) (s : State) : Host.Outcome State Fault Refusal :=
  .next (s.gated c e (.call c e off) fun s => s.jumpRel c e off fun x => { x with lr := nextPc x.pc e.len })

/-- CALL gs (R197). -/
def execCallReg (c : Core) (e : Enc) (r : GReg) (s : State) : Host.Outcome State Fault Refusal :=
  .next (s.gated c e (.callReg c e r) fun s =>
    s.jump c (fun x => { x.entering (targetOf (x.gr r)) with lr := nextPc x.pc e.len }) fun x => targetOf (x.gr r))

/-- RET (R197). -/
def execRet (c : Core) (e : Enc) (s : State) : Host.Outcome State Fault Refusal :=
  .next (s.gated c e (.ret c e) fun s => s.jump c (fun x => x.entering (targetOf x.lr)) fun x => targetOf x.lr)

/-- JR (R197). -/
def execJr (c : Core) (e : Enc) (r : GReg) (s : State) : Host.Outcome State Fault Refusal :=
  .next (s.gated c e (.jr c e r) fun s => s.jump c (fun x => x.entering (targetOf (x.gr r))) fun x => targetOf (x.gr r))

/-- RETI (R200, R251): PC and FLAGS return to the saved values, and the claim's completion sets out for the HIC. Outside a
handler it is ILLEGAL. -/
def execReti (c : Core) (e : Enc) (s : State) : Host.Outcome State Fault Refusal :=
  .next (s.gated c e (.reti c e) fun s =>
    if (s.core c).inHandler then
      (s.modHc c fun h => { h with done := true }).jump c
        (fun x => { x with flags := x.savedFlags, inHandler := false }) fun x => x.savedPc
    else s.illegal c)

/-- SLEEP (R201); in a handler it is ILLEGAL. -/
def execSleep (c : Core) (e : Enc) (s : State) : Host.Outcome State Fault Refusal :=
  .next (s.gated c e (.sleep c e) fun s =>
    if (s.core c).inHandler then s.illegal c
    else s.modCore c fun x => { x with mode := .sleep, next := nextPc x.pc e.len })

/-- WAITEV (R202). -/
def execWaitev (c : Core) (e : Enc) (s : State) : Host.Outcome State Fault Refusal :=
  .next (s.gated c e (.waitev c e) fun s =>
    if (s.core c).latch then (s.modCore c fun x => { x with latch := false }).advance c e.len
    else s.modCore c fun x => { x with mode := .waitev, next := nextPc x.pc e.len })

/-- The latch of a core that waits in WAITEV is set: it clears it and continues (R202). -/
def execWaitevResume (c : Core) (s : State) : Host.Outcome State Fault Refusal :=
  .next (if s.awake c ∧ (s.core c).mode = .waitev ∧ (s.core c).latch then
    s.modCore c fun x => ({ x with latch := false, mode := .run }).moveTo c x.next
  else s)

/-- The CKPT record of a core (R233, R421): ARGD is CKCNT after the commit. -/
def State.ckptRec (s : State) (c : Nat) (next : Word) : Rec :=
  let x := s.core c
  { kind := 5, src := c, argd := (s.get (CORE_INFO c) CORE_INFO_CKCNT + 1) % 2 ^ 16
    body := (List.range 8).map (fun r => (x.gr r).toNat) ++
      [x.lr.toNat, x.crcv.toNat, x.crcp.toNat, next.toNat,
        x.flags.toNat + bitsOf x.vbase.toNat 9 5 * 2 ^ 7 + x.crcc.toNat * 2 ^ 12] }

/-- CKPT (R233, R234, R240): in a handler it captures nothing and sets CKPTSKIP; on C8 it changes nothing. -/
def execCkpt (c : Core) (e : Enc) (s : State) : Host.Outcome State Fault Refusal :=
  .next (s.gated c e (.ckpt c e) fun s =>
    if c.val = 8 then s.advance c e.len
    else if (s.core c).inHandler then (s.set (CORE_INFO c) CORE_INFO_CKPTSKIP 1).advance c e.len
    else
      let next := nextPc (s.core c).pc e.len
      (s.modCore c fun x => { x with mode := .ckpt, next := next }).hand (.ckpt c) [s.ckptRec c next])

/-- A core reaches a reserved encoding, whose word or byte `n` breaks the rules (R214). (DESIGN CHOICE, log 22) -/
def execReservedEncoding (c : Core) (n : Nat) (s : State) : Host.Outcome State Fault Refusal :=
  .next (if s.ready c then
    match s.fetchOf c with
    | .illegal m => if m = n then s.illegal c else s
    | .fault kind addr => s.fetchFault c kind addr
    | .op _ | .stall => s
  else s)

end Sys2Proof.Machine
end

