-- ==== Sys2Proof/Machine/Time.lean ====
section
/-! DEFINITION. The TIME counter and its steps, the servo and its states (R305–R313). -/

namespace Sys2Proof.Machine

open Sys2Proof

/-- The latch of TIME_NOW that a requester uses (R306): C0–C8, DME, the debug and service port. -/
def latchIx : Req → Nat
  | .core c => c
  | .dme => 9
  | .dbg => 10
  | .boot => 11

/-- A load of TIME_NOW0 (R306): the counter is captured for the requester, and NS returned. -/
def State.capture (s : State) (r : Req) : State :=
  ({ s with tim := { s.tim with latch := tset 0 s.tim.latch (latchIx r) s.time } }).answer (nsOf s.time)

/-- A load of TIME_NOW0 (R306). -/
def execTimeCapture (r : Req) (s : State) : Host.Outcome State Fault Refusal :=
  .next (if s.fabric then s.throughTime.capture r else s)

/-- The counter's modulus: SEC has 48 bits (R305). -/
def timeModulus : Nat := 2 ^ 48 * secTicks

/-- A step by a number of ticks, already a multiple of 125 (R307): STEPPED, source 13, source 15 once when a second boundary is
crossed; a forward step makes the entries it jumps over late (R319), and after a backward step armed entries wait for their tick; PWM
cycles and mains timestamps follow. -/
def State.stepTicks (s : State) (d : Int) : State :=
  let old := s.time
  let t := (((old : Int) + d) % (timeModulus : Int)).toNat
  let s := { s with time := t, tim := { s.tim with adj := s.tim.adj + d, steps := s.tim.steps + 1 } }
  let s := (s.set TIME_STATUS TIME_STATUS_STEPPED 1).tRaise 13
  let s := if secOf old = secOf t then s else ({ s with tim := { s.tim with sec := secOf t } }).tRaise 15
  let s := s.stepLate old t
  let s := if old < t then s.tableAt t else s
  s.actStep d

/-- A step by an amount in units of 1/32 ns, rounded to the nearest whole multiple of 488.28125 ns, which is 15,625 units and
125 ticks (R307). An amount of whole nanoseconds is never midway. -/
def State.stepBy (s : State) (n : Int) : State := s.stepTicks (125 * roundHalfUp n 15625)

/-- SET = 1 in TIME_CTL (R307): a step to TIME_SET0–2, rounded. -/
def State.counterSet (s : State) : State :=
  let sec := (s.rd TIME_SET1).toNat + 2 ^ 32 * s.get TIME_SET2 TIME_SET2_SECHI
  let target : Int := 32 * (sec * 1000000000 + (s.rd TIME_SET0).toNat : Nat)
  s.stepBy (target - (125 * s.time : Nat))

/-- SET = 1 (R307), behind JRN's answers (R23). -/
def execCounterSet (s : State) : Host.Outcome State Fault Refusal := .next (if s.fabric then s.answersIn.counterSet else s)

/-- A write to TIME_STEPNS (R307): signed nanoseconds, behind JRN's answers (R23). -/
def execCounterStep (v : Word) (s : State) : Host.Outcome State Fault Refusal :=
  .next (if s.fabric then s.answersIn.stepBy (32 * v.toInt) else s)

/-- HOLD (R320). Where it is cleared, nothing of a COLD resume is left to clear it (R445). (DEDUCED, log 62) -/
def State.setHOLD (s : State) (b : Bool) : State :=
  let s := s.set TIME_CTL TIME_CTL_HOLD b.toNat
  if b then s else { s with jrn := { s.jrn with coldHold := false } }

/-- A write of HOLD (R320), behind JRN's answers (R23). The entries that became late are then executable, each in its own step. -/
def execHoldWrite (b : Bool) (s : State) : Host.Outcome State Fault Refusal := .next (if s.fabric then s.answersIn.setHOLD b else s)

/-! ## The servo (R308–R311) -/

/-- The servo's limit of 200,000 ppb, in units of 2^-20 ppb. -/
def ppbLimit : Int := 200000 * 2 ^ 20

/-- The trim put to a value, and TIME_SRV_FREQ with it in units of 1/256 ppb; a finer trim is shown rounded in a direction that
the spec does not state. It takes effect on PLL_T, whose control word is frozen while REFOK is 0 (R79, R309). (DESIGN CHOICE, log 36) -/
def State.setTrim (s : State) (x : Int) : State :=
  let q := x.fdiv 4096
  let r := if x % 4096 = 0 then (s, q) else (s.free.2, q + (s.free.1.toNat % 2 : Nat))
  let pll := if s.flag SYS_STATUS SYS_STATUS_REFOK then x else s.tim.pll
  let s := { r.1 with tim := { r.1.tim with trim := x, pll := pll } }
  s.wr TIME_SRV_FREQ (BitVec.ofInt 32 r.2)

/-- STATE of the servo (R310): 0 FREE, 1 LOCKING, 2 LOCKED, 3 HOLDOVER. -/
def State.servo (s : State) : Nat := s.get TIME_SRV_STAT TIME_SRV_STAT_STATE

/-- The servo enters a state. -/
def State.setServo (s : State) (k : Nat) : State := s.set TIME_SRV_STAT TIME_SRV_STAT_STATE k

/-- The servo enters HOLDOVER (R310): source 11, and the trim is held at i. (DESIGN CHOICE, log 36) -/
def State.holdover (s : State) : State :=
  if s.servo = 3 then s
  else
    let s := (s.setServo 3).tRaise 11
    let s := { s with tim := { s.tim with good := 0 } }
    s.setTrim s.tim.i

/-- The servo reaches LOCKED (R310): source 12; after a COLD resume it is the moment that HOLD clears (R445). -/
def State.locked (s : State) : State :=
  let s := (s.setServo 2).tRaise 12
  if s.jrn.coldHold then s.setHOLD false else s

/-- The servo's state after a sample of `o` in 1/16 ns (R310). (DESIGN CHOICE, log 36) -/
def State.servoNext (s : State) (o : Int) : State :=
  let thr : Int := (16 * s.get TIME_SRV_CFG TIME_SRV_CFG_LOCKTHR : Nat)
  let a : Int := o.natAbs
  let good := if a < thr then s.tim.good + 1 else 0
  let s := { s with tim := { s.tim with good := min 8 good } }
  match s.servo with
  | 0 | 3 => s.setServo 1
  | 1 => if 8 ≤ good then s.locked else s
  | _ => if 4 * thr ≤ a then s.setServo 1 else s

/-- An offset sample in 1/16 ns (R309, R310). (DESIGN CHOICE, log 36) -/
def State.sample (s : State) (o : Int) : State :=
  let s := s.wr TIME_SRV_LAST (BitVec.ofInt 32 o)
  let s := s.set TIME_STATUS TIME_STATUS_AOHOLD 0
  let steps := (16000 * s.get TIME_SRV_CFG TIME_SRV_CFG_STEPTHR : Nat) ≤ o.natAbs
  let k := if steps then roundHalfUp (2 * o) 15625 else 0
  let s := if steps then s.stepTicks (-125 * k) else s
  let rest := 2 * o - 15625 * k
  let i0 := s.tim.i
  let i := clampInt (-ppbLimit) ppbLimit (i0 - rest * 2 ^ (15 - s.get TIME_SRV_CFG TIME_SRV_CFG_KI))
  let s := { s with tim := { s.tim with i := i } }
  let s := s.setTrim (clampInt (-ppbLimit) ppbLimit (i - rest * 2 ^ (15 - s.get TIME_SRV_CFG TIME_SRV_CFG_KP)))
  s.servoNext o

/-- The first sample that crosses from a link, and the others. -/
def takeSample (n : Nat) : List (Nat × Word) → Option (Word × List (Nat × Word))
  | [] => none
  | (m, o) :: r =>
    if m = n then some (o, r) else (takeSample n r).map fun x => (x.1, (m, o) :: x.2)

/-- An offset sample reaches the servo (R308, R309): a write to TIME_SRV_OFFS while SRC is 0b01, or the sample of the link that
SRC selects; any other is ignored. -/
def execServoSample (frm : SampleFrom) (o : Word) (s : State) : Host.Outcome State Fault Refusal :=
  let src := s.get TIME_SRV_CFG TIME_SRV_CFG_SRC
  match frm with
  | .firmware => .next (if s.fabric ∧ src = 1 then s.sample o.toInt else s)
  | .caer n =>
    match takeSample n s.tim.samples with
    | some (x, rest) =>
      if x = o then
        let s := { s with tim := { s.tim with samples := rest } }
        .next (if src = 2 + n.val then s.sample o.toInt else s)
      else .next s
    | none => .next s

/-- A write to TIME_SRV_FREQ (R309): i and the trim are loaded, limited to ±200 ppm. -/
def execServoFreqLoad (v : Word) (s : State) : Host.Outcome State Fault Refusal :=
  if s.fabric then
    let x := clampInt (-ppbLimit) ppbLimit (4096 * v.toInt)
    .next (({ s with tim := { s.tim with i := x } }).setTrim x)
  else .next s

/-- No sample has arrived for HOTIME ms (R310). -/
def execHoldoverTimeout (s : State) : Host.Outcome State Fault Refusal :=
  .next (if s.pow.pllT ∧ (s.servo = 1 ∨ s.servo = 2) then s.holdover else s)

/-- A plant second begins (R305, R325, R334): the one whose boundary has been passed, or the next one at its boundary. -/
def execSecondBoundary (s : State) : Host.Outcome State Fault Refusal :=
  if s.pow.pllT then
    let s := if secOf s.time ≤ s.tim.sec then s.passTo ((secOf s.time + 1) * secTicks) else s
    let s := { s with tim := { s.tim with sec := secOf s.time } }
    .next ((s.tRaise 15).gensApply)
  else .next s

/-! ## Register stores with an effect of their own -/

/-- A store to TIME_SRV_CFG: SRC written 0b00 frees the servo (R310). -/
def State.srvCfgStore (s : State) (v : Word) : State :=
  let s := s.storeReg TIME_SRV_CFG v
  if s.get TIME_SRV_CFG TIME_SRV_CFG_SRC = 0 then
    ({ s with tim := { s.tim with good := 0 } }).setServo 0
  else s

/-- A store to TIME_BCPOOL: a pool that ends above entry 1,024 leaves the register unchanged and sets CFGERR. -/
def State.bcpoolStore (s : State) (v : Word) : State :=
  if 1024 < fieldOf v TIME_BCPOOL_BASE + fieldOf v TIME_BCPOOL_COUNT then s.cfgErr TIME_BCPOOL else s.storeReg TIME_BCPOOL v

/-- A store to TIME_STATUS: V in TIME_LTERR is cleared with LTERR. -/
def State.timeStatusStore (s : State) (v : Word) : State :=
  let s := s.storeReg TIME_STATUS v
  if bitAt v 0 then s.set TIME_LTERR TIME_LTERR_V 0 else s

end Sys2Proof.Machine
end

