-- ==== Sys2Proof/Machine/Cluster.lean ====
section
/-! DEFINITION. The core cluster: running and clocking a core, checkpoint answers, block fetches, program-memory windows,
watchdog counts, doorbells and event latches (R224, R228, R232–R242). -/

namespace Sys2Proof.Machine

open Sys2Proof

/-! ## Fetch and program memory -/

/-- Eight bytes of shared SRAM that a block request reads; none where the word is uncorrectable (R31). (DEDUCED, log 25) -/
def State.blockBytes (s : State) (b : Nat) : State × List Byte :=
  let r := s.memLoad b 8
  (r.1, if r.2.2 then [] else bytesLE 8 r.2.1)

/-- A block enters the fetch buffer and replaces the least recently executed one (R224). (DEDUCED, log 25) (DESIGN CHOICE, log 77) -/
def CoreSt.putBlock (x : CoreSt) (b : Nat) (l : List Byte) : CoreSt :=
  let held := x.fetched.filter fun e => e.1 != b
  let held := if 4 ≤ held.length then held.drop 1 else held
  { x with fetched := held ++ [(b, l)], requested := x.requested.erase b }

/-- A requested block arrives (R224); a core that waits for it and finds a word it cannot fetch intact raises FETCH. -/
def execFetchBlockArrival (c : Core) (block : Word) (s : State) : Host.Outcome State Fault Refusal :=
  let b := block.toNat
  .next (if s.fabric ∧ b ∈ (s.core c).requested then
    let r := s.blockBytes b
    (r.1.modCore c fun x => (x.putBlock b r.2).want c).landed c
  else s)

/-- A store through a program-memory load window (R228): only while the core has RUN = 0 or is stopped on a fault. (DESIGN CHOICE, log 79) -/
def State.progStore (s : State) (c w : Nat) (v : Word) : State :=
  if s.running c then s.set CORE_STATUS CORE_STATUS_PMWR 1
  else (s.memStore (progAddr c w) 4 (v.toNat % 2 ^ 14)).1

/-- A store through a load window (R228). Words of C8 alias modulo 4,096 words. -/
def execProgramWindowStore (r : Req) (c : Core) (w : BitVec 14) (v : Word) (s : State) : Host.Outcome State Fault Refusal :=
  .next (if !s.hasCore c then s.absentHit
    else if s.fabric ∨ c.val = 8 then s.allowed r (progAddr c w.toNat) (·.progStore c w.toNat v) else s)

/-! ## Running a core -/

/-- START of a core (R238, R242). -/
def State.startPc (s : State) (c : Nat) : Word := targetOf (s.rd (CORE_START c))

/-- RUN written (R238): a core that has not started since its reset starts at CORE_START; a core stopped in SLEEP or WAITEV
executes that word again. -/
def State.runWrite (s : State) (c : Nat) (run : Bool) : State :=
  if !s.hasCore c then s
  else
    let s := s.set (CORE_CTL c) CORE_CTL_RUN run.toNat
    if run then
      let s := if (s.core c).started then s
        else s.modCore c fun x => { x.moveTo c (s.startPc c) with started := true }
      s.settle
    else s.modCore c fun x => if x.mode = .sleep ∨ x.mode = .waitev then { x with mode := .run } else x

/-- A write of RUN (R238). -/
def execCoreRun (c : Core) (run : Bool) (s : State) : Host.Outcome State Fault Refusal :=
  .next (if s.fabric ∨ c.val = 8 then s.runWrite c run else s)

/-- CLRFLT on a core that is stopped on a fault (R232): the fault record clears, handler state and claim end, PC is loaded from
CORE_START. (DEDUCED, log 26) -/
def State.clearFault (s : State) (c : Nat) : State :=
  if s.hasCore c && s.faulted c then
    let s := s.wr (CORE_FAULT c) 0
    let s := s.modCore c fun x => { x.moveTo c (s.startPc c) with inHandler := false, mode := .run, load := none }
    let s := if c = 8 then { s with pow := { s.pow with watchClaim := none, watchGrant := none, watchAccept := false } } else s
    s.complete c
  else s

/-- CLRFLT (R232). -/
def execCoreClrflt (c : Core) (s : State) : Host.Outcome State Fault Refusal :=
  .next (if s.fabric ∨ c.val = 8 then s.clearFault c else s)

/-- DIV (R239): 24 to 240; any other value leaves it unchanged and sets CFGERR. -/
def State.divWrite (s : State) (c : Nat) (div : Nat) : State :=
  if !s.hasCore c then s
  else if 24 ≤ div ∧ div ≤ 240 then s.set (CORE_CTL c) CORE_CTL_DIV div
  else s.cfgErr CORE_STATUS

/-- A write of DIV (R239). -/
def execCoreDiv (c : Fin 8) (div : Byte) (s : State) : Host.Outcome State Fault Refusal :=
  .next (if s.fabric then s.divWrite c div.toNat else s)

/-- A store to CORE_CTL[c], or to OAS_C8_CTL, which has no DIV (R232, R238, R239). -/
def State.coreCtlStore (s : State) (c : Nat) (v : Word) : State :=
  let s := if c = 8 then s else s.divWrite c (fieldOf v CORE_CTL_DIV)
  let s := if fieldOf v CORE_CTL_CLRFLT = 1 then s.clearFault c else s
  s.runWrite c (fieldOf v CORE_CTL_RUN = 1)

/-! ## Checkpoints -/

/-- The queue marks of a committed checkpoint move, or its queues set QMFAIL (R436). -/
def State.ckptMarks (s : State) (c : Nat) (ok : Bool) : State :=
  (List.range 64).foldl (fun s q =>
    match (s.qst q).ck.find? fun p => p.1 = c with
    | none => s
    | some p =>
      let s := s.setQ q { s.qst q with ck := (s.qst q).ck.filter fun p => p.1 != c }
      if ok then (if s.qlive q then s.moveMark q p.2 else s) else s.set (QM_Q_FLAGS q) QM_Q_FLAGS_QMFAIL 1) s

/-- JRN's answer to a checkpoint (R234, R436, R443): CKCNT rises and a suppression list ends, or CKPTFAIL is set; the core
continues. -/
def State.ckptAnswer (s : State) (c : Nat) (ok : Bool) : State :=
  let s := s.ckptMarks c ok
  let s := if ok then
      let s := s.bump (CORE_INFO c) CORE_INFO_CKCNT 1
      let s := if (s.supList c).isEmpty then s else (s.setBit JRN_SUP (8 + c) true).raise 213
      s.dropList c
    else s.set (CORE_INFO c) CORE_INFO_CKPTFAIL 1
  s.modCore c fun x => ({ x with mode := .run }).moveTo c x.next

/-- JRN acknowledges or refuses the checkpoint (R234). -/
def execCkptAck (c : Core) (s : State) : Host.Outcome State Fault Refusal :=
  match takeAnswer (.ckpt c) s.jrn.acked with
  | none => .next s
  | some (a, l) =>
    if (s.core c).mode = .ckpt then .next ((({ s with jrn := { s.jrn with acked := l } }).ckptAnswer c a.2).settle)
    else .next s

/-! ## Watchdogs (R235, R240) -/

/-- TIMEOUT of a core's watchdog. -/
def State.wdTimeout (s : State) (c : Nat) : Nat := s.get (CORE_WDOG c) CORE_WDOG_TIMEOUT

/-- A core's watchdog runs. -/
def State.wdOn (s : State) (c : Nat) : Bool := s.hasCore c && s.flag (CORE_WDOG c) CORE_WDOG_EN

/-- WDWARN when the count reaches half the timeout. (DEDUCED, log 26) -/
def State.wdWarn (s : State) (c : Nat) : State :=
  if (s.core c).wd = s.wdTimeout c / 2 then s.set (CORE_INFO c) CORE_INFO_WDWARN 1 else s

/-- The count restarts from 0. -/
def State.wdRestart (s : State) (c : Nat) : State := (s.modCore c fun x => { x with wd := 0 }).wdWarn c

/-- EN set: the watchdog starts, and stays on (R235). -/
def State.wdEnable (s : State) (c : Nat) : State :=
  if s.hasCore c && !s.wdOn c then (s.set (CORE_WDOG c) CORE_WDOG_EN 1).wdRestart c else s

/-- Setting EN in CORE_WDOG (R235). -/
def execWatchdogEnable (c : Core) (s : State) : Host.Outcome State Fault Refusal :=
  .next (if s.fabric ∨ c.val = 8 then s.wdEnable c else s)

/-- A store to CORE_WDOG (R235): TIMEOUT is written only while EN is 0, and a TIMEOUT of 0 sets CFGERR. (DEDUCED, log 26) -/
def State.wdogStore (s : State) (c : Nat) (v : Word) : State :=
  let t := fieldOf v CORE_WDOG_TIMEOUT
  let s := if !s.hasCore c || s.wdOn c then s
    else if t = 0 then s.set (cfgErrOfCore c) ⟨31, 1⟩ 1
    else s.set (CORE_WDOG c) CORE_WDOG_TIMEOUT t
  if fieldOf v CORE_WDOG_EN = 1 then s.wdEnable c else s

/-- A write to CORE_WDKICK (R235). -/
def State.wdKick (s : State) (c : Nat) (v : Word) : State :=
  if !s.hasCore c then s
  else if fieldOf v CORE_WDKICK_KEY = 0x7E1A then (if s.wdOn c then s.wdRestart c else s)
  else s.set (CORE_INFO c) CORE_INFO_WDBADKEY 1

/-- A write to CORE_WDKICK (R235). -/
def execWatchdogKick (c : Core) (v : Word) (s : State) : Host.Outcome State Fault Refusal :=
  .next (if s.fabric ∨ c.val = 8 then s.wdKick c v else s)

/-- A watchdog counts: it runs, and the debug port does not hold its core. -/
def State.wdCounts (s : State) (c : Nat) : Bool := s.wdOn c && !(s.core c).held

/-- The next strobe takes the watchdog's count to its timeout. -/
def State.wdBites (s : State) (c : Nat) : Bool := s.wdCounts c && s.wdTimeout c ≤ (s.core c).wd + 1

/-- A watchdog's count rises by 1. -/
def State.wdAdvance (s : State) (c : Nat) : State :=
  if s.wdCounts c then (s.modCore c fun x => { x with wd := x.wd + 1 }).wdWarn c else s

/-- The counts of C0–C7 clear to 0, as NAP does to them (R235). -/
def State.wdClear (s : State) : State := (List.range 8).foldl (fun s c => s.modCore c fun x => { x with wd := 0 }) s

/-! ## Doorbells and event latches (R236, R237) -/

/-- A write to CORE_DBELL_SET (R236). -/
def execDoorbellRing (v : Word) (s : State) : Host.Outcome State Fault Refusal :=
  .next (if s.fabric then s.ring (v.toNat % 2 ^ 16) else s)

/-- A write to CORE_DBELL_CLR (R236). -/
def State.dbellClear (s : State) (v : Word) : State :=
  let old := s.get CORE_DBELL_SET CORE_DBELL_SET_RING
  s.set CORE_DBELL_SET CORE_DBELL_SET_RING (old - (old &&& v.toNat % 2 ^ 16))

/-- A write to CORE_DBELL_CLR (R236). -/
def execDoorbellClear (v : Word) (s : State) : Host.Outcome State Fault Refusal :=
  .next (if s.fabric then s.dbellClear v else s)

/-- A write to CORE_EVSET (R237). -/
def execEventSet (v : Word) (s : State) : Host.Outcome State Fault Refusal :=
  .next (if s.fabric then s.setLatches (v.toNat % 2 ^ 9) else s)

end Sys2Proof.Machine
end

