-- ==== Sys2Proof/Machine/Jrn.lean ====
section
/-! DEFINITION. The journal's records, lines and index: how groups come in, how lines reach the store, what the index keeps, and
the partner ring (R420–R430, R446–R450). -/

namespace Sys2Proof.Machine

open Sys2Proof

/-! ## Records (R420, R421) -/

/-- The record has 64 bytes. -/
def Rec.long (r : Rec) : Bool := r.kind = 1 || r.kind = 4 || r.kind = 5 || r.kind = 7 || r.kind = 6 && r.src = 1

/-- The bytes of a record with its JSEQ, MORE and BASE (R420). -/
def Rec.bytes (r : Rec) (jseq : Nat) (more base : Bool) : List Byte :=
  let n := if r.long then 13 else 1
  let head := r.kind + 2 ^ 4 * r.long.toNat + 2 ^ 5 * more.toNat + 2 ^ 6 * base.toNat + 2 ^ 8 * (r.src % 256) +
    2 ^ 16 * (r.argd % 2 ^ 16)
  let b := bytesLE 4 jseq ++ bytesLE 4 head ++ (List.range n).flatMap fun i => bytesLE 4 (r.body.getD i 0)
  b ++ bytesLE 4 (crc32c b).toNat

/-- The records of a group with their JSEQ and MORE bits (R422). -/
def groupBytes (first : Nat) (base : Bool) : List Rec → List (List Byte)
  | [] => []
  | r :: l => r.bytes (first % 2 ^ 32) (!l.isEmpty) base :: groupBytes (first + 1) base l

/-- The next JSEQ. -/
def State.jseq (s : State) : Nat := (s.rd JRN_JSEQ).toNat

/-! ## Lines in staging (R425) -/

/-- A record put behind the newest line: 16-byte records share a line, a 64-byte one fills one, and a partly filled line before
it is filled with 0xFF. -/
def putRecord : List (List Byte) → List Byte → List (List Byte)
  | [], b => [b]
  | [l], b =>
    if b.length = 64 then (if l.length < 64 then [l ++ List.replicate (64 - l.length) 0xFF, b] else [l, b])
    else if l.length < 64 then [l ++ b] else [l, b]
  | l :: r, b => l :: putRecord r b

/-- The slots of the staging SRAM: 32 KiB in lines of 64 bytes (R31). -/
def stageSlots : Nat := 512

/-- The byte offset in the staging SRAM of byte `i` of unflushed line `k`. (DEDUCED, log 58) -/
def JrnSt.offset (j : JrnSt) (k i : Nat) : Nat := (j.base + k) % stageSlots * 64 + i

/-- The words of the lines that were not there before are written whole, with fresh check bits (R33). -/
def JrnSt.renew (j : JrnSt) (old : List (List Byte)) : JrnSt :=
  let offs := (List.range j.lines.length).flatMap fun k =>
    let n := (old.getD k []).length
    (List.range (((j.lines.getD k []).length - n) / 4)).map fun i => j.offset k (n + 4 * i)
  { j with flips := offs.foldl tdel j.flips }

/-- A record goes into staging. A line written early that still has room takes a 16-byte record, and is then unflushed again. (DEDUCED, log 58) -/
def JrnSt.stage (j : JrnSt) (b : List Byte) : JrnSt :=
  match j.tail with
  | some (at_, l) =>
    let j := { j with tail := none }
    if b.length < 64 then
      { j with partialAt := some at_, base := (j.base + stageSlots - 1) % stageSlots, lines := [l ++ b] }.renew [l]
    else { j with lines := [b] }.renew []
  | none => { j with lines := putRecord j.lines b }.renew j.lines

/-- A word of the staging SRAM is read (R31, R33, R471): an error that can be corrected is corrected, written back and counted; one that
cannot is counted, recorded with the word's byte offset and reported, and the word comes as it stands. (DEDUCED, log 58) -/
def State.stageWord (s : State) (off w : Nat) : State × Nat :=
  let e := tget s.jrn.flips 0 off
  let put := fun (s : State) (e : Nat) => { s with jrn := { s.jrn with flips := tset 0 s.jrn.flips off e } }
  if e = 0 then (s, w)
  else match judge 32 (syndromeOf 32 e) with
    | .clean => (s, w ^^^ dataError 32 e)
    | .single pos =>
      let r := e ^^^ 2 ^ pos
      ((put s r).eccCorr, w ^^^ dataError 32 r)
    | .bad => (s.eccBad 8 off (syndromeOf 32 e), w ^^^ dataError 32 e)

/-- The oldest unflushed line is read from the staging SRAM, word by word from its byte `i` on. -/
def State.stageLine (s : State) (i : Nat) : List Byte → State × List Byte
  | a :: b :: c :: d :: l =>
    let r := s.stageWord (s.jrn.offset 0 i) (ofBytesLE [a, b, c, d])
    let q := r.1.stageLine (i + 4) l
    (q.1, bytesLE 4 r.2 ++ q.2)
  | l => (s, l)

/-! ## The index (R429) -/

/-- What a group adds to the index, with the JSEQ of its first record. A checkpoint ends the list of launch commits that follow
the one before it (R442). (DEDUCED, log 57) -/
def JrnSt.index (j : JrnSt) (first : Nat) (g : List Rec) : JrnSt :=
  match g with
  | [] => j
  | r :: l =>
    let qm := fun (j : JrnSt) (first : Nat) (r : Rec) => { j with qmarks := tset none j.qmarks r.src (some (first, r)) }
    match r.kind with
    | 1 =>
      let j := { j with launches := tset none j.launches r.argd (some (first, r)) }
      if r.src < 8 then { j with since := tset [] j.since r.src (tget j.since [] r.src ++ [r]) } else j
    | 3 => qm j first r
    | 4 => { j with dmas := tset none j.dmas r.src (some (first, r)) }
    | 5 =>
      let j := { j with ckpts := tset none j.ckpts r.src (some (first, g)), since := tset [] j.since r.src [] }
      ((List.range l.length).zip l).foldl (fun j p => qm j (first + 1 + p.1) p.2) j
    | 6 => { j with snap := some (first, g) }
    | _ => j

/-- A committed group in the index (R423, R429). An earlier epoch's is no part of it (R428) but for the launch commits, which a baseline
names (R447). (DESIGN CHOICE, log 59) -/
def JrnSt.take (j : JrnSt) (first : Nat) (g : List Rec) : JrnSt :=
  if j.stale ≠ 0 then { j with launches := (j.index first g).launches, stale := j.stale - 1 } else j.index first g

/-- The index with nothing in it. (DESIGN CHOICE, log 59) -/
def JrnSt.noIndex (j : JrnSt) : JrnSt :=
  { j with ckpts := [], qmarks := [], dmas := [], snap := none, launches := [], since := [], stepIn := [], stepsSince := 0 }


/-- A new epoch (R428): the control line names the image's SEQ and the JSEQ of the epoch's first record. The launch commits of armed
entries stay for a baseline (R447). (DESIGN CHOICE, log 59) -/
def State.newEpoch (s : State) (seq : Nat) : State :=
  { s with jrn := { s.jrn.noIndex with
      launches := s.jrn.launches, epoch := some (seq, s.jseq), written := [], stale := s.jrn.toAck.length } }

/-! ## Taking records in (R422–R424, R436, R442) -/

/-- The queues that a core's checkpoint commits (R436): named in JRN_CKQ0 or JRN_CKQ1, with MEN and JRNEN 1. -/
def State.ckQueues (s : State) (c : Nat) : List Nat :=
  (List.range 64).filter fun q =>
    bitAt (s.rd (if q < 32 then JRN_CKQ0 c else JRN_CKQ1 c)) (q % 32) && s.qlive q &&
      s.flag (QM_Q_CFG q) QM_Q_CFG_MEN && s.flag (QM_Q_CFG q) QM_Q_CFG_JRNEN

/-- A group on its arrival in JRN: a checkpoint takes the QMARK of each bound queue with it, at the queue's RD now (R436). -/
def State.arrived (s : State) (g : Group) : State × Group :=
  match g.frm with
  | .ckpt c =>
    let qs := s.ckQueues c
    (qs.foldl (fun s q => s.setQ q { s.qst q with ck := (s.qst q).ck ++ [(c, (s.qst q).rd)] }) s,
      { g with recs := g.recs ++ qs.map fun q => s.qmarkRec q (s.qst q).rd })
  | _ => (s, g)

/-- A kind is enabled (R424): FAULT and LCS-EVENT always are. -/
def State.kindOn (s : State) (k : Nat) : Bool := 6 < k || bitAt (s.rd JRN_POLICY) k

/-- FAULT and LCS-EVENT records are never refused (R424). -/
def Group.sure (g : Group) : Bool := g.recs.all fun r => 6 < r.kind

/-- The launch commits of a core that wait in staging for their acknowledgement. (DEDUCED, log 57) -/
def JrnSt.waiting (j : JrnSt) (c : Nat) : Nat :=
  (j.toAck.flatMap fun g => g.2.recs.filter fun r => r.kind = 1 && r.src = c).length

/-- A core's launch commit that the limit of R442 forbids. -/
def State.listFull (s : State) (g : Group) : Option Nat :=
  match g.frm, g.recs with
  | .launch _, r :: _ =>
    if r.src < 8 ∧ 32 ≤ (tget s.jrn.since [] r.src).length + s.jrn.waiting r.src then some r.src else none
  | _, _ => none

/-- The refusal of a group (R424): REFUSED and source 213; the requester hears of it. -/
def State.refuse (s : State) (g : Group) : State :=
  let s := (s.set JRN_STATUS JRN_STATUS_REFUSED 1).raise 213
  let s := match s.listFull g with | some c => s.setBit JRN_SUP (16 + c) true | none => s
  match g.frm with
  | .launch _ | .qmark _ | .ckpt _ => { s with jrn := { s.jrn with acked := s.jrn.acked ++ [(g, false)] } }
  | .dma k => s.set (DME_CH_STAT k) DME_CH_STAT_PTFAIL 1
  | .snap => ({ s with teu := { s.teu with snapBusy := false } }).set TEU_STATUS TEU_STATUS_SNAPSKIP 1
  | .launchDone | .fault .. | .lcs => s

/-- The group goes into staging as one unit, with the next sequence numbers (R422, R423). (DEDUCED, log 57) -/
def State.accept (s : State) (g : Group) (j : JrnSt) : State :=
  let first := s.jseq
  { s.wr JRN_JSEQ (BitVec.ofNat 32 (first + g.recs.length)) with
    jrn := { j with toAck := j.toAck ++ [(first, g)] } }

/-- A group arrives in JRN (R424). One that raises the count of unflushed lines too far is refused; a FAULT or LCS-EVENT record, and during
the PFAIL_N flush any record, may raise it to 64, and waits where it may not (R427). (DEDUCED, log 57) -/
def State.submit (s : State) (g : Group) (rest : List Group) : State :=
  let was := s
  let r := s.arrived g
  let s := { r.1 with jrn := { r.1.jrn with handed := rest } }
  let g := { r.2 with events := 0 }
  let j := (groupBytes s.jseq false g.recs).foldl JrnSt.stage s.jrn
  let sure := g.sure || s.pow.flushing
  let fits := j.lines.length ≤ max s.jrn.lines.length (if sure then 64 else 54)
  if (g.recs.all fun r => s.kindOn r.kind) && (s.listFull g).isNone then
    if fits then s.accept g j else if sure then was else s.refuse g
  else s.refuse g

/-- The oldest group on its way arrives in JRN (R424), behind the events that its island had sent (R23). -/
def execRecordSubmit (s : State) : Host.Outcome State Fault Refusal :=
  let x := s.eventsAhead
  match x.jrn.handed with
  | g :: rest => .next (if s.fabric then x.submit g rest else s)
  | [] => .next s

/-! ## Acknowledgement and the stream to the partner (R373, R423, R447) -/

/-- The pair's state (R371): 0 NONE, 1 WAIT, 2 PAIRED, 3 FAILED, 4 LOST, 5 TAKING, 6 TAKEN. -/
def State.pair (s : State) : Nat := s.get CAER_PAIR_STAT CAER_PAIR_STAT_STATE

/-- A committed record goes to the pair link's send buffer of 4 KiB, or is not sent (R373). (DESIGN CHOICE, log 60) -/
def State.stream (s : State) (b : List Byte) : State :=
  let used := ((s.caer.jbuf.filter fun l => !isBase l).map List.length).foldl (· + ·) 0
  if used + b.length ≤ 4096 then { s with caer := { s.caer with jbuf := s.caer.jbuf ++ [b] } }
  else (({ s with caer := { s.caer with gap := true } }).set CAER_STATUS CAER_STATUS_STREAMGAP 1).raise 195

/-- The committed records of a group are streamed while the hub is PAIRED (R373). -/
def State.streamAll (s : State) (first : Nat) (g : Group) : State :=
  if s.pair = 2 then
    ((groupBytes first false g.recs).foldl State.stream s).pump s.plink 16
  else s

/-- A group is committed (R423): it goes into the index. -/
def State.commitGroup (s : State) (first : Nat) (g : Group) : State :=
  let j := s.jrn.take first g.recs
  { s with jrn := if g.frm = .snap ∧ s.jrn.stale = 0 then { j with stepsSince := s.teu.after } else j }

/-- JRN acknowledges the oldest group in staging (R423): it is committed, and its requester hears of it. (DEDUCED, log 57) -/
def execRecordAck (s : State) : Host.Outcome State Fault Refusal :=
  match s.jrn.toAck with
  | (first, g) :: rest =>
    if s.fabric then
      let s := (({ s with jrn := { s.jrn with toAck := rest } }).commitGroup first g).streamAll first g
      .next (match g.frm with
        | .launch _ | .qmark _ | .ckpt _ => { s with jrn := { s.jrn with acked := s.jrn.acked ++ [(g, true)] } }
        | .fault _ esc => if esc then { s with jrn := { s.jrn with acked := s.jrn.acked ++ [(g, true)] } } else s
        | .snap => { s with teu := { s.teu with snapBusy := false } }
        | .launchDone | .dma _ | .lcs => s)
    else .next s
  | [] => .next s

/-! ## The store (R425–R427) -/

/-- The lines of the store: the control line is 16,383 (R426). -/
def controlLine : Nat := 16383

/-- The end of the own ring: the partner ring begins there (R426). -/
def State.ringEnd (s : State) : Nat := controlLine - s.get JRN_PCFG JRN_PCFG_PLINES

/-- The first usable line of the own ring at or after `l`; `fuel` bounds the search. -/
def State.goodFrom (s : State) (l : Nat) : (fuel : Nat) → Nat
  | 0 => l
  | fuel + 1 => if l ∈ s.jrn.bad ∧ l + 1 < s.ringEnd then s.goodFrom (l + 1) fuel else l

/-- The next line of the own ring to be written (R426). -/
def State.nextLine (s : State) : Nat :=
  let lo := s.boot.ret.lines
  let l := if lo ≤ s.jrn.head ∧ s.jrn.head < s.ringEnd then s.jrn.head else lo
  let l := s.goodFrom l (s.jrn.bad.length + 1)
  if l ∈ s.jrn.bad then s.goodFrom lo (s.jrn.bad.length + 1) else l

/-- A line as the store holds it: what is not written stays erased. -/
def fullLine (l : List Byte) : List Byte := l ++ List.replicate (64 - l.length) 0xFF

/-- The flush engine reads the oldest unflushed line and takes it: to where it was written early, or to the next line of the ring. (DEDUCED, log 58) -/
def State.startWrite (s : State) (l : List Byte) : State :=
  let at_ := s.jrn.partialAt.getD s.nextLine
  let s := if s.jrn.partialAt.isSome then s
    else { s with jrn := { s.jrn with head := if at_ + 1 < s.ringEnd then at_ + 1 else s.boot.ret.lines } }
  let r := s.stageLine 0 l
  ({ r.1 with jrn := { r.1.jrn with writing := some (at_, r.2) } }).set JRN_STATUS JRN_STATUS_FLUSHBUSY 1

/-- A line is in the store. -/
def JrnSt.stored (j : JrnSt) (at_ : Nat) (l : List Byte) : JrnSt :=
  { j with store := tset [] j.store at_ (fullLine l), written := (j.written.filter (· != at_)) ++ [at_] }

/-- The write of a line ends well (R425): a line that grew meanwhile stays unflushed, to be written again in the same place. (DEDUCED, log 58) -/
def JrnSt.wroteOk (j : JrnSt) (at_ : Nat) (l : List Byte) : JrnSt :=
  let j := { (j.stored at_ l) with writing := none }
  match j.lines with
  | [] => j
  | m :: rest =>
    if m.length ≠ l.length then { j with partialAt := some at_ }
    else { j with
      lines := rest, base := (j.base + 1) % stageSlots, partialAt := none
      tail := if rest.isEmpty ∧ m.length < 64 then some (at_, m) else none }

/-- The flush engine runs: not in a COLD reset. -/
def State.aoOn (s : State) : Bool := s.pow.phase != .cold

/-- A full line's write begins (R425). -/
def execLineWrite (s : State) : Host.Outcome State Fault Refusal :=
  match s.jrn.lines with
  | l :: _ => .next (if s.aoOn ∧ s.jrn.writing.isNone ∧ l.length = 64 then s.startWrite l else s)
  | [] => .next s

/-- FLUSHIDLE ms after its last record a partly filled line's write begins (R425). -/
def execFlushIdleTimeout (s : State) : Host.Outcome State Fault Refusal :=
  match s.jrn.lines with
  | l :: _ => .next (if s.aoOn ∧ s.jrn.writing.isNone ∧ l.length < 64 then s.startWrite l else s)
  | [] => .next s

/-- A line goes into the bad-line map (R425): nothing that it holds, as from an early write, is used any more. -/
def JrnSt.spoil (j : JrnSt) (at_ : Nat) : JrnSt :=
  { j with bad := j.bad ++ [at_], written := j.written.filter (· != at_), partialAt := none, tail := none }

/-- A line's write and verify end (R425). A line that fails goes into the bad-line map, and its contents to the next line. -/
def execLineWriteDone (ok : Bool) (s : State) : Host.Outcome State Fault Refusal :=
  match s.jrn.writing with
  | some (at_, l) =>
    if s.aoOn then
      let s := s.set JRN_STATUS JRN_STATUS_FLUSHBUSY 0
      if ok then .next { s with jrn := s.jrn.wroteOk at_ l }
      else
        let s := { s with jrn := { s.jrn.spoil at_ with writing := none } }
        let s := s.set JRN_STATUS JRN_STATUS_NVFAULT 1
        .next (if s.fabric then s.raise 215 else s)
    else .next s
  | none => .next s

/-- Every unflushed line is written (R427). (DEDUCED, log 58) -/
def State.flushLines (s : State) : (fuel : Nat) → State
  | 0 => s
  | fuel + 1 =>
    match s.jrn.lines with
    | [] => s
    | l :: _ =>
      let s := match s.jrn.writing with | some _ => s | none => s.startWrite l
      match s.jrn.writing with
      | some (at_, l) => ({ s with jrn := s.jrn.wroteOk at_ l }).flushLines fuel
      | none => s

/-- The PFAIL_N flush has written every unflushed line, and FLUSHED is set (R75, R427). -/
def execFlushComplete (s : State) : Host.Outcome State Fault Refusal :=
  if s.pow.flushing ∧ s.aoOn then
    let s := (s.flushLines 130).set JRN_STATUS JRN_STATUS_FLUSHBUSY 0
    .next (({ s with pow := { s.pow with flushing := false } }).set SYS_STATUS SYS_STATUS_FLUSHED 1)
  else .next s

/-! ## Reading lines (R449) -/

/-- A store to JRN_RDCTL (R449): GO starts a read of the line. -/
def State.rdctlStore (s : State) (v : Word) : State :=
  let s := s.storeReg JRN_RDCTL v
  if fieldOf v JRN_RDCTL_GO = 1 ∧ s.jrn.reading.isNone then
    ({ s with jrn := { s.jrn with reading := some (s.get JRN_RDCTL JRN_RDCTL_LINE) } }).set JRN_RDCTL JRN_RDCTL_BUSY 1
  else s

/-- A write of JRN_RDCTL (R449). -/
def execLineRead (v : Word) (s : State) : Host.Outcome State Fault Refusal := .next (if s.fabric then s.rdctlStore v else s)

/-- A line of the store; an unlisted one is erased. (DESIGN CHOICE, log 59) -/
def State.lineAt (s : State) (l : Nat) : List Byte :=
  match tget s.jrn.store [] l with
  | [] => List.replicate 64 0xFF
  | b => b

/-- The read of a line ends (R449): the data, or ERR; source 215 for a bad line or a failed read. What the control line's bytes
are, the spec does not say. (DESIGN CHOICE, log 59) -/
def State.lineDone (s : State) (l : Nat) (crcOk : Bool) : State :=
  let s := ({ s with jrn := { s.jrn with reading := none } }).set JRN_RDCTL JRN_RDCTL_BUSY 0
  if l < s.boot.ret.lines then s.set JRN_RDCTL JRN_RDCTL_ERR 1
  else if l ∈ s.jrn.bad || !crcOk then (s.set JRN_RDCTL JRN_RDCTL_ERR 1).raise 215
  else if l = controlLine then
    (List.range 16).foldl (fun s k => s.free.2.wr (JRN_RDDATA k) s.free.1) (s.set JRN_RDCTL JRN_RDCTL_ERR 0)
  else
    let b := s.lineAt l
    (List.range 16).foldl (fun s k => s.wr (JRN_RDDATA k) (BitVec.ofNat 32 (ofBytesLE (b.drop (4 * k) |>.take 4))))
      (s.set JRN_RDCTL JRN_RDCTL_ERR 0)

/-! ## The partner ring (R446–R448) -/

/-- The next line of the partner ring after `l`, bad lines left out. -/
def State.pNext (s : State) (l : Nat) : (fuel : Nat) → Nat
  | 0 => l
  | fuel + 1 =>
    let n := if l + 1 < controlLine then l + 1 else s.ringEnd
    if n ∈ s.jrn.bad then s.pNext n fuel else n

/-- Where the partner ring begins: at its first line that is not bad. (DESIGN CHOICE, log 60) -/
def State.pFirst (s : State) : Nat :=
  if s.ringEnd ∈ s.jrn.bad then s.pNext s.ringEnd (s.jrn.bad.length + 1) else s.ringEnd

/-- The flush engine lets go of the lines from `n` on, which leave the own ring: what lay written there early, or was being written
there, is dropped there and written anew in the own ring, and a flushed line there takes no further record. (DEDUCED, log 58) -/
def JrnSt.leave (j : JrnSt) (n : Nat) : JrnSt :=
  { j with
    partialAt := j.partialAt.filter (· < n), tail := j.tail.filter (·.1 < n), writing := j.writing.filter (·.1 < n) }

/-- A write to JRN_PCFG (R426, R446): the ring is cleared, or the write refused. (DESIGN CHOICE, log 60) -/
def State.pcfgStore (s : State) (v : Word) : State :=
  let n := fieldOf v JRN_PCFG_PLINES
  if !s.mirrors then s
  else if controlLine < n + s.boot.ret.lines + 1024 then s.cfgErr JRN_PCFG
  else
    let old := s.ringEnd
    let s := s.set JRN_PCFG JRN_PCFG_PLINES n
    let s := { s with jrn := { s.jrn.leave s.ringEnd with
        pLine := [], pLast := none, pBad := false, written := s.jrn.written.filter (· < s.ringEnd)
        store := s.jrn.store.filter fun e => e.1 < min old s.ringEnd || e.1 = controlLine } }
    let s := s.set JRN_STATUS JRN_STATUS_FLUSHBUSY s.jrn.writing.isSome.toNat
    let s := (s.set JRN_PSTAT JRN_PSTAT_FROZEN 0).set JRN_PSTAT JRN_PSTAT_PVALID 0
    (s.set JRN_PSTAT JRN_PSTAT_BASELINE 0).set JRN_PSTAT JRN_PSTAT_PHEAD s.pFirst

/-- A write to JRN_PCFG (R446). -/
def execPartnerRingConfig (v : Word) (s : State) : Host.Outcome State Fault Refusal :=
  .next (if s.fabric then s.pcfgStore v else s)

/-- A line of the partner ring is written as far as it is filled; a full one ends. -/
def State.pWrite (s : State) (b : List Byte) : State :=
  let at_ := s.get JRN_PSTAT JRN_PSTAT_PHEAD
  let s := { s with jrn := { s.jrn with store := tset [] s.jrn.store at_ (fullLine b), pLine := b } }
  if b.length < 64 then s
  else ({ s with jrn := { s.jrn with pLine := [] } }).set JRN_PSTAT JRN_PSTAT_PHEAD (s.pNext at_ (s.jrn.bad.length + 1))

/-- A received record goes into the partner ring in arrival order (R446). -/
def State.pStore (s : State) (b : List Byte) : State :=
  if s.get JRN_PCFG JRN_PCFG_PLINES = 0 || s.flag JRN_PSTAT JRN_PSTAT_FROZEN then s
  else
    let l := s.jrn.pLine
    if b.length = 64 ∧ l ≠ [] then (s.pWrite (fullLine l)).pWrite b else s.pWrite (l ++ b)

/-- A gap (R448); `base` says that it struck in a baseline. (DESIGN CHOICE, log 60) -/
def State.pGap (s : State) (base : Bool) : State :=
  let s := { s with jrn := { s.jrn with pBad := base } }
  (((s.set JRN_PSTAT JRN_PSTAT_PVALID 0).set JRN_PSTAT JRN_PSTAT_PGAP 1).set JRN_PSTAT JRN_PSTAT_BASELINE 0).raise 214

/-- A live record or a HEART after the baseline completes it (R447). With no ring nothing becomes valid (R446). -/
def State.pLive (s : State) : State :=
  let s := { s with jrn := { s.jrn with pBad := false } }
  if s.flag JRN_PSTAT JRN_PSTAT_BASELINE then
    ((s.set JRN_PSTAT JRN_PSTAT_BASELINE 0).set JRN_PSTAT JRN_PSTAT_PVALID 1).raise 214
  else s

/-- The length of a record (R420). -/
def sizeOk (b : List Byte) : Bool := b.length = 16 || b.length = 64

/-- A record passes its CRC (R420). -/
def recordOk (b : List Byte) : Bool :=
  sizeOk b && ofBytesLE (b.drop (b.length - 4)) = (crc32c (b.take (b.length - 4))).toNat

/-- A record received in a JRNL frame (R446–R448); what has not the length of a record is kept nowhere. (DESIGN CHOICE, log 60) -/
def State.pRecord (s : State) (b : List Byte) : State :=
  if s.get JRN_PCFG JRN_PCFG_PLINES = 0 then s
  else if !recordOk b then
    let s := s.pGap (s.flag JRN_PSTAT JRN_PSTAT_BASELINE || isBase b || s.jrn.pBad)
    if sizeOk b then s.pStore b else s
  else
    let n := ofBytesLE (b.take 4)
    if isBase b then
      let s := if s.flag JRN_PSTAT JRN_PSTAT_BASELINE || s.jrn.pBad then s
        else ({ s with jrn := { s.jrn with pLast := none } }).set JRN_PSTAT JRN_PSTAT_BASELINE 1
      s.pStore b
    else
      let bad := match s.jrn.pLast with | some l => decide (n ≠ (l + 1) % 2 ^ 32) | none => false
      let s := if bad then s.pGap false else s.pLive
      let s := s.wr JRN_PLAST (BitVec.ofNat 32 n)
      ({ s with jrn := { s.jrn with pLast := some n } }).pStore b

/-- The number that a HEART carries is checked (R448). (DESIGN CHOICE, log 60) -/
def State.pHeart (s : State) (n : Nat) : State :=
  if s.get JRN_PCFG JRN_PCFG_PLINES = 0 then s
  else
    match s.jrn.pLast with
    | some l => if n = l then s.pLive else s.pGap false
    | none => ({ s with jrn := { s.jrn with pLast := some n } }).pLive

/-- The records of a baseline (R447): checkpoint groups, QMARKs of JRNEN queues, DMA-POINTs, the TEU snapshot, and the launch
commits of armed entries with JOURNAL = 1. -/
def State.baseline (s : State) : List (List Byte) :=
  let j := s.jrn
  let grp := fun (p : Option (Nat × List Rec)) => p.elim [] fun g => groupBytes g.1 true g.2
  let one := fun (p : Option (Nat × Rec)) => p.elim [] fun g => groupBytes g.1 true [g.2]
  (List.range 8).flatMap (fun c => grp (tget j.ckpts none c)) ++
    (List.range 64).flatMap (fun q => if s.flag (QM_Q_CFG q) QM_Q_CFG_JRNEN then one (tget j.qmarks none q) else []) ++
    (List.range 16).flatMap (fun k => one (tget j.dmas none k)) ++ grp j.snap ++
    s.tim.table.flatMap fun e =>
      if e.2.st = .armed ∧ e.2.journal then one (tget j.launches none e.1) else []

/-- A baseline starts: on entering PAIRED, or once the send buffer has drained after a STREAMGAP (R447). (DESIGN CHOICE, log 60) -/
def execBaselineStart (s : State) : Host.Outcome State Fault Refusal :=
  if s.fabric ∧ s.pair = 2 ∧ s.caer.gap ∧ s.caer.jbuf = [] then
    .next (({ s with caer := { s.caer with gap := false, jbuf := s.baseline } }).pump s.plink 16)
  else .next s

/-! ## Views -/

/-- UNFL: the unflushed lines (R424). -/
def State.unflushed (s : State) : Nat := s.jrn.lines.length

/-- RINGLINES: usable lines of the own ring. -/
def State.ringLines (s : State) : Nat :=
  s.ringEnd - s.boot.ret.lines - (s.jrn.bad.filter fun l => s.boot.ret.lines ≤ l && l < s.ringEnd).length

/-- JRN_SUP with ACTIVE: the cores whose list is not empty. -/
def State.supWord (s : State) : Word :=
  (List.range 8).foldl (fun w c => if (s.supList c).isEmpty then w else w ||| BitVec.ofNat 32 (2 ^ c)) (s.rd JRN_SUP)

end Sys2Proof.Machine
end

