-- ==== Sys2Proof/Machine/Teu.lean ====
section
/-! DEFINITION. The thermal estimator (R150–R178). -/

namespace Sys2Proof.Machine

open Sys2Proof

/-! ## Tables, rows and state words (R152, R153, R165–R168) -/

/-- The TEU is present (R178). -/
def State.hasTeu (s : State) : Bool := s.nTeu != 0

/-- The address of entry `i` of bank `b` (R165). -/
def teuAddr (b i : Nat) : Nat := 0x200000 + 0x10000 * b + 8 * i
/-- The address of a row word (R166). -/
def rowAddr (b sect row : Nat) : Nat := 0x242000 + 0x2000 * b + 0x800 * sect + 4 * row
/-- The address of state word `i` (R166). -/
def xAddr (i : Nat) : Nat := 0x240000 + 4 * i

/-- The rows that have a row word in each section (R166). -/
def rowCount (sect : Nat) : Nat := match sect with | 0 => 512 | 1 => 96 | 2 => 512 | _ => 64

/-- A table entry (R152). -/
structure TEnt where
  col : Nat
  row : Nat
  sect : Nat
  zero : Nat
  coef : Int
  deriving DecidableEq, Repr

/-- The fields of 48 bits (R152). -/
def entryOf (n : Nat) : TEnt :=
  { col := bitsOf n 38 10, row := bitsOf n 28 10, sect := bitsOf n 26 2, zero := bitsOf n 24 2, coef := signedOf 24 n }

/-- An entry, without a look at its check bits. -/
def State.entry (s : State) (b i : Nat) : TEnt := entryOf (s.mrd (teuAddr b i) 6)

/-- SHIFT of a row (R153). -/
def State.shiftOf (s : State) (b sect row : Nat) : Nat := s.mrd (rowAddr b sect row) 4 % 16

/-- The active bank. -/
def State.abank (s : State) : Nat := s.get TEU_STATUS TEU_STATUS_ABANK
/-- A bank is valid (R170). -/
def State.bankValid (s : State) (b : Nat) : Bool := bitAt (s.rd TEU_STATUS) (18 + b)
/-- NSTATES of a bank. -/
def State.nStates (s : State) (b : Nat) : Nat := s.get (TEU_BANK_CFG b) TEU_BANK_CFG_NSTATES
/-- NENT of a bank. -/
def State.nEnt (s : State) (b : Nat) : Nat := s.get (TEU_BANK_CFG b) TEU_BANK_CFG_NENT

/-- VALID of a bank, in TEU_STATUS and TEU_CHECK. -/
def State.setValid (s : State) (b : Nat) (v : Bool) : State :=
  (s.setBit TEU_STATUS (18 + b) v).set (TEU_CHECK b) TEU_CHECK_VALID v.toNat

/-- A TEU_STATUS bit is set. -/
def State.teuFlag (s : State) (f : Fld) : State := s.set TEU_STATUS f 1

/-- Validation ends (R170): VALBUSY clears, VALDONE is set and source 182 raised. -/
def State.valEnd (s : State) : State :=
  let s := { s with teu := { s.teu with val := none } }
  ((s.set TEU_STATUS TEU_STATUS_VALBUSY 0).teuFlag TEU_STATUS_VALDONE).raise 182

/-- A store reaches a bank's entries, row words or TEU_BANK_CFG (R168, R170): its VALID clears, with REASON 0b111, and a running
validation of it ends. -/
def State.touchBank (s : State) (b : Nat) : State :=
  let s := s.setValid b false
  let s := (s.set (TEU_CHECK b) TEU_CHECK_REASON 7).set (TEU_CHECK b) TEU_CHECK_INDEX 0
  if s.teu.val = some b then s.valEnd else s

/-- While ENABLE is 1 the active bank takes no store (R168). -/
def State.bankLocked (s : State) (b : Nat) : Bool := s.flag TEU_CTL TEU_CTL_ENABLE && s.abank = b

/-- A store to the low word of an entry (R165, R168): it is held. (DEDUCED, log 19) -/
def State.entryLow (s : State) (b i : Nat) (v : Word) : State :=
  if s.bankLocked b then s.teuFlag TEU_STATUS_ACTWR else { s with teu := { s.teu with held := some (b, i, v) } }

/-- The low word that a store to the high word uses (R165), and whether it could be read: the held one of the same entry, else the
entry's. -/
def State.lowWord (s : State) (b i : Nat) : State × Nat × Bool :=
  match s.teu.held with
  | some (b', i', w) => if b' = b ∧ i' = i then (s, w.toNat, false) else s.memLoad (teuAddr b i) 4
  | none => s.memLoad (teuAddr b i) 4

/-- A low word is held for an entry. -/
def State.holdsLow (s : State) (b i : Nat) : Bool := match s.teu.held with | some (b', i', _) => b' = b && i' = i | none => false

/-- A store to the high word of an entry (R165, R168): the whole entry is written, and a low word held for it is used up. (DEDUCED, log 19) -/
def State.entryHigh (s : State) (b i : Nat) (v : Word) : State :=
  if s.bankLocked b then s.teuFlag TEU_STATUS_ACTWR
  else
    let r := s.lowWord b i
    let s := if s.holdsLow b i then { r.1 with teu := { r.1.teu with held := none } } else r.1
    let s := if r.2.2 then s else (s.memStore (teuAddr b i) 8 (r.2.1 + v.toNat % 2 ^ 16 * 2 ^ 32)).1
    s.touchBank b

/-- A store to a row word (R153, R166, R168). Rows that have none ignore it. -/
def State.rowStore (s : State) (b sect row : Nat) (v : Word) : State :=
  if rowCount sect ≤ row then s
  else if s.bankLocked b then s.teuFlag TEU_STATUS_ACTWR
  else ((s.memStore (rowAddr b sect row) 4 (v.toNat % 16)).1).touchBank b

/-- A state word is written. -/
def State.putX (s : State) (i : Nat) (v : Word) : State :=
  let s := (s.memStore (xAddr i) 4 v.toNat).1
  match s.teu.xopen with
  | some (k, l) => if l.contains i then s else { s with teu := { s.teu with xopen := some (k, i :: l) } }
  | none => s

/-- A state word that nothing has written since a WARM reset is undefined (R177). (DESIGN CHOICE, log 21) -/
def State.xFree (s : State) (i : Nat) : Option Word :=
  match s.teu.xopen with
  | some (k, l) => if l.contains i then none else some (Config.freeWord (k + i))
  | none => none

/-- A state word's value, without a look at its check bits. (DESIGN CHOICE, log 21) -/
def State.xVal (s : State) (i : Nat) : Word := (s.xFree i).getD (BitVec.ofNat 32 (s.mrd (xAddr i) 4))

/-- A load of a state word (R167): its value, or an uncorrectable error. -/
def State.xLoad (s : State) (i : Nat) : State × Word × Bool :=
  match s.xFree i with
  | some w => (s, w, false)
  | none =>
    let r := s.check (xAddr i)
    (r.1, if r.2 then 0 else r.1.xVal i, r.2)

/-- A store to a state word (R167): it is applied at once, or after the step in progress commits. -/
def State.xStore (s : State) (i : Nat) (v : Word) : State :=
  if s.teu.run.isSome then { s with teu := { s.teu with defer := tset none s.teu.defer i (some v) } } else s.putX i v

/-- The stores that waited for the step to commit (R167). -/
def State.deferred (s : State) : State :=
  let d := s.teu.defer
  d.foldl (fun s e => match e.2 with | some v => s.putX e.1 v | none => s) { s with teu := { s.teu with defer := [] } }

/-! ## The arithmetic of a step (R154, R155) -/

/-- A value saturated to `b` bits, and whether it was. -/
def satTo (b : Nat) (x : Int) : Int × Bool :=
  let y := clampInt (-(2 ^ (b - 1) : Nat)) ((2 ^ (b - 1) : Nat) - 1) x
  (y, y != x)

/-- The sum of a row's entries, saturating at 64 bits in table order. -/
def accumulate (op : Nat → Int) (es : List TEnt) : Int × Bool :=
  es.foldl (fun a e =>
    let r := satTo 64 (a.1 + e.coef * op e.col)
    (r.1, a.2 || r.2)) (0, false)

/-- `rowsum` of R154: 0 for an empty row, else the sum rounded half up and shifted, saturated to 32 bits; and whether anything
saturated. -/
def rowSum (op : Nat → Int) (es : List TEnt) (shift : Nat) : Int × Bool :=
  if es.isEmpty then (0, false)
  else
    let a := accumulate op es
    let r := satTo 32 (roundHalfUp a.1 (2 ^ (20 + shift)))
    (r.1, a.2 || r.2)

/-- What a step works on: the bank's entries, SHIFT, NSTATES, the channel count, x, V[512] on, validity and CMASK. -/
structure TeuIn where
  ents : List TEnt
  shift : Nat → Nat → Nat
  nst : Nat
  nch : Nat
  x : Nat → Int
  v : Nat → Int
  valid : Nat → Bool
  cmask : Nat → Bool

/-- What a step computes: the corrected state, the probes and residuals that have rows with whether they saturated, and the
section and row of every saturation in order. -/
structure TeuOut where
  x : List Int
  probes : List (Nat × Int × Bool)
  resids : List (Nat × Int × Bool)
  sats : List (Nat × Nat)
  deriving DecidableEq, Repr

/-- A row's entries. -/
def TeuIn.row (t : TeuIn) (sect row : Nat) : List TEnt := t.ents.filter fun e => e.sect = sect && e.row = row

/-- An element of V, with the given state (R150). -/
def TeuIn.operand (t : TeuIn) (x : Nat → Int) (col : Nat) : Int := if col < 512 then x col else t.v (col - 512)

/-- A list as a vector; beyond its end it is 0. -/
def vec (l : List Int) (i : Nat) : Int := l.getD i 0

/-- The predicted state, row by row. -/
def TeuIn.predict (t : TeuIn) : List (Int × Bool) :=
  (List.range t.nst).map fun i => rowSum (t.operand t.x) (t.row 0 i) (t.shift 0 i)

/-- The residual of a channel with a C row, from the predicted state. -/
def TeuIn.residual (t : TeuIn) (xm : Nat → Int) (j : Nat) : Int × Bool :=
  let c := rowSum (t.operand xm) (t.row 1 j) (t.shift 1 j)
  let r := satTo 32 (t.v j - c.1)
  (r.1, c.2 || r.2)

/-- The step (R154). -/
def TeuIn.run (t : TeuIn) : TeuOut :=
  let pm := t.predict
  let xm := vec (pm.map (·.1))
  let rs := ((List.range t.nch).filter fun j => !(t.row 1 j).isEmpty).map fun j => (j, t.residual xm j)
  let e := fun col =>
    match rs.find? fun r => r.1 = col - 512 with
    | some r => if t.valid r.1 && t.cmask r.1 then r.2.1 else 0
    | none => 0
  let xs := (List.range t.nst).map fun i =>
    let k := rowSum e (t.row 2 i) (t.shift 2 i)
    let r := satTo 32 (xm i + k.1)
    (r.1, k.2 || r.2)
  let x := xs.map (·.1)
  let ps := ((List.range 64).filter fun k => !(t.row 3 k).isEmpty).map fun k =>
    (k, rowSum (t.operand (vec x)) (t.row 3 k) (t.shift 3 k))
  let hits := fun (sect : Nat) (l : List (Nat × Int × Bool)) => ((l.filter fun r => r.2.2).map fun r => (sect, r.1) : List (Nat × Nat))
  { x, probes := ps, resids := rs
    sats := hits 0 ((List.range t.nst).zip pm) ++ hits 1 rs ++ hits 2 ((List.range t.nst).zip xs) ++ hits 3 ps }

/-- The duration in TEU cycles of a step that delivers so many results to EVT (R162). -/
def TeuIn.cycles (t : TeuIn) (results : Nat) : Nat :=
  let rows := (t.ents.map fun e => (e.sect, e.row)).eraseDups
  let sects := (t.ents.map (·.sect)).eraseDups
  64 + 16 * sects.length + (rows.map fun r => ((t.row r.1 r.2).length + 3) / 4).foldl (· + ·) 0 + results

/-! ## Swaps (R171) -/

/-- A swap takes effect (R171): the flag says that it was refused. -/
def State.swapTo (s : State) (b : Nat) : State × Bool :=
  let s := s.set TEU_STATUS TEU_STATUS_PENDV 0
  if b = s.abank then (s, false)
  else if s.bankValid b then ((s.set TEU_STATUS TEU_STATUS_ABANK b).raise 179, false)
  else ((s.teuFlag TEU_STATUS_SWAPERR).raise 180, true)

/-- A swap request reaches the TEU (R171): pending until the next step latch, or at once while ENABLE is 0. (DESIGN CHOICE, log 75) -/
def State.swapRequest (s : State) (b : Nat) : State :=
  if !s.hasTeu then s
  else if s.flag TEU_CTL TEU_CTL_ENABLE then (s.set TEU_STATUS TEU_STATUS_PENDV 1).set TEU_STATUS TEU_STATUS_PENDBANK b
  else (s.swapTo b).1

/-- A write to TEU_SWAP (R171). -/
def execTeuSwapWrite (v : Word) (s : State) : Host.Outcome State Fault Refusal :=
  .next (if !s.fabric then s else if s.hasTeu then s.swapRequest (fieldOf v TEU_SWAP_BANK) else s.absentHit)

/-! ## Step requests and the latch (R156, R157, R164, R172) -/

/-- A channel's latest item whose edge lies before the step instant (R156). (DEDUCED, log 19) -/
def State.latestItem (s : State) (j inst : Nat) : Option PostedItem :=
  (tget s.flt.post [] j).find? fun p => instOfTick (s.edgeTime p.edge) < inst

/-- A channel is valid at a step (R157). -/
def State.chValid (s : State) (j inst : Nat) : Bool :=
  let stale := s.get TEU_CFG TEU_CFG_STALE
  match s.latestItem j inst with
  | none => false
  | some p => !p.settle && !p.rng && (stale = 0 || inst - instOfTick (s.edgeTime p.edge) ≤ instOfTick (stale * 256000))

/-- What a step latches: V[512]–V[720] and the validity of every channel (R150, R151, R156, R157). -/
def State.latchV (s : State) (inst : Nat) : StepIn :=
  { vals := (List.range 96).map (fun j => (s.latestItem j inst).elim 0 (·.v)) ++
      (List.range 48).map (fun n => BitVec.ofNat 32 (s.posted n)) ++
      (List.range 64).map (fun k => s.rd (TEU_PEER k)) ++ [0x00010000]
    valid := (List.range 96).map fun j => j < s.nCh && s.chValid j inst }

/-- The step latches (R154). (DESIGN CHOICE, log 75) -/
def State.stepLatch (s : State) (inst : Nat) : State :=
  let v := s.latchV inst
  let s := { s with teu := { s.teu with run := some (v, inst), last := some s.raw } }
  s.set TEU_STATUS TEU_STATUS_BUSY 1

/-- The TEU is powered (R256): not in NAP. -/
def State.teuOn (s : State) : Bool := s.hasTeu && s.pstate < 2

/-- The TEU takes step requests (R164, R256). -/
def State.stepsTaken (s : State) : Bool := s.teuOn && s.flag TEU_CTL TEU_CTL_ENABLE

/-- A step request comes too early (R164): while a step runs, or less than 50 µs after the latch of the last step that ran. (DESIGN CHOICE, log 75) -/
def State.tooEarly (s : State) : Bool :=
  s.teu.run.isSome || match s.teu.last with | some t => decide (s.raw < t + 12800) | none => false

/-- A step request comes to its latch (R164). -/
def State.stepLatches (s : State) : Bool := s.stepsTaken && !s.tooEarly

/-- At the latch a pending swap takes effect, and the active bank is judged after it (R171, R172): the flag says that the step runs. -/
def State.judgeBank (s : State) : State × Bool :=
  let r := if s.flag TEU_STATUS TEU_STATUS_PENDV then s.swapTo (s.get TEU_STATUS TEU_STATUS_PENDBANK) else (s, false)
  let s := r.1
  if s.bankValid s.abank then (s, true)
  else
    let s := s.teuFlag TEU_STATUS_TABERR
    (if r.2 then s else s.raise 180, false)

/-- A step request with its step instant (R164, R171, R172). In NAP it has no effect (R256). -/
def State.stepRequest (s : State) (inst : Nat) : State :=
  if !s.stepsTaken then s
  else if s.tooEarly then (s.teuFlag TEU_STATUS_OVERRUN).raise 178
  else
    let r := s.judgeBank
    if r.2 then r.1.stepLatch inst else r.1

/-- A write of STEP = 1 to TEU_CTL (R164). -/
def execTeuSoftwareStep (s : State) : Host.Outcome State Fault Refusal :=
  .next (if !s.fabric then s else if s.hasTeu then s.stepRequest (instOfTick s.time) else s.absentHit)

/-! ## Completion (R155, R158–R161, R173–R175) -/

/-- The words at the addresses are read: whether an uncorrectable error was met. -/
def State.checkAll (s : State) : List Nat → State × Bool
  | [] => (s, false)
  | a :: l =>
    let r := s.check a
    if r.2 then r else r.1.checkAll l

/-- The inputs of a step on the active bank. (DESIGN CHOICE, log 75) -/
def State.teuIn (s : State) (v : StepIn) : TeuIn :=
  let b := s.abank
  { ents := (List.range (s.nEnt b)).map (s.entry b)
    shift := s.shiftOf b
    nst := s.nStates b
    nch := s.nCh
    x := fun i => (s.xVal i).toInt
    v := fun i => (v.vals.getD i 0).toInt
    valid := fun j => v.valid.getD j false
    cmask := fun j => bitAt (s.rd (TEU_CMASK (j / 32))) (j % 32) }

/-- The reads of a step (R175): its entries and the row words of its non-empty rows, then its state words. The first flag says
that the table failed, the second that a state word did. (DESIGN CHOICE, log 75) -/
def State.teuReads (s : State) (t : TeuIn) : State × Bool × Bool :=
  let b := s.abank
  let rows := (t.ents.map fun e => (e.sect, e.row)).eraseDups
  let r := s.checkAll ((List.range (s.nEnt b)).map (teuAddr b) ++ rows.map fun p => rowAddr b p.1 p.2)
  if r.2 then (r.1, true, false)
  else
    let q := r.1.checkAll (((List.range t.nst).filter fun i => (s.xFree i).isNone).map xAddr)
    (q.1, false, q.2)

/-- The step is abandoned (R175). An error in the bank clears its VALID. (DEDUCED, log 19) -/
def State.abandon (s : State) (table : Bool) : State :=
  let s := if table then s.setValid s.abank false else s
  let s := { s with teu := { s.teu with run := none } }
  (((s.set TEU_STATUS TEU_STATUS_BUSY 0).teuFlag TEU_STATUS_ECCFAIL).raise 181).deferred

/-- The new state is committed (R167). -/
def State.commitX (s : State) (x : List Int) : State :=
  let s := { s with teu := { s.teu with run := none } }
  (((List.range x.length).zip x).foldl (fun s p => s.putX p.1 (BitVec.ofInt 32 p.2)) s).deferred

/-- A probe item (R160). -/
def probeItem (k : Nat) (v : Int) (settle rng : Bool) (inst : Nat) : Item :=
  BitVec.ofInt 64 (v * 2 ^ 32 + ((96 + k % 16) * 2 ^ 25 + settle.toNat * 2 ^ 24 + rng.toNat * 2 ^ 23 + 2 ^ 22 +
    k / 16 * 2 ^ 19 + inst % instOfTick secTicks / instOfTick 500 : Nat))

/-- The TEU pushes an item, after the epoch item where it is the first of its second there (R160, R280). -/
def State.pushProbe (s : State) (q sec : Nat) (item : Item) : State :=
  let s := if tget s.qm.epochT none q = some sec then s
    else ({ s with qm := { s.qm with epochT := tset none s.qm.epochT q (some sec) } }).pushT q (epochItem sec)
  s.pushT q item

/-- The probe items of a step (R159 step 1). -/
def State.pushProbes (s : State) (o : TeuOut) (settle : Bool) (inst : Nat) : State :=
  if s.flag TEU_PROUTE TEU_PROUTE_QEN then
    o.probes.foldl (fun s p =>
      if bitAt (s.rd (TEU_PMASK (p.1 / 32))) (p.1 % 32) then
        s.pushProbe (s.get TEU_PROUTE TEU_PROUTE_QSEL) (inst / instOfTick secTicks) (probeItem p.1 p.2.1 settle p.2.2 inst)
      else s) s
  else s

/-- The results of a step go to EVT (R159 step 2, R161). -/
def State.deliverTeu (s : State) (v : StepIn) (o : TeuOut) (settle : Bool) : State :=
  let s := o.probes.foldl (fun s p => (s.evaluate (96 + p.1) p.2.1 settle p.2.2).1) s
  o.resids.foldl (fun s r =>
    let ok := v.valid.getD r.1 false
    (s.evaluate (160 + r.1) (if ok then r.2.1 else 0) (settle || !ok) r.2.2).1) s

/-- A found value, or 0. -/
def foundOr0 (l : List (Nat × Int × Bool)) (k : Nat) : Word := (l.find? fun r => r.1 = k).elim 0 fun r => BitVec.ofInt 32 r.2.1

/-- The registers that a completed step of `c` cycles updates (R155, R157, R159 step 3, R162). (DESIGN CHOICE, log 75) -/
def State.teuRegs (s : State) (v : StepIn) (o : TeuOut) (c : Nat) : State :=
  let s := (List.range 64).foldl (fun s k => s.wr (TEU_PROBE k) (foundOr0 o.probes k)) s
  let s := (List.range s.nCh).foldl (fun s j => s.wr (TEU_RESID j) (foundOr0 o.resids j)) s
  let s := (List.range 3).foldl (fun s w => s.wr (TEU_INVALID w)
    (BitVec.ofNat 32 ((List.range 32).foldl (fun n i =>
      if 32 * w + i < s.nCh && !v.valid.getD (32 * w + i) false then n + 2 ^ i else n) 0))) s
  let s := s.wr TEU_STEPCNT (s.rd TEU_STEPCNT + 1)
  let s := s.wr TEU_STEPTIME (BitVec.ofNat 32 (max (s.get TEU_STEPTIME TEU_STEPTIME_MAX) c * 2 ^ 16 + c))
  match o.sats with
  | [] => s
  | p :: _ =>
    let s := if s.flag TEU_SATROW TEU_SATROW_V then s else s.wr TEU_SATROW (BitVec.ofNat 32 (2 ^ 31 + p.1 * 2 ^ 10 + p.2))
    (s.teuFlag TEU_STATUS_SAT).raise 177

/-- The parts of a snapshot: 13 states each (R421). -/
def snapParts (x : List Word) (first : Nat) : Nat → List Rec
  | 0 => []
  | fuel + 1 =>
    match x with
    | [] => []
    | _ => { kind := 6, src := 1, argd := first, body := (x.take 13).map (·.toNat) } :: snapParts (x.drop 13) (first + 13) fuel

/-- The TEU-SNAP records of the present state (R173, R421). -/
def State.snapRecs (s : State) : List Rec :=
  let b := s.abank
  let n := s.nStates b
  { kind := 6, src := 0, argd := n + 1024 * b, body := [(s.rd TEU_STEPCNT).toNat] } :: snapParts ((List.range n).map s.xVal) 0 40

/-- After every SNAPDIV-th completed step a snapshot is handed to JRN, or skipped (R173). (DEDUCED, log 19) -/
def State.snapshot (s : State) : State :=
  let d := s.get TEU_CFG TEU_CFG_SNAPDIV
  if d = 0 || (s.rd TEU_STEPCNT).toNat % d ≠ 0 then s
  else if s.teu.snapBusy then s.teuFlag TEU_STATUS_SNAPSKIP
  else ({ s with teu := { s.teu with snapBusy := true, after := 0 } }).hand .snap s.snapRecs

/-- WARMING shows whether warm-up steps remain (R161). -/
def State.setWarm (s : State) (n : Nat) : State :=
  ({ s with teu := { s.teu with warm := n } }).set TEU_STATUS TEU_STATUS_WARMING (n != 0).toNat

/-- A normal step has completed: it is counted for replay, and JRN keeps what it latched in the step-input buffer of the last 8
steps (R430, R438). -/
def State.keepInputs (s : State) (v : StepIn) : State :=
  let buf := if s.get TEU_CFG TEU_CFG_SNAPDIV = 0 then s.jrn.stepIn
    else (s.jrn.stepIn ++ [v]).drop (s.jrn.stepIn.length + 1 - 8)
  { s with teu := { s.teu with after := s.teu.after + 1 }
           jrn := { s.jrn with stepsSince := s.jrn.stepsSince + 1, stepIn := buf } }

/-- The step completes (R159–R161, R173, R368). (DEDUCED, log 19) -/
def State.stepComplete (s : State) (v : StepIn) (inst : Nat) (t : TeuIn) : State :=
  let o := t.run
  let s := s.commitX o.x
  let settle := s.teu.warm != 0
  let s := s.setWarm (s.teu.warm - 1)
  let s := s.pushProbes o settle inst
  let s := s.deliverTeu v o settle
  let s := (s.teuRegs v o (t.cycles (o.probes.length + o.resids.length))).set TEU_STATUS TEU_STATUS_BUSY 0
  let s := s.raise 176
  let s := (s.keepInputs v).snapshot
  if s.get CAER_PEXP_CFG CAER_PEXP_CFG_TRIG = 1 then s.peerExport else s

/-- The step in progress ends (R159, R175). (DESIGN CHOICE, log 75) -/
def execTeuStepComplete (s : State) : Host.Outcome State Fault Refusal :=
  match s.teu.run with
  | some (v, inst) =>
    if s.fabric ∧ s.teuOn then
      let t := s.teuIn v
      let r := s.teuReads t
      .next (if r.2.1 || r.2.2 then r.1.abandon r.2.1 else r.1.stepComplete v inst (r.1.teuIn v))
    else .next s
  | none => .next s

/-- A catch-up step (R174): no items, no results to EVT, no source 176, and no count towards warm-up. A pending swap takes effect at its
latch, and the bank is judged, as at any step (R171, R172); the flag says that the step ran. It runs whatever ENABLE is. (DESIGN CHOICE, log 75) -/
def State.catchUp (s : State) (v : StepIn) : State × Bool :=
  let j := s.judgeBank
  if !j.2 then j
  else
    let s := j.1
    let t := s.teuIn v
    let r := s.teuReads t
    if r.2.1 || r.2.2 then (r.1.abandon r.2.1, true)
    else
      let t := r.1.teuIn v
      let o := t.run
      (((r.1.commitX o.x).teuRegs v o (t.cycles 0)).snapshot, true)

/-- The catch-up steps of a replay, and how many of them ran (R174, R438). -/
def State.catchUps (s : State) : List StepIn → State × Nat
  | [] => (s, 0)
  | v :: l =>
    let r := s.catchUp v
    let t := r.1.catchUps l
    (t.1, t.2 + r.2.toNat)

/-! ## Enable, banks and validation (R164, R169, R170) -/

/-- ENABLE goes from 0 to 1 (R161, R164): warm-up begins, with WARMUP as it stands then. (DESIGN CHOICE, log 75) -/
def State.enableTeu (s : State) : State :=
  if s.flag TEU_CTL TEU_CTL_ENABLE then s
  else (s.set TEU_CTL TEU_CTL_ENABLE 1).setWarm (s.get TEU_CFG TEU_CFG_WARMUP)

/-- ENABLE written 1 (R164). -/
def execTeuEnable (s : State) : Host.Outcome State Fault Refusal :=
  .next (if !s.fabric then s else if s.hasTeu then s.enableTeu else s.absentHit)

/-- The rows that a section allows (R152). -/
def State.rowLimit (s : State) (b sect : Nat) : Nat := match sect with | 0 | 2 => s.nStates b | 1 => s.nCh | _ => 64

/-- The columns that a section allows (R152, R178). -/
def State.colOk (s : State) (b sect col : Nat) : Bool :=
  let ch := 512 ≤ col && col < 512 + s.nCh
  if sect = 2 then ch
  else col < s.nStates b || ch || 608 ≤ col && col < 608 + s.nAct || 656 ≤ col && col ≤ 720

/-- The REASON codes for which an entry fails, after the entry before it (R152, R153, R170). (DESIGN CHOICE, log 20) -/
def State.reasons (s : State) (b : Nat) (prev : Option TEnt) (e : TEnt) : List Nat :=
  let order := match prev with
    | some p => e.sect < p.sect || e.sect = p.sect && e.row < p.row
    | none => false
  (if order then [1] else []) ++ (if s.rowLimit b e.sect ≤ e.row then [2] else []) ++
    (if s.colOk b e.sect e.col then [] else [3]) ++ (if e.zero = 0 then [] else [4])

/-- The entries from index `i` on are examined: the first failure's REASON and INDEX. Where one entry fails for several reasons,
the spec does not say which is recorded. (DESIGN CHOICE, log 20) (DESIGN CHOICE, log 75) -/
def State.examine (s : State) (b i : Nat) (prev : Option TEnt) : Nat → State × Option (Nat × Nat)
  | 0 => (s, none)
  | k + 1 =>
    let r := s.check (teuAddr b i)
    if r.2 then (r.1, some (5, i))
    else
      let s := r.1
      let e := s.entry b i
      match s.reasons b prev e with
      | [] => s.examine b (i + 1) (some e) k
      | [x] => (s, some (x, i))
      | l => (s.free.2, some (l.getD (s.free.1.toNat % l.length) 1, i))

/-- Validation of a bank ends (R170). -/
def State.validated (s : State) (b : Nat) : State :=
  let r := if s.nStates b = 0 then (s, some (6, 0)) else s.examine b 0 none (s.nEnt b)
  let s := match r.2 with
    | none => (r.1.setValid b true).set (TEU_CHECK b) TEU_CHECK_REASON 0
    | some (x, i) => ((r.1.setValid b false).set (TEU_CHECK b) TEU_CHECK_REASON x).set (TEU_CHECK b) TEU_CHECK_INDEX i
  s.valEnd

/-- Validation of a bank starts, unless one runs; one of a bank without states fails at once (R170). (DESIGN CHOICE, log 75) -/
def State.validate (s : State) (b : Nat) : State :=
  if s.teu.val.isSome then s
  else
    let s := ({ s with teu := { s.teu with val := some b } }).set TEU_STATUS TEU_STATUS_VALBUSY 1
    if s.nStates b = 0 then s.validated b else s

/-- VAL0 and VAL1 written (R170). Both at once start the validation of bank 0, and VAL1 is then a request made while one runs. (DESIGN CHOICE, log 75) -/
def State.validates (s : State) (v0 v1 : Bool) : State :=
  let s := if v0 then s.validate 0 else s
  if v1 then s.validate 1 else s

/-- A write of VAL0 or VAL1 (R170). -/
def execValidate (v0 v1 : Bool) (s : State) : Host.Outcome State Fault Refusal :=
  .next (if !s.fabric then s else if s.hasTeu then s.validates v0 v1 else s.absentHit)

/-- Validation ends (R170). It yields to a step. -/
def execValidationDone (s : State) : Host.Outcome State Fault Refusal :=
  match s.teu.val with
  | some b => .next (if s.fabric ∧ s.teuOn ∧ s.teu.run.isNone then s.validated b else s)
  | none => .next s

/-! ## Stores -/

/-- A store to TEU_BANK_CFG (R168, R169). -/
def State.bankCfgStore (s : State) (b : Nat) (v : Word) : State :=
  if s.bankLocked b then s.teuFlag TEU_STATUS_ACTWR
  else
    let s := s.touchBank b
    if s.nTeu < fieldOf v TEU_BANK_CFG_NENT ∨ 512 < fieldOf v TEU_BANK_CFG_NSTATES then s.cfgErr TEU_STATUS
    else s.storeReg (TEU_BANK_CFG b) v

/-- A store to TEU_CTL (R164, R170): ENABLE first, then VAL, then STEP. A step that runs when ENABLE is written 0 goes on to its end. (DESIGN CHOICE, log 75) -/
def State.teuCtlStore (s : State) (v : Word) : State :=
  let s := if fieldOf v TEU_CTL_ENABLE = 1 then s.enableTeu else s.set TEU_CTL TEU_CTL_ENABLE 0
  let s := s.validates (fieldOf v TEU_CTL_VAL0 = 1) (fieldOf v TEU_CTL_VAL1 = 1)
  if fieldOf v TEU_CTL_STEP = 1 then s.stepRequest (instOfTick s.time) else s

/-- A store to TEU_STATUS: clearing SAT clears TEU_SATROW. -/
def State.teuStatusStore (s : State) (v : Word) : State :=
  let s := s.storeReg TEU_STATUS v
  if fieldOf v TEU_STATUS_SAT = 1 then s.wr TEU_SATROW 0 else s

/-- A store to the window of the TEU (R178). -/
def State.teuStore (s : State) (a : Nat) (v : Word) : State :=
  if a = TEU_CTL then s.teuCtlStore v
  else if a = TEU_STATUS then s.teuStatusStore v
  else if a = TEU_SWAP then s.swapRequest (fieldOf v TEU_SWAP_BANK)
  else if a = TEU_BANK_CFG 0 then s.bankCfgStore 0 v
  else if a = TEU_BANK_CFG 1 then s.bankCfgStore 1 v
  else if TEU_CMASK 0 ≤ a ∧ a < TEU_CMASK 3 then
    s.storeReg a (v &&& BitVec.ofNat 32 (2 ^ min 32 (s.nCh - 32 * ((a - TEU_CMASK 0) / 4)) - 1))
  else s.storeReg a v

/-- A store to the low word of a table entry (R165). -/
def execTeuEntryLowStore (r : Req) (b : Fin 2) (i : Fin 8192) (v : Word) (s : State) : Host.Outcome State Fault Refusal :=
  .next (if !s.fabric then s else if i.val < s.nTeu then s.allowed r (teuAddr b i) (·.entryLow b i v) else s.absentHit)

/-- A store to the high word of a table entry (R165). -/
def execTeuEntryHighStore (r : Req) (b : Fin 2) (i : Fin 8192) (v : Word) (s : State) : Host.Outcome State Fault Refusal :=
  .next (if !s.fabric then s else if i.val < s.nTeu then s.allowed r (teuAddr b i + 4) (·.entryHigh b i v) else s.absentHit)

/-- A store to a row word (R168). -/
def execRowWordStore (b : Fin 2) (sect : Fin 4) (row : Fin 512) (v : Word) (s : State) : Host.Outcome State Fault Refusal :=
  .next (if !s.fabric then s else if s.hasTeu then s.rowStore b sect row v else s.absentHit)

/-- A store to a state word (R167). -/
def execTeuStateStore (i : Fin 512) (v : Word) (s : State) : Host.Outcome State Fault Refusal :=
  .next (if !s.fabric then s else if s.hasTeu then s.xStore i v else s.absentHit)

end Sys2Proof.Machine
end

