-- ==== Sys2Proof/Machine/Reset.lean ====
section
/-! DEFINITION. What the three classes of reset and the loss of VCORE do to the state, how TIME passes through OASIS, and how a
cause leads to a reset (R80–R85, R262, R312, R313, R441, R472). -/

namespace Sys2Proof.Machine

open Sys2Proof

/-! ## What survives -/

/-- The registers of the AO island outside the OAS window (R81, R419, R450). -/
def inAo (a : Nat) : Bool := a = SYS_RESETCAUSE || a = BOOT_UPDATE || a = JRN_JSEQ

/-- The registers that an OASIS stay leaves (R255, R313): those of the AO island. -/
def oasisKeeps (a : Nat) : Bool := a / 0x10000 = 0x4010 || inAo a

/-- The registers that a WARM reset leaves (R81, R312): those of the AO island and of TIME and ACT. -/
def warmKeeps (a : Nat) : Bool := a / 0x10000 = 0x4008 || a / 0x10000 = 0x4009 || oasisKeeps a

/-- The bits of SYS_STATUS that a WARM reset leaves: PWRTO and FLUSHED, which are held in AO, and those that show a condition
as it is now; BOWARN follows VCOREWARN. -/
def statusKept (w : Word) : Word := (w &&& 0xE77) ||| ((w &&& 0x10) <<< 3)

/-- The registers that a reset leaves, the others at their reset values. -/
def State.keepRegs (s : State) (keep : Nat → Bool) : State :=
  ({ s with regs := s.regs.filter fun e => keep e.1 }).wr SYS_STATUS (statusKept (s.rd SYS_STATUS))

/-- A free number of 64 bits. (DESIGN CHOICE, log 7) (DESIGN CHOICE, log 69) -/
def State.free64 (s : State) : State × Nat :=
  let a := s.free
  let b := a.2.free
  (b.2, a.1.toNat + 2 ^ 32 * b.1.toNat)

/-- A number between 1 and `n`, which the passing of time would give and no command shows; 0 where `n` is 0. (DESIGN CHOICE, log 7) (DESIGN CHOICE, log 69) -/
def State.left (s : State) (n : Nat) : State × Nat :=
  if n = 0 then (s, 0) else (s.free.2, 1 + s.free.1.toNat % n)

/-- A trial that a COLD or WARM reset meets is marked as rejected (R411). -/
def RetSt.reject (r : RetSt) : RetSt :=
  match r.trial with
  | some q => { r with trial := none, tried := true, rejected := if q ∈ r.rejected then r.rejected else r.rejected ++ [q] }
  | none => r

/-- What BOOT keeps when the fabric goes: the retained area, and what ran (R416). A copy that was being stored is not complete. -/
def BootSt.lost (b : BootSt) (ret : RetSt) : BootSt :=
  { due := b.due.filter (· = .aoreset), ret, sent := b.sent, ran := if b.run.head = [] then b.ran else b.run.head }

/-- What JRN keeps when the fabric goes: staging, the store and the index. Groups that had reached staging stay until the release
resolves them (R433); what is inside a crossing is lost (R441), but for the LCS-EVENT records, of which none is (R467). (DEDUCED, log 63) -/
def JrnSt.lost (j : JrnSt) : JrnSt :=
  { j with
    handed := j.handed.filter (·.frm = .lcs), sup := [], hold := [], restored := false, coldHold := false, pLine := []
    pLast := none, pBad := false, reading := none }

/-- What the interrupt controller keeps: nothing; but a grant on its way to C8 arrives as spurious, since C8 waits for it. (DESIGN CHOICE, log 64) -/
def State.hicLost (s : State) : HicSt :=
  if (s.core 8).mode = .accepted ∧ s.pow.watchAccept = false ∧ s.pow.watchGrant = none then
    { cores := [(8, { grant := some 0x3FF })] }
  else {}

/-- What the analogue front end keeps: its reference, and what lies in AO (R94, R109). -/
def AfeSt.lost (a : AfeSt) : AfeSt :=
  { ref := a.ref, aoWatch := a.aoWatch, aoExc := a.aoExc, aoCic := a.aoCic, aoCount := a.aoCount }

/-- What Caer keeps: the levels of the balls (R47), and the model's record of what its ports have sent. -/
def CaerSt.lost (c : CaerSt) : CaerSt :=
  { link := (c.link.map fun e => (e.1, ({ wire := e.2.wire } : LinkSt))).filter fun e => e.2 != {}
    pairOkLow := c.pairOkLow, takeLow := c.takeLow, partnerPairOkLow := c.partnerPairOkLow, partnerTakeLow := c.partnerTakeLow }

/-- What Ethernet keeps: the model's record of what it has sent. -/
def EthSt.lost (e : EthSt) : EthSt := { wire := e.wire, frames := e.frames }

/-- What life-cycle control keeps: its counter, the session, the nonce and the tokens, and the USB supply (R451–R459). -/
def LcsSt.lost (l : LcsSt) : LcsSt := { l with waiting := none, resetDue := false, usb := {} }

/-- The core table with C8 alone (R241). -/
def State.onlyC8 (s : State) : Tab CoreSt := tset {} [] 8 (s.core 8)

/-- Everything outside the AO and TIME islands is reset; C8 and memory stay (R81, R241, R441). The state words of the TEU are
undefined from now on (R177). (DESIGN CHOICE, log 21) -/
def State.loseFabric (s : State) (keep : Nat → Bool) : State :=
  let h := s.hicLost
  let s := s.keepRegs keep
  { s with
    hic := h, qm := {}, cores := s.onlyC8, jrn := s.jrn.lost, caer := s.caer.lost, afe := s.afe.lost, flt := {}, evt := []
    teu := { xopen := some (s.freeCtr, []) }, dme := {}, eth := s.eth.lost, twp := [], lcs := s.lcs.lost, boot := s.boot.lost s.boot.ret
    freeCtr := s.freeCtr + 512
    tim := { s.tim with samples := [] }
    pow := { s.pow with entry := none, waking := none, tempArmed := true, padDir := 0, padOut := 0 } }

/-! ## TIME and OASIS (R313) -/

/-- TIME hands its counter, the frequency of the 32.768 kHz clock, which no command shows, and the servo's integrator to AO; the launch
table is discarded. The end of the last replay is held from now on as a time before the counter's next start (R431). (DESIGN CHOICE, log 37) -/
def State.timeToAo (s : State) : State :=
  { s.free.2 with
    tim := { ao := some { t := s.time, i := s.tim.i, per := s.free.1.toNat } }
    jrn := { s.jrn with replayEnd := s.jrn.replayEnd.map fun e => e - (s.raw : Int) } }

/-- The counter that a wake reloads (R313): the handed value plus the elapsed 32.768 kHz ticks, corrected by the measured frequency, and
rounded to the AFE grid of 125 ticks. -/
def AoTime.reload (a : AoTime) : Nat :=
  let unit := 125 * 2 ^ 15
  125 * ((2 * (a.t * 2 ^ 15 + a.ticks * a.per) + unit) / (2 * unit)) % timeModulus

/-- AO has counted the ticks of the 32.768 kHz clock; how many, no command shows. (DESIGN CHOICE, log 37) -/
def State.aoCounts (s : State) : State :=
  let r := s.free64
  { r.1 with tim := { s.tim with ao := s.tim.ao.map fun a => { a with ticks := a.ticks + r.2 } } }

/-- TIME reloads the counter from AO. The servo is in HOLDOVER with i, PLL_T relocks from the control word retained in AO, and AOHOLD is
set; the reference may still be lost (R311). AFE edges count from the new value. (DESIGN CHOICE, log 37) -/
def State.timeFromAo (s : State) : State :=
  let s := s.aoCounts
  match s.tim.ao with
  | none => s
  | some a =>
    let t := a.reload
    let s := { s with
      time := t, tim := { adj := t, sec := secOf t, i := a.i }, pow := { s.pow with pllT := true }
      jrn := { s.jrn with replayEnd := s.jrn.replayEnd.map fun e => e - ((t : Int) - a.t) } }
    let s := (s.setServo 3).setTrim a.i
    let s := { s with tim := { s.tim with pll := a.i } }
    let s := s.set TIME_SRV_STAT TIME_SRV_STAT_REFLOST (!s.flag SYS_STATUS SYS_STATUS_REFOK).toNat
    s.set TIME_STATUS TIME_STATUS_AOHOLD 1

/-! ## COLD (R81, R472) -/

/-- The minutes of a session that have been used, rounded up (R467). (DEDUCED, log 67) -/
def State.minutesUsed (s : State) : State × Nat :=
  match s.lcs.session with
  | none => (s, 0)
  | some x =>
    let r := s.left x.left
    (r.1, x.minutes - x.left + r.2)

/-- The state as a COLD reset leaves it: everything but the fuses, the journal's store, the levels of the balls, and the contents of
shared data SRAM, where the rings of ETH lie (R352). (DESIGN CHOICE, log 3) (DESIGN CHOICE, log 4) (DEDUCED, log 63) -/
def State.coldState (s : State) : State :=
  let p := s.pow
  { State.reset with
    pending := s.pending, variant := s.variant, freeCtr := s.freeCtr, fuse := s.fuse
    regs := []
    mem := s.mem.filter fun e => e.1 < 0x100000
    flips := s.flips.filter fun e => e.1 < 0x100000
    jrn := { store := s.jrn.store, bad := s.jrn.bad, epoch := s.jrn.epoch, head := s.jrn.head, written := s.jrn.written }
    caer := { partnerPairOkLow := s.caer.partnerPairOkLow, partnerTakeLow := s.caer.partnerTakeLow }
    boot := { ret := s.boot.ret.reject }
    lcs := { counter := s.lcs.counter, mark := s.lcs.mark, ended := s.lcs.ended, vbus := s.lcs.vbus }
    pow := { phase := .cold, porstLow := p.porstLow, vaoLow := p.vaoLow, coldCauses := p.coldCauses, pllF := false
             addrBalls := p.addrBalls, testHigh := p.testHigh, gpioBalls := p.gpioBalls } }

/-- A COLD cause is present (R81, R472, R82): its bit of SYS_RESETCAUSE is recorded at the release, beside those of the causes that
it coincides with; a cause that has gone before it arises is not recorded any more. A session ends, to be recorded at the next boot
(R452, R467). (DESIGN CHOICE, log 72) -/
def State.coldBegin (s : State) (bit : Nat) : State :=
  let r := s.minutesUsed
  let ended := if s.lcs.session.isSome then some r.2 else s.lcs.ended
  let old := if s.pow.phase = .cold then s.pow.coldCauses else 0
  let st := statusKept (s.rd SYS_STATUS)
  let s := ({ r.1 with lcs := { r.1.lcs with ended := ended }, pow := { r.1.pow with coldCauses := old ||| bit } }).coldState
  s.wr SYS_STATUS (st &&& 0x270)

/-- PORST_N is low and acts: VAO and VIO33 are valid (R83). (DESIGN CHOICE, log 72) -/
def State.porstActs (s : State) : Bool := s.pow.porstLow && !s.pow.vaoLow && !s.flag SYS_STATUS SYS_STATUS_VIO33LOW

/-- PORST_N is held low (R83); it acts once VAO and VIO33 are valid. -/
def execPorstNAssert (s : State) : Host.Outcome State Fault Refusal :=
  let s := { s with pow := { s.pow with porstLow := true } }
  .next (if s.porstActs then s.coldBegin 1 else s)

/-- VAO falls below 0.700 V (R74). -/
def execVaoBrownOut (s : State) : Host.Outcome State Fault Refusal :=
  .next ({ s with pow := { s.pow with vaoLow := true } }.coldBegin 2)

/-- With no COLD cause left the AO logic leaves reset, and SYS_RESETCAUSE records the causes (R84). -/
def State.aoStart (s : State) : State :=
  if s.pow.phase = .cold ∧ !s.porstActs ∧ !s.pow.vaoLow then
    ({ s with pow := { s.pow with phase := .vcore } }).wr SYS_RESETCAUSE (BitVec.ofNat 32 s.pow.coldCauses)
  else s

/-- PORST_N rises (R84). -/
def execPorstNRelease (s : State) : Host.Outcome State Fault Refusal :=
  .next ({ s with pow := { s.pow with porstLow := false } }.aoStart)

/-- VAO rises past 0.740 V (R74): a PORST_N that is low acts from now on (R83). -/
def execVaoRecovery (s : State) : Host.Outcome State Fault Refusal :=
  let s := { s with pow := { s.pow with vaoLow := false } }
  .next (if s.porstActs then s.coldBegin 1 else s.aoStart)

/-- PLLLOCK shows that both PLLs are locked: to the reference, so that neither is while the outputs run free (R79). (DEDUCED, log 15) -/
def State.showLock (s : State) : State :=
  s.set SYS_STATUS SYS_STATUS_PLLLOCK (s.pow.pllF && s.pow.pllT && s.flag SYS_STATUS SYS_STATUS_REFOK).toNat

/-- PLL_F locks (R84, R472): the fabric leaves reset and ADDR is sampled; BOOT is to begin. A TEST ball that is high leads to the
production test (R50). A VCORE that is below its warning threshold still shows (R74). (DESIGN CHOICE, log 14) (DEDUCED, log 15) -/
def execPllFLock (s : State) : Host.Outcome State Fault Refusal :=
  if s.pow.phase = .lock ∧ !s.pow.pllF then
    if s.pow.testHigh then .fault .productionTest
    else
      let s := { s with
        pow := { s.pow with phase := .up, pllF := true, addrSampled := s.pow.addrBalls }
        boot := { s.boot with due := [.cold] } }
      let warn := s.get SYS_STATUS SYS_STATUS_VCOREWARN
      .next (((s.set SYS_STATUS SYS_STATUS_REFOK 1).set SYS_STATUS SYS_STATUS_BOWARN warn).showLock)
  else .next s

/-- PLL_T locks (R84, R305): the counter ticks, from 0. -/
def execPllTLock (s : State) : Host.Outcome State Fault Refusal :=
  .next (if (s.pow.phase = .lock ∨ s.pow.phase = .up ∨ s.pow.phase = .warm) ∧ !s.pow.pllT then
    ({ s with time := 0, pow := { s.pow with pllT := true } }).showLock else s)

/-! ## WARM (R81, R82, R85, R262) -/

/-- WARM resets in a row that began less than 1 s after a replay ended (R431). -/
def State.countQuick (s : State) : JrnSt :=
  let near := match s.jrn.replayEnd with | some t => decide ((s.raw : Int) < t + secTicks) | none => false
  { s.jrn with quick := if near then s.jrn.quick + 1 else 0 }

/-- A wake for another cause finds a remaining count that no command shows (R259). (DESIGN CHOICE, log 27) -/
def State.timerLeft (s : State) : State :=
  if s.pstate != 0 && s.flag SYS_STATUS SYS_STATUS_XT32OK then
    let r := s.left (s.get OAS_WAKETMR OAS_WAKETMR_TICKS)
    r.1.set OAS_WAKETMR OAS_WAKETMR_TICKS r.2
  else s

/-- A WARM reset begins (R81, R312): with SAFEWARM = 1 SAFE is applied to every output, HOLD is set, and everything outside the
AO and TIME islands is reset. The hub is in RUN when it ends (R262). -/
def State.warmBegin (s : State) : State :=
  let safe := s.flag ACT_CTL ACT_CTL_SAFEWARM
  let s := if safe then s.safeAll else s
  let s := s.setHOLD true
  let s := { s with jrn := s.countQuick, boot := { s.boot with ret := s.boot.ret.reject } }
  let s := s.loseFabric warmKeeps
  let s := { s with pow := { s.pow with phase := .warm } }
  let s := if safe then s.raise 22 else s
  let s := s.set OAS_PWRSTATE OAS_PWRSTATE_STATE 0
  let s := s.set OAS_PWRSTATE OAS_PWRSTATE_TRANS 0
  s.bumpSat SYS_RESETCAUSE SYS_RESETCAUSE_WARMCNT 1

/-- VCORE has passed its rising threshold in OASIS with a WARM cause: the WARM reset begins (R262). (DESIGN CHOICE, log 64) -/
def State.warmFromOasis (s : State) : State :=
  let s := s.timerLeft.timeFromAo
  ({ s with pow := { s.pow with warmAfterWake := false, vcoreUp := false, watchOffer := false } }).showLock.warmBegin

/-- A WARM cause arises (R82, R262, R472), with its bit of SYS_RESETCAUSE. In a COLD reset it is ignored; while a WARM reset is
held it extends it; in OASIS it first raises PWR_EN and waits for VCORE, where VCORE has not passed its threshold in a wake that runs.
(DESIGN CHOICE, log 64) (DESIGN CHOICE, log 64) -/
def State.warmCause (s : State) (f : Fld) : State :=
  match s.pow.phase with
  | .cold | .vcore | .lock => s
  | .warm => s.set SYS_RESETCAUSE f 1
  | .up => ((s.set SYS_RESETCAUSE f 1).wake 6 0).timerLeft.warmBegin
  | .oasis =>
    let s := (s.set SYS_RESETCAUSE f 1).wake 6 0
    if s.pow.vcoreUp then s.warmFromOasis else { s with pow := { s.pow with warmAfterWake := true } }

/-- RESET_N is held low for at least 500 ns (R83). -/
def execResetNAssert (s : State) : Host.Outcome State Fault Refusal :=
  .next (match s.pow.phase with
    | .cold | .vcore | .lock => s
    | _ => { s with pow := { s.pow with resetnLow := true } }.warmCause SYS_RESETCAUSE_RESETN)

/-- RESET_N returns high (R85). -/
def execResetNRelease (s : State) : Host.Outcome State Fault Refusal :=
  .next { s with pow := { s.pow with resetnLow := false } }

/-- VCORE falls below 0.755 V (R74): source 1 on the rise of VCOREWARN. -/
def State.vcoreWarn (s : State) : State :=
  if s.flag SYS_STATUS SYS_STATUS_VCOREWARN then s
  else
    let s := (s.set SYS_STATUS SYS_STATUS_VCOREWARN 1).set SYS_STATUS SYS_STATUS_BOWARN 1
    if s.fabric then s.raise 1 else s

/-- VCORE falls below 0.755 V (R74). From the end of an entry into OASIS the detector is ignored (R258), until the wake is complete. In
a COLD reset VCOREWARN shows it; the fabric, which would keep BOWARN and raise the source, is not there. (DESIGN CHOICE, log 72) -/
def execVcoreWarn (s : State) : Host.Outcome State Fault Refusal :=
  .next (match s.pow.phase with
    | .up | .warm => s.vcoreWarn
    | .cold | .vcore | .lock => s.set SYS_STATUS SYS_STATUS_VCOREWARN 1
    | .oasis => s)

/-- VCORE falls below 0.725 V (R74). During a COLD reset it is part of the wait for VCORE (R472). From the end of an entry into OASIS
the detector is ignored (R258), until the wake is complete. (DESIGN CHOICE, log 72) -/
def execVcoreBrownOut (s : State) : Host.Outcome State Fault Refusal :=
  .next (match s.pow.phase with
    | .lock =>
      ({ s with pow := { s.pow with phase := .vcore, pllF := false, pllT := false } }).set SYS_STATUS SYS_STATUS_VCOREWARN 1
    | .up | .warm => ({ s.vcoreWarn with pow := { s.vcoreWarn.pow with vcoreLow := true } }).warmCause SYS_RESETCAUSE_VCOREBOR
    | .cold | .vcore => s.set SYS_STATUS SYS_STATUS_VCOREWARN 1
    | .oasis => s)

/-- VCORE rises past 0.765 V, which clears VCOREWARN, or past 0.745 V, which clears the WARM cause (R74). -/
def execVcoreRecovery (warnOnly : Bool) (s : State) : Host.Outcome State Fault Refusal :=
  .next (if warnOnly then s.set SYS_STATUS SYS_STATUS_VCOREWARN 0
    else { s with pow := { s.pow with vcoreLow := false } })

/-- A SYS_RSTCTL store with REQ = 0b01 (R80). -/
def execSoftWarmReset (s : State) : Host.Outcome State Fault Refusal :=
  .next (if s.fabric then s.warmCause SYS_RESETCAUSE_SOFT else s)

/-- The WARM reset that a watchdog or an escalated fault of a core causes (R80, R231, R235). -/
def State.coreReset (s : State) (f : Fld) (c : Nat) : State :=
  (s.set SYS_RESETCAUSE SYS_RESETCAUSE_CORE c).warmCause f

/-- A count of C0–C7 reaches TIMEOUT (R235): the strobe that would reach it is due. (DEDUCED, log 26) -/
def execWatchdogBite (c : Fin 8) (s : State) : Host.Outcome State Fault Refusal :=
  .next (if s.fabric ∧ s.pow.pllT ∧ s.pstate < 2 ∧ s.wdBites c then s.coreReset SYS_RESETCAUSE_WDOG c else s)

/-- JRN has committed the FAULT record of a core whose bit in CORE_ESC is set (R231): the lowest such core's reset begins. -/
def execFaultEscalation (s : State) : Host.Outcome State Fault Refusal :=
  .next (if s.fabric then
    match (List.range 8).find? fun c => (takeAnswer (.fault c true) s.jrn.acked).isSome with
    | some c => s.coreReset SYS_RESETCAUSE_COREFLT c
    | none => s
  else s)

/-- The pending commits of the launch table are resolved at the release (R433): armed where the record is complete in staging,
else freed with KIND 0x3. Such a record counts as committed; what else waits for its acknowledgement is not (R234, R423). (DEDUCED, log 63) -/
def State.resolveLaunches (s : State) : State :=
  let got := (s.jrn.toAck.map (·.2)) ++ (s.jrn.acked.filter (·.2)).map (·.1)
  let s := (s.tim.table.filter fun p => p.2.st = .pending).foldl (fun s p =>
    let i := p.1
    if got.any fun g => g.frm = .launch i ∧ g.recs.head?.bind (·.body.head?) = some p.2.seq.toNat then s.arm i
    else (s.setL i { p.2 with st := .free, late := false }).lterr 3 i) s
  let j := s.jrn.toAck.foldl (fun j p =>
    match p.2.frm with | .launch _ => j.take p.1 p.2.recs | _ => { j with stale := j.stale - 1 }) s.jrn
  { s with jrn := { j with toAck := [], stale := 0, acked := [] } }

/-- 64 RC cycles after the last WARM cause has cleared the fabric is released (R85): ADDR is sampled, replay begins (R432), and
BOOT is to begin. -/
def execWarmResetRelease (addr : BitVec 3) (s : State) : Host.Outcome State Fault Refusal :=
  if s.pow.phase = .warm ∧ !s.pow.resetnLow ∧ !s.pow.vcoreLow then
    let s := { s with
      pow := { s.pow with phase := .up, addrBalls := addr, addrSampled := addr }
      boot := { s.boot with due := .warm :: s.boot.due } }
    .next ((s.set JRN_STATUS JRN_STATUS_REPLAYING 1).resolveLaunches)
  else .next s

/-! ## AO (R81, R262) -/

/-- C8, the wake watcher and the OAS registers are reset (R81); the power state is what it is. The HIC is not reset: C8's claim stands,
so that no ball changes (R49, R252). (DESIGN CHOICE, log 64) -/
def State.aoClear (s : State) : State :=
  let st := s.rd OAS_PWRSTATE
  let s := ({ s with regs := s.regs.filter fun e => e.1 / 0x10000 ≠ 0x4010 }).wr OAS_PWRSTATE st
  let s := s.setCore 8 {}
  { s with pow := { s.pow with
      watchOffer := false, watchAccept := false, watchGrant := none, watchClaim := none, temp3High := false } }

/-- An AO cause (R80–R82, R262): the reset, a wake from a sleep state, and the load of the OAS section once the fabric runs
(R405, R415). -/
def State.aoReset (s : State) (f : Fld) : State :=
  match s.pow.phase with
  | .cold | .vcore | .lock => s
  | _ =>
    let s := (s.set SYS_RESETCAUSE f 1).aoClear.wake 5 0
    { s with boot := { s.boot with due := s.boot.due ++ [.aoreset] } }

/-- A SYS_RSTCTL store with REQ = 0b10 (R81). -/
def execSoftAoReset (s : State) : Host.Outcome State Fault Refusal :=
  .next (if s.fabric then s.aoReset SYS_RESETCAUSE_SOFTAO else s)

/-- C8's count reaches its timeout (R240). -/
def execOasisWatchdogBite (s : State) : Host.Outcome State Fault Refusal :=
  .next (if s.wdBites 8 then s.aoReset SYS_RESETCAUSE_OASWDOG else s)

/-! ## The watchdogs' strobes (R235, R240) -/

/-- The strobe of C0–C7: every count rises, and those that reach their timeouts cause the WARM reset, in ascending order. (DEDUCED, log 26) -/
def State.wdStrobe (s : State) : State :=
  let bites := (List.range 8).filter s.wdBites
  bites.foldl (fun s c => s.coreReset SYS_RESETCAUSE_WDOG c) ((List.range 8).foldl State.wdAdvance s)

/-- The strobe of C8: its count rises, and where it reaches its timeout causes the AO reset. -/
def State.wdStrobeAo (s : State) : State :=
  if s.wdBites 8 then (s.wdAdvance 8).aoReset SYS_RESETCAUSE_OASWDOG else s.wdAdvance 8

/-- A 10 µs strobe: of the divider in the TIME island for C0–C7, which counts outside NAP and OASIS, or of the AO divider for
C8 (R235, R240). -/
def execWatchdogAdvance (ao : Bool) (s : State) : Host.Outcome State Fault Refusal :=
  .next (if ao then (if s.pow.phase = .cold then s else s.wdStrobeAo)
    else if s.fabric ∧ s.pow.pllT ∧ s.pstate < 2 then s.wdStrobe else s)

end Sys2Proof.Machine
end

