-- ==== Sys2Proof/Machine/LcsOps.lean ====
section
/-! DEFINITION. Life-cycle control beneath its commands: events, the end of a session, LOCK, responses, and the views that the LCS
registers show (R451–R455, R459, R462–R467). -/

namespace Sys2Proof.Machine

open Sys2Proof

/-! ## Events (R467, R468) -/

/-- An LCS-EVENT record sets out for JRN. (DEDUCED, log 68) -/
def State.lcsEvent (s : State) (src argd payload : Nat) : State :=
  s.hand .lcs [{ kind := 8, src, argd, body := [payload] }]

/-- An edge source of LCS or USB; LCS is off with the fabric. -/
def State.lcsRaise (s : State) (src : Nat) : State := if s.fabric then s.raise src else s

/-! ## Fuses (R451–R455) -/

/-- A transition that the counter records blows a fuse in both rows (R451, R467); one that is blown already changes nothing. (DEDUCED, log 68) -/
def State.blow (s : State) (n : Nat) : State :=
  if n ≤ s.lcPend then s
  else (({ s with fuse := { s.fuse with rowA := n, rowB := n } }).lcsEvent 1 n 0).lcsRaise 216

/-- A key slot of the fuses. -/
def State.slotOf (s : State) (k : Nat) : KeySlot := tget s.fuse.slots {} k

/-- A slot is usable: programmed and not revoked (R455). -/
def State.usable (s : State) (k : Nat) : Bool := k < 4 && (s.slotOf k).hash.isSome && !(s.slotOf k).revoked

/-- A LOCK is accepted (R452): in OPEN, with a usable OEM slot. -/
def State.lockOk (s : State) : Bool := s.lcState = 2 && (List.range 4).any s.usable

/-- The DAP is closed (R452, R460, R464): in LOCKED, in SERVICE without the DEBUG role, and from an accepted LOCK on. (DESIGN CHOICE, log 65) -/
def State.dapClosed (s : State) : Bool :=
  s.lcState = 3 || s.lcState = 4 && !s.roles.testBit 4 || s.lcState = 2 && 2 < s.lcPend

/-- The roll-back floor rises to that of a committed image, in LOCKED and SERVICE only (R410, R454, R467). -/
def State.raiseFloor (s : State) (rollback seq : Nat) : State :=
  if (s.lcState = 3 ∨ s.lcState = 4) ∧ s.fuse.floor < rollback then
    ({ s with fuse := { s.fuse with floor := rollback } }).lcsEvent 6 rollback seq
  else s

/-! ## The session (R459) -/

/-- A slot's revocation fuse is blown (R453, R457, R467). -/
def State.revokeSlot (s : State) (k : Nat) : State :=
  ({ s with fuse := { s.fuse with slots := tset {} s.fuse.slots k { s.slotOf k with revoked := true } } }).lcsEvent 5 k 0

/-- Every core that the debug port holds resumes. -/
def State.resumeAll (s : State) : State :=
  ((List.range 9).foldl (fun s c => s.modCore c fun x => { x with held := false }) s).settle

/-- A session ends (R459, R467, R468), with the code of its cause and the minutes used. -/
def State.endSession (s : State) (why used : Nat) : State :=
  let s := { s with lcs := { s.lcs with session := none, heldRet := false } }
  ((s.resumeAll).lcsEvent 3 why used).lcsRaise 216

/-- ENDSVC (R452, R459); outside SERVICE it has no effect. -/
def State.endService (s : State) : State :=
  if s.lcState = 4 then s.minutesUsed.1.endSession 1 s.minutesUsed.2 else s

/-- A store to LCS_CMD (R452, R459): with the key, LOCK or ENDSVC. A refused LOCK sets CFGERR. -/
def State.lcsLockCmd (s : State) : State := if s.lockOk then s.blow 3 else s.cfgErr LCS_CMD

/-- A store to LCS_CMD. -/
def State.lcsCmdStore (s : State) (v : Word) : State :=
  if fieldOf v LCS_CMD_KEY ≠ 0x4C0C then s
  else
    let s := if fieldOf v LCS_CMD_ENDSVC = 1 then s.endService else s
    if fieldOf v LCS_CMD_LOCK = 1 then s.lcsLockCmd else s

/-! ## Responses (R465, R466) -/

/-- The bytes of a response (R465): header, payload, CRC-32C. -/
def Response.bytes (r : Response) : List Byte :=
  let b := [0x55, 1, BitVec.ofNat 8 r.cmd, r.tag] ++ bytesLE 2 r.len ++ [BitVec.ofNat 8 r.status, BitVec.ofNat 8 r.detail] ++ r.payload
  b ++ bytesLE 4 (crc32c b).toNat

/-- A response leaves the hub (R465); over USB it waits while endpoint 2 is halted (R463). (DEDUCED, log 68) -/
def State.replyTo (s : State) (f : UFrame) (cmd status detail len : Nat) (payload : List Byte) : State :=
  let r : Response := { path := f.path, cmd, tag := f.tag, len, status, detail, payload }
  if f.path = .usb && s.lcs.usb.haltIn then { s with lcs := { s.lcs with usb := { s.lcs.usb with late := s.lcs.usb.late ++ [r] } } }
  else { s with lcs := { s.lcs with resp := some r } }

/-- The response of a command that ends leaves the hub (R465), and the port is free for the next command. -/
def State.respond (s : State) (f : UFrame) (cmd status detail : Nat) (payload : List Byte) : State :=
  ({ s with lcs := { s.lcs with waiting := none } }).replyTo f cmd status detail payload.length payload

/-- A word's four bytes (R6). -/
def wordBytes (w : Word) : List Byte := bytesLE 4 w.toNat

/-- The read of a line that JRNREAD waits for has ended: its 64 bytes, or BUSERR where JRN_RDCTL shows ERR. (DEDUCED, log 66) -/
def State.lineReply (s : State) : State :=
  match s.lcs.waiting with
  | some (.line, f) =>
    if s.flag JRN_RDCTL JRN_RDCTL_ERR then s.respond f 4 4 0 []
    else s.respond f 4 0 0 ((List.range 16).flatMap fun k => wordBytes (s.rd (JRN_RDDATA k)))
  | _ => s

/-- The read of a line of the store ends (R449). -/
def execLineReadDone (crcOk : Bool) (s : State) : Host.Outcome State Fault Refusal :=
  match s.jrn.reading with
  | some l => .next (if s.fabric then (s.lineDone l crcOk).lineReply else s)
  | none => .next s

/-! ## Views -/

/-- PEND (R451): the counter value after the next COLD reset while a transition waits for it, else its reset value. (DEDUCED, log 68) -/
def State.pendShown (s : State) : Nat := if s.lcs.counter < s.lcPend then s.lcPend else 0

/-- LCS_STATE (R451). -/
def State.lcsStateWord (s : State) : Word :=
  BitVec.ofNat 32 (s.lcState + s.roles * 2 ^ 16 + s.pendShown * 2 ^ 24)

/-- TOKFAIL and HELDRET beside the stored bits of LCS_STATUS. -/
def State.lcsStatusWord (s : State) : Word :=
  setField (setField (s.rd LCS_STATUS) LCS_STATUS_TOKFAIL (min 8 s.lcs.fails)) LCS_STATUS_HELDRET s.lcs.heldRet.toNat

/-- LCS_SVC: the minutes that remain lie between 1 and those that it last showed. (DEDUCED, log 67) -/
def State.lcsSvc (s : State) : State × Word :=
  match s.lcs.session with
  | none => (s, 0)
  | some x =>
    let r := s.left x.left
    ({ r.1 with lcs := { r.1.lcs with session := some { x with left := r.2 } } }, BitVec.ofNat 32 (r.2 * 2 ^ 16 + x.slot % 4))

/-- The DP pull-up is connected (R463): USB_VBUS is above 4.0 V, or has not fallen below 3.6 V since it was. -/
def State.attached (s : State) : Bool :=
  (s.lcs.vbus = .high || s.lcs.vbus = .mid && s.lcs.usb.kept) && s.flag LCS_USB LCS_USB_EN && s.fabric

/-- LCS_USB. -/
def State.lcsUsbWord (s : State) : Word :=
  BitVec.ofNat 32 ((s.flag LCS_USB LCS_USB_EN).toNat + 2 * (s.lcs.vbus = .high : Bool).toNat + 4 * s.attached.toNat + 8 * s.lcs.usb.configured.toNat)

/-- A store to LCS_USB (R463): a controller that is off leaves the bus. -/
def State.lcsUsbStore (s : State) (v : Word) : State :=
  let s := s.storeReg LCS_USB v
  if s.attached then s else { s with lcs := { s.lcs with usb := {} } }

/-- LCS_KEYS (R455). -/
def State.lcsKeysWord (s : State) : Word :=
  BitVec.ofNat 32 ((List.range 4).foldl (fun n k =>
    n + (s.slotOf k).hash.isSome.toNat * 2 ^ k + (s.slotOf k).revoked.toNat * 2 ^ (4 + k)) (s.fuse.vendor.isSome.toNat * 2 ^ 8))

/-- A store to the window of LCS, by a requester that may make it. -/
def State.lcsStore (s : State) (a : Nat) (v : Word) : State :=
  if a = LCS_CMD then s.lcsCmdStore v
  else if a = LCS_USB then s.lcsUsbStore v
  else s.storeReg a v

/-- A load from the window of LCS. -/
def State.lcsLoad (s : State) (a : Nat) : State × Word :=
  if a = LCS_STATE then (s, s.lcsStateWord)
  else if a = LCS_STATUS then (s, s.lcsStatusWord)
  else if a = LCS_SVC then s.lcsSvc
  else if a = LCS_USB then (s, s.lcsUsbWord)
  else if a = LCS_USBID then (s, s.fuse.pid ++ s.fuse.vid)
  else if a = LCS_KEYS then (s, s.lcsKeysWord)
  else if LCS_DEVID 0 ≤ a ∧ a ≤ LCS_DEVID 3 then (s, (s.fuse.devid.extractLsb' (32 * ((a - LCS_DEVID 0) / 4)) 32))
  else (s, s.rd a)

end Sys2Proof.Machine
end

