-- ==== Sys2Proof/Machine/BootOps.lean ====
section
/-! DEFINITION. The settings loader beneath its commands: the image's layout, the retained copy, commits of trials, and flash
commands (R401–R406, R410, R411, R413, R414, R417–R419). -/

namespace Sys2Proof.Machine

open Sys2Proof

/-! ## The image (R402–R405) -/

/-- A number of `n` bytes at an offset. -/
def leAt (l : List Byte) (off n : Nat) : Nat := ofBytesLE (l.drop off |>.take n)

/-- SEQ. -/
def Image.seq (i : Image) : Nat := leAt i.head 0x0C 4
/-- VERSION. -/
def Image.version (i : Image) : Nat := leAt i.head 0x08 4
/-- ROLLBACK. -/
def Image.rollback (i : Image) : Nat := leAt i.head 0x10 1
/-- NSECT. -/
def Image.nsect (i : Image) : Nat := leAt i.head 0x11 1
/-- KEYSLOT. -/
def Image.keyslot (i : Image) : Nat := leAt i.head 0x12 1
/-- IMGLEN. -/
def Image.imglen (i : Image) : Nat := leAt i.head 0x14 4
/-- COLD_RESUME. -/
def Image.coldResume (i : Image) : Bool := leAt i.head 0x06 2 % 2 = 1
/-- The signature block's place: S (R404). -/
def Image.sigAt (i : Image) : Nat := 0x40 + 48 * i.nsect

/-- An entry of the section table (R403). -/
structure Sect where
  typ : Nat
  inst : Nat
  off : Nat
  len : Nat
  scrc : Nat
  digest : List Byte
  deriving DecidableEq, Repr

/-- Entry `k` of the section table. -/
def Image.sect (i : Image) (k : Nat) : Sect :=
  let b := 0x40 + 48 * k
  { typ := leAt i.head b 1, inst := leAt i.head (b + 1) 1, off := leAt i.head (b + 4) 4, len := leAt i.head (b + 8) 4
    scrc := leAt i.head (b + 12) 4, digest := i.head.drop (b + 16) |>.take 32 }

/-- A data section's destination lies in shared data SRAM; else in Oasis data memory (R405, R406). -/
def dataInSram (body : List Byte) : Bool := leAt body 0 4 < 0x100000

/-- A section that a load of a kind applies (R405). -/
def appliesOn (l : Load) (x : Sect) (body : List Byte) : Bool :=
  match l with
  | .cold => x.typ != 0x30
  | .warm => x.typ = 1 && x.inst != 8 || x.typ = 2 || 0x10 ≤ x.typ && x.typ ≤ 0x17 || 0x1A ≤ x.typ && x.typ ≤ 0x1D
  | .wake => x.typ = 1 && x.inst != 8 || x.typ = 2 || 0x10 ≤ x.typ && x.typ ≤ 0x1D || x.typ = 0x20 && dataInSram body
  | .aoreset => x.typ = 0x1E

/-- A section that the retained copy holds (R413). -/
def retains (x : Sect) (body : List Byte) : Bool :=
  appliesOn .warm x body || appliesOn .wake x body || appliesOn .aoreset x body

/-! ## The retained copy (R411, R413, R414) -/

/-- The registers that show the retained area and the roll-back floor. (DEDUCED, log 53) -/
def State.retRegs (s : State) : State :=
  let r := s.boot.ret
  let s := s.set BOOT_INFO BOOT_INFO_FLOOR s.fuse.floor
  let s := (s.set BOOT_STATUS BOOT_STATUS_RETVALID r.valid.toNat).set BOOT_STATUS BOOT_STATUS_RETNONE r.none_.toNat
  (s.wr BOOT_RET0 (BitVec.ofNat 32 (r.committed.getD 0))).wr BOOT_RET1 (BitVec.ofNat 32 r.lines)

/-- The table indices of the sections of the running image that the copy holds. -/
def Image.retained (i : Image) : List Nat :=
  (List.range i.nsect).filter fun k => retains (i.sect k) (tget i.bodies [] k)

/-- The lines of a copy: one for its header, and its sections one behind the other. (DEDUCED, log 55) -/
def Image.copyLines (i : Image) : Nat :=
  1 + ((i.retained.foldl (fun n k => n + (i.sect k).len) 0) + 63) / 64

/-- The part of an image that the copy holds. -/
def Image.copyOf (i : Image) : Image := { i with bodies := i.bodies.filter fun e => i.retained.contains e.1 }

/-- The store of the retained copy begins (R414, R428), unless the copy already holds the image or cannot. (DEDUCED, log 55) -/
def State.startCopy (s : State) : State :=
  let b := s.boot
  let n := b.run.copyLines
  if b.ret.valid ∧ b.ret.copy.head = b.run.head then s
  else if 8192 < n then
    ({ s with boot := { b with copying := false, ret := { b.ret with copy := {}, valid := false, none_ := true, lines := 1 } } }).retRegs
  else
    let s := { s with
      boot := { b with copying := true, ret := { b.ret with copy := {}, valid := false, none_ := false, lines := n } }
      jrn := { s.jrn with
        store := s.jrn.store.filter fun e => n ≤ e.1, partialAt := s.jrn.partialAt.filter (n ≤ ·)
        tail := s.jrn.tail.filter (n ≤ ·.1), writing := s.jrn.writing.filter (n ≤ ·.1) } }
    ((s.set JRN_STATUS JRN_STATUS_FLUSHBUSY s.jrn.writing.isSome.toNat).newEpoch b.run.seq).retRegs

/-- The retained copy has been stored (R414). (DEDUCED, log 55) -/
def execRetainedCopyDone (s : State) : Host.Outcome State Fault Refusal :=
  .next (if s.fabric ∧ s.boot.copying then
    (({ s with boot := { s.boot with
        copying := false, ret := { s.boot.ret with copy := s.boot.run.copyOf, valid := true } } }).retRegs).raise 210
  else s)

/-- The running image is recorded as committed, and the roll-back floor rises to it (R410, R411). -/
def State.setCommitted (s : State) : State :=
  let i := s.boot.run
  let s := { s with boot := { s.boot with ret := { s.boot.ret with committed := some i.seq, trial := none } } }
  ((s.set BOOT_STATUS BOOT_STATUS_TRIAL 0).raiseFloor i.rollback i.seq).retRegs

/-- A trial image is committed, and its copy begins (R411, R414). -/
def State.commitImage (s : State) : State := s.setCommitted.startCopy

/-- A store to BOOT_COMMIT (R411). -/
def State.commitStore (s : State) (v : Word) : State :=
  if fieldOf v BOOT_COMMIT_KEY = 0x3D71 ∧ fieldOf v BOOT_COMMIT_COMMIT = 1 ∧ s.flag BOOT_STATUS BOOT_STATUS_TRIAL then
    s.commitImage
  else s

/-- A keyed write to BOOT_COMMIT (R411). -/
def execImageCommit (v : Word) (s : State) : Host.Outcome State Fault Refusal := .next (if s.fabric then s.commitStore v else s)

/-- A store to BOOT_UPDATE (R415, R419). -/
def State.updateStore (s : State) (v : Word) : State :=
  if fieldOf v BOOT_UPDATE_KEY = 0x3D71 then s.storeReg BOOT_UPDATE v else s

/-- A keyed write to BOOT_UPDATE (R415). The register lies in the AO island, where C8 reaches it through OASIS and a WARM reset (R227, R240). -/
def execUpdateRequest (v : Word) (s : State) : Host.Outcome State Fault Refusal :=
  .next (if s.fabric ∨ s.pow.phase = .oasis ∨ s.pow.phase = .warm then s.updateStore v else s)

/-! ## Flash commands (R417, R418) -/

/-- The flash bytes of a slot (R401); without SFDP slot A, as far as 3-byte addresses reach (R400). (DESIGN CHOICE, log 51) -/
def slotRange (density slot : Nat) : Nat × Nat :=
  if density = 0 then (0, 2 ^ 24) else (slot * (density / 2), (slot + 1) * (density / 2))

/-- A command with WREN = 1 that BOOT refuses (R418). (DESIGN CHOICE, log 56) -/
def State.flashProt (s : State) : Bool :=
  let i := s.boot.run
  let lo := (s.rd BOOT_FADDR).toNat
  let hi := lo + max 1 (s.get BOOT_FLEN BOOT_FLEN_LEN)
  let r := slotRange i.density i.slot
  s.flag BOOT_FCMD BOOT_FCMD_WREN &&
    (!s.flag BOOT_FCMD BOOT_FCMD_ADDREN || i.head != [] && lo < r.2 && r.1 < hi)

/-- The service port's answer to FLASHCMD (R466): BOOT_FSTAT, then the data of a read. -/
def State.flashReply (s : State) : State :=
  match s.lcs.waiting with
  | some (.flash, f) =>
    let n := if s.flag BOOT_FCMD BOOT_FCMD_WRITE then 0 else s.get BOOT_FLEN BOOT_FLEN_LEN
    s.respond f 5 0 0 (wordBytes (s.rd BOOT_FSTAT) ++ bytesLE n (s.mrd 0xFFF00 n))
  | _ => s

/-- A flash command ends (R417, R419): 1 OK, 2 PROT, 3 BUSERR, 4 TIMEOUT. -/
def State.flashEnd (s : State) (result : Nat) : State :=
  let s := (s.set BOOT_FSTAT BOOT_FSTAT_BUSY 0).set BOOT_FSTAT BOOT_FSTAT_DONE 1
  ((s.set BOOT_FSTAT BOOT_FSTAT_RESULT result).raise 209).flashReply

/-- The data of a write, read from shared data SRAM byte by byte; `none` where a read meets a bus error. -/
def State.flashOut (s : State) (a : Nat) : Nat → State × Option (List Byte)
  | 0 => (s, some [])
  | k + 1 =>
    if 0x100000 ≤ a then (s, none)
    else
      let r := s.memLoad a 1
      if r.2.2 then (r.1, none)
      else
        let t := r.1.flashOut (a + 1) k
        (t.1, t.2.map (BitVec.ofNat 8 r.2.1 :: ·))

/-- The data of a read, stored into shared data SRAM; the flag says that a store met a bus error. -/
def State.flashIn (s : State) (a : Nat) : List Byte → State × Bool
  | [] => (s, false)
  | b :: l =>
    if 0x100000 ≤ a then (s, true)
    else
      let r := s.memStore a 1 b.toNat
      if r.2 then r else r.1.flashIn (a + 1) l

/-- BOOT sends a command to the flash: its word in the layout of BOOT_FCMD, its address, and the data to the flash. -/
def State.flashOp (s : State) (cmd addr : Word) (data : List Byte) : State :=
  { s with boot := { s.boot with sent := s.boot.sent ++ [FlashOp.mk cmd addr data] } }

/-- An instruction without an address or data, as BOOT sends it by itself (R398, R399, R417). -/
def State.flashInst (s : State) (instr : Nat) : State := s.flashOp (BitVec.ofNat 32 instr) 0 []

/-- The command goes out (R417): with WREN = 1, Write Enable goes before it. -/
def State.flashOutgo (s : State) (data : List Byte) : State :=
  let s := if s.flag BOOT_FCMD BOOT_FCMD_WREN then s.flashInst 6 else s
  s.flashOp (s.rd BOOT_FCMD) (s.rd BOOT_FADDR) data

/-- The command is sent: with WREN = 1 the status is polled next (R417). (DESIGN CHOICE, log 56) -/
def State.flashSend (s : State) (data : List Byte) : State :=
  let s := s.flashOutgo data
  if s.flag BOOT_FCMD BOOT_FCMD_WREN then s.set BOOT_FSTAT BOOT_FSTAT_BUSY 1 else s.flashEnd 1

/-- The answer of the flash to a read of `n` bytes; bytes that the command does not show are free values. -/
def State.flashAnswer (s : State) (n : Nat) (answer : List Byte) : State × List Byte :=
  let r := s.freeBytes (n - answer.length)
  (r.1, answer.take n ++ r.2)

/-- GO (R417, R418). (DESIGN CHOICE, log 56) -/
def State.flashGo (s : State) (answer : List Byte) : State :=
  let n := s.get BOOT_FLEN BOOT_FLEN_LEN
  let a := s.get BOOT_FBUF BOOT_FBUF_BASE
  if s.flashProt then s.flashEnd 2
  else if s.flag BOOT_FCMD BOOT_FCMD_WRITE then
    let r := s.flashOut a n
    match r.2 with
    | none => r.1.flashEnd 3
    | some l => r.1.flashSend l
  else
    let d := s.flashAnswer n answer
    let r := d.1.flashIn a d.2
    if r.2 then (r.1.flashOutgo []).flashEnd 3 else r.1.flashSend []

/-- A store to BOOT_FCMD (R417): its fields, and with GO, unless a command runs, the command. (DESIGN CHOICE, log 56) -/
def State.fcmdStore (s : State) (v : Word) (answer : List Byte) : State :=
  let s := s.storeReg BOOT_FCMD v
  if fieldOf v BOOT_FCMD_GO = 1 ∧ !s.flag BOOT_FSTAT BOOT_FSTAT_BUSY then s.flashGo answer else s

/-- GO in BOOT_FCMD, with what the flash answers (R417). -/
def execFlashCommand (v : Word) (answer : List Byte) (s : State) : Host.Outcome State Fault Refusal :=
  .next (if s.fabric then s.fcmdStore (v ||| 0x80000000) answer else s)

/-- A poll of the flash's status (R417). -/
def execFlashStatusPoll (sr : Byte) (s : State) : Host.Outcome State Fault Refusal :=
  .next (if s.fabric ∧ s.flag BOOT_FSTAT BOOT_FSTAT_BUSY then
    let s := (s.flashInst 5).set BOOT_FSTAT BOOT_FSTAT_SR sr.toNat
    if sr.toNat % 2 = 0 then s.flashEnd 1 else s
  else s)

/-- The polls have lasted 4 s (R417). -/
def execFlashPollTimeout (s : State) : Host.Outcome State Fault Refusal :=
  .next (if s.fabric ∧ s.flag BOOT_FSTAT BOOT_FSTAT_BUSY then s.flashEnd 4 else s)

/-- A store to the window of BOOT. What the flash answers to a command that a bus store starts, no command shows. -/
def State.bootStore (s : State) (a : Nat) (v : Word) : State :=
  if a = BOOT_COMMIT then s.commitStore v
  else if a = BOOT_UPDATE then s.updateStore v
  else if a = BOOT_FCMD then s.fcmdStore v []
  else s.storeReg a v

end Sys2Proof.Machine
end

