-- ==== Sys2Proof/Machine/Caer.lean ====
section
/-! DEFINITION. The Caer links: bringing a link up, receiving frames, line time, messages, forwarders, the line reset, and the
mirror pair (R353–R378). -/

namespace Sys2Proof.Machine

open Sys2Proof

/-! ## Links (R355, R356, R362) -/

/-- STATE of a link: 0 OFF, 1 TRAIN, 2 UP, 3 IDERR. -/
def State.linkState (s : State) (n : Nat) : Nat := s.get (CAER_LINK_STAT n) CAER_LINK_STAT_STATE

/-- STATE of a link replaced. -/
def State.setLink (s : State) (n k : Nat) : State := s.set (CAER_LINK_STAT n) CAER_LINK_STAT_STATE k

/-- This hub is the upstream end of the link (R362). -/
def State.upEnd (s : State) (n : Nat) : Bool := s.hub = 0 || s.get CAER_ID CAER_ID_UPLINK != n

/-- Training begins: both sequences start at 0 and the IDENT counts at `rx` and 0. (DESIGN CHOICE, log 43) -/
def State.train (s : State) (n rx : Nat) : State :=
  (s.modLink n fun x => { x with
    identRx := rx, identTx := 0, nextSeq := 0, expSeq := 0, unacked := [], waiting := [], ackDue := false }).setLink n 1

/-- The frames that wait on a link to be sent or acknowledged, journal records on the partner link among them (R356, R373). (DESIGN CHOICE, log 43) -/
def State.waitingFrames (s : State) (n : Nat) : Nat :=
  (s.link n).unacked.length + (s.link n).waiting.length + (if n = s.plink then s.caer.jbuf.length else 0)

/-- The records that wait for the partner link are discarded with its frames. -/
def State.dropJournal (s : State) (n : Nat) : State :=
  if n = s.plink then { s with caer := { s.caer with jbuf := [] } } else s

/-- An UP or IDERR link fails (R356): its frames are discarded and counted, and source 193 is raised. (DESIGN CHOICE, log 43) -/
def State.failLink (s : State) (n : Nat) : State :=
  let s := s.bumpSat (CAER_LINK_ERR n) CAER_LINK_ERR_DROP (s.waitingFrames n)
  ((s.dropJournal n).train n 0).raise 193

/-- A store to CAER_LINK_CFG (R355): EN turns the port on in TRAIN, or OFF. On the GLS9624 link 1 ignores it (R378). (DESIGN CHOICE, log 43) -/
def State.linkCfgStore (s : State) (n : Nat) (v : Word) : State :=
  if s.nCaer ≤ n then s
  else
    let was := s.flag (CAER_LINK_CFG n) CAER_LINK_CFG_EN
    let s := s.storeReg (CAER_LINK_CFG n) v
    let now := s.flag (CAER_LINK_CFG n) CAER_LINK_CFG_EN
    if !was && now then s.train n 0
    else if was && !now then
      let s := (s.dropJournal n).train n 0
      (s.modLink n fun x => { x with exUp := none, exDown := none }).wr (CAER_LINK_STAT n) 0
    else s

/-- EN in CAER_LINK_CFG (R355). -/
def execLinkEnable (n : Port) (v : Word) (s : State) : Host.Outcome State Fault Refusal :=
  .next (if s.fabric then s.linkCfgStore n v else s)

/-- A TRAIN link with 3 intact IDENT frames received and 3 sent is UP, with source 192, and carries what waits for it (R355, R373). -/
def State.checkUp (s : State) (n : Nat) : State :=
  if s.linkState n = 1 ∧ 3 ≤ (s.link n).identRx ∧ 3 ≤ (s.link n).identTx then ((s.setLink n 2).raise 192).pump n 16 else s

/-- The variant as a number: 0 GLS9696, 1 GLS9648, 2 GLS9624. -/
def State.variantCode (s : State) : Nat := match s.variant with | .gls9696 => 0 | .gls9648 => 1 | .gls9624 => 2

/-- The IDENT frame of this hub (R358): hub number, end, variant, PEN and partner number, one byte each in the model's record. (DESIGN CHOICE, log 43) -/
def State.identFrame (s : State) (n : Nat) : CFrame :=
  { typ := 11, src := s.hub
    payload := [s.hub, (s.upEnd n).toNat, s.variantCode, s.get CAER_PAIR_CFG CAER_PAIR_CFG_PEN,
      s.get (CAER_LINK_STAT s.plink) CAER_LINK_STAT_PEERHUB, 0, 0, 0].map (BitVec.ofNat 8) }

/-- Every 10 µs a training port sends IDENT (R355); one in IDERR carries IDENT alone. -/
def execIdentTimer (n : Port) (s : State) : Host.Outcome State Fault Refusal :=
  .next (if s.fabric ∧ (s.linkState n = 1 ∨ s.linkState n = 3) then
    ((s.transmit n (s.identFrame n)).modLink n fun x => { x with identTx := x.identTx + 1 }).checkUp n else s)

/-- Alignment is lost, or more than 8 invalid code groups fall within 1 µs (R356). -/
def execLinkFail (n : Port) (s : State) : Host.Outcome State Fault Refusal :=
  if s.fabric then
    let k := s.linkState n
    let s := s.set (CAER_LINK_STAT n) CAER_LINK_STAT_LOCK 0
    .next (if k = 2 ∨ k = 3 then s.failLink n else s)
  else .next s

/-- Why an IDENT fails its checks (R355): 1 the receiver's own number, 2 both ends upstream or both downstream; 0 it passes. -/
def State.identCode (s : State) (n hub : Nat) (up : Bool) : Nat :=
  if hub = s.hub then 1 else if up = s.upEnd n then 2 else 0

/-- What an IDENT says of the peer (R355, R371). -/
def State.peerIs (s : State) (n hub : Nat) (up pen : Bool) (partner : Nat) : State :=
  let a := CAER_LINK_STAT n
  let s := (s.set a CAER_LINK_STAT_PEERHUB hub).set a CAER_LINK_STAT_PEERUP up.toNat
  let s := (s.set a CAER_LINK_STAT_PEERPEN pen.toNat).set a CAER_LINK_STAT_LOCK 1
  let s := s.modLink n fun x => { x with partner }
  if s.mirrors && s.flag CAER_PAIR_CFG CAER_PAIR_CFG_PEN && n = s.plink then s.set CAER_PAIR_STAT CAER_PAIR_STAT_PHUB hub else s

/-- A received IDENT (R355): it is checked, and advances the link. (DESIGN CHOICE, log 43) -/
def State.identIn (s : State) (n hub : Nat) (up pen : Bool) (partner : Nat) : State :=
  let s := s.peerIs n hub up pen partner
  let code := s.identCode n hub up
  if code ≠ 0 then
    let s := s.set (CAER_LINK_STAT n) CAER_LINK_STAT_CODE code
    if s.linkState n = 3 then s else (s.setLink n 3).raise 195
  else
    let s := s.set (CAER_LINK_STAT n) CAER_LINK_STAT_CODE 0
    match s.linkState n with
    | 1 => (s.modLink n fun x => { x with identRx := x.identRx + 1 }).checkUp n
    | 3 => s.train n 1
    | _ => s

/-- A received IDENT frame (R355). -/
def execIdent (n : Port) (hub : BitVec 4) (up pen : Bool) (_variant : BitVec 2) (partner : BitVec 4) (s : State) :
    Host.Outcome State Fault Refusal :=
  .next (if s.fabric ∧ s.linkState n ≠ 0 then s.identIn n hub.toNat up pen partner.toNat else s)

/-! ## Receiving (R357, R360, R361) -/

/-- A received frame. -/
def hdrFrame (h : CaerHdr) (typ : Nat) (payload : List Byte) : CFrame :=
  { typ, hops := h.hops.toNat, src := h.src.toNat, dst := h.dst.toNat, bc := h.bc, dstq := h.dstq.toNat, payload }

/-- The acknowledgement in a header (R360). -/
def State.hdrAck (s : State) (n : Nat) (h : CaerHdr) : State := if h.ackv then s.caerAcked n h.ackseq.toNat else s

/-- Own frame received: LOOP and source 195 (R361). -/
def State.loopSeen (s : State) : State := (s.set CAER_STATUS CAER_STATUS_LOOP 1).raise 195

/-- CAER_DIR learns on which link a hub lies (R361). (DEDUCED, log 44) -/
def State.learnDir (s : State) (n h : Nat) : State :=
  if h = s.hub then s else s.set CAER_DIR ⟨2 * h, 2⟩ (n + 1)

/-- An intact frame that is not sequenced arrives (R360, R361): `take` is what it does. -/
def State.localIn (s : State) (n : Nat) (h : CaerHdr) (take : State → State) : State :=
  if s.fabric && s.linkUp n then
    let s := s.hdrAck n h
    if h.src.toNat = s.hub then s.loopSeen else take s
  else s

/-- An intact sequenced frame arrives (R360, R361): only the next number in order is accepted, and every one is answered. (DEDUCED, log 44) -/
def State.seqIn (s : State) (n : Nat) (h : CaerHdr) (take : State → State) : State :=
  if s.fabric && s.linkUp n then
    let s := (s.hdrAck n h).learnDir n h.src.toNat
    let ok := decide (h.lseq.toNat = (s.link n).expSeq)
    let s := s.modLink n fun x => { x with ackDue := true, expSeq := if ok then (x.expSeq + 1) % 4096 else x.expSeq }
    if !ok then s else if h.src.toNat = s.hub then s.loopSeen else take s
  else s

/-- A frame that goes to every hub or to one (R361): it is relayed, taken, or both. -/
def State.lineDeliver (s : State) (n : Nat) (f : CFrame) (take : State → State) : State :=
  if f.bc then take (s.relay n f) else if f.dst = s.hub then take s else s.relay n f

/-- A received ACK frame (R360). -/
def execAck (n : Port) (h : CaerHdr) (s : State) : Host.Outcome State Fault Refusal := .next (s.localIn n h id)

/-! ## Line time (R363, R364) -/

/-- A timestamp in 1/16 ns in the layout of TIME_NOW0–TIME_NOW2, with the exchange number and 16 bits of 0 (R358). -/
def stampBytes (t xn : Nat) : List Byte :=
  let ns := t / 16
  let sec := ns / 1000000000
  bytesLE 4 (ns % 1000000000) ++ bytesLE 4 sec ++ bytesLE 2 (sec / 2 ^ 32) ++ bytesLE 2 (t % 16 * 4096) ++ bytesLE 2 xn ++
    bytesLE 2 0

/-- The period of exchanges in ticks, from SYNCRATE. -/
def State.exchangePeriod (s : State) (n : Nat) : Nat := secTicks / 8 ^ s.get (CAER_LINK_CFG n) CAER_LINK_CFG_SYNCRATE

/-- The next whole multiple of a period, the present instant among them. -/
def nextMultiple (t p : Nat) : Nat := (t + p - 1) / p * p

/-- The upstream end of an UP link starts an exchange with TIME (R363). (DEDUCED, log 45) -/
def execExchangeStart (n : Port) (t1 : Nat) (s : State) : Host.Outcome State Fault Refusal :=
  if s.fabric ∧ s.pow.pllT ∧ s.linkUp n ∧ s.upEnd n then
    let s := s.passTo (nextMultiple s.time (s.exchangePeriod n))
    let xn := (s.link n).exNum
    let s := s.modLink n fun x => { x with exUp := some (t1, xn), exNum := (xn + 1) % 65536 }
    .next (s.transmit n { typ := 1, src := s.hub, payload := stampBytes t1 xn })
  else .next s

/-- The downstream end answers TIME with DREQ (R363). -/
def State.timeIn (s : State) (n t1 xn t2 t3 : Nat) : State :=
  if s.upEnd n then s
  else (s.modLink n fun x => { x with exDown := some (xn, t1, t2, t3) }).transmit n
    { typ := 2, src := s.hub, payload := stampBytes t3 xn }

/-- A received TIME frame (R363). (DEDUCED, log 45) -/
def execTime (n : Port) (h : CaerHdr) (t1 xn t2 t3 : Nat) (s : State) : Host.Outcome State Fault Refusal :=
  .next (s.localIn n h fun s => s.timeIn n t1 xn t2 t3)

/-- The upstream end answers DREQ of its exchange with DRESP (R363). -/
def State.dreqIn (s : State) (n xn t4 : Nat) : State :=
  match (s.link n).exUp with
  | some (_, k) =>
    if k = xn then (s.modLink n fun x => { x with exUp := none }).transmit n
      { typ := 3, src := s.hub, payload := stampBytes t4 xn }
    else s
  | none => s

/-- A received DREQ frame (R363). (DEDUCED, log 45) -/
def execDreq (n : Port) (h : CaerHdr) (_t3 xn t4 : Nat) (s : State) : Host.Outcome State Fault Refusal :=
  .next (s.localIn n h fun s => s.dreqIn n xn t4)

/-- ASYM, signed. -/
def State.asym (s : State) (n : Nat) : Int := signedOf 16 (s.get (CAER_LINK_ASYM n) CAER_LINK_ASYM_ASYM)

/-- The offset of a completed exchange in 1/16 ns (R364). -/
def offsetOf (t1 t2 t3 t4 : Nat) (asym : Int) : Int := roundHalfUp (((t2 : Int) - t1) - ((t4 : Int) - t3) - asym) 2

/-- The mean path delay (R364). -/
def delayOf (t1 t2 t3 t4 : Nat) : Int := roundHalfUp (((t2 : Int) - t1) + ((t4 : Int) - t3)) 2

/-- A completed exchange (R364): the results are written, and the offset of the UPLINK goes to the servo where SRC selects it. -/
def State.exchanged (s : State) (n t1 t2 t3 t4 : Nat) : State :=
  let o := BitVec.ofInt 32 (offsetOf t1 t2 t3 t4 (s.asym n))
  let s := (s.wr (CAER_LINK_OFFS n) o).wr (CAER_LINK_DELAY n) (BitVec.ofInt 32 (delayOf t1 t2 t3 t4))
  if s.get CAER_ID CAER_ID_UPLINK = n ∧ s.hub ≠ 0 ∧ s.get TIME_SRV_CFG TIME_SRV_CFG_SRC = 2 + n then
    { s with tim := { s.tim with samples := s.tim.samples ++ [(n, o)] } }
  else s

/-- DRESP completes the exchange that it belongs to. -/
def State.drespIn (s : State) (n t4 xn : Nat) : State :=
  match (s.link n).exDown with
  | some (k, t1, t2, t3) =>
    if k = xn then (s.modLink n fun x => { x with exDown := none }).exchanged n t1 t2 t3 t4 else s
  | none => s

/-- A received DRESP frame (R364). (DEDUCED, log 45) -/
def execDresp (n : Port) (h : CaerHdr) (t4 xn : Nat) (s : State) : Host.Outcome State Fault Refusal :=
  .next (s.localIn n h fun s => s.drespIn n t4 xn)

/-- An exchange is abandoned 100 µs after TIME, and counted (R363). (DEDUCED, log 45) -/
def execExchangeTimeout (n : Port) (s : State) : Host.Outcome State Fault Refusal :=
  .next (if s.fabric ∧ ((s.link n).exUp.isSome ∨ (s.link n).exDown.isSome) then
    (s.modLink n fun x => { x with exUp := none, exDown := none }).bumpSat (CAER_LINK_ERR n) CAER_LINK_ERR_LOSTSYNC 1
  else s)

/-! ## Launches, messages, peer values, commands (R366–R370) -/

/-- The payload of a LAUNCH frame (R366). -/
def launchPayload (time : BitVec 64) (arg : Word) (action : BitVec 16) (flags : Byte) : List Byte :=
  bytesLE 8 time.toNat ++ bytesLE 4 arg.toNat ++ bytesLE 2 action.toNat ++ [flags, 0]

/-- A received LAUNCH frame (R366): it is relayed before the entry goes to TIME. -/
def execLaunch (n : Port) (h : CaerHdr) (time : BitVec 64) (arg : Word) (action : BitVec 16) (flags : Byte) (s : State) :
    Host.Outcome State Fault Refusal :=
  .next (s.seqIn n h fun s => s.lineDeliver n (hdrFrame h 4 (launchPayload time arg action flags)) fun s =>
    s.receiveLaunch (receivedEntry h.src.toNat time.toNat arg.toNat action.toNat flags.toNat))

/-- A received MSG frame (R367). -/
def execMsg (n : Port) (h : CaerHdr) (word : Word) (s : State) : Host.Outcome State Fault Refusal :=
  .next (s.seqIn n h fun s => s.lineDeliver n (hdrFrame h 5 (bytesLE 8 word.toNat)) fun s => s.mailbox h.src.toNat word)

/-- A received PEER frame writes TEU_PEER[IDX]; a hub without the TEU discards it (R368). -/
def execPeer (n : Port) (h : CaerHdr) (idx : BitVec 6) (value : Word) (s : State) : Host.Outcome State Fault Refusal :=
  .next (s.seqIn n h fun s => s.lineDeliver n (hdrFrame h 6 (bytesLE 4 idx.toNat ++ bytesLE 4 value.toNat)) fun s =>
    if s.nTeu = 0 then s else s.wr (TEU_PEER idx.toNat) value)

/-- CMDREF with source 195 (R370, R377). -/
def State.cmdRef (s : State) : State := (s.set CAER_STATUS CAER_STATUS_CMDREF 1).raise 195

/-- A received CMD frame (R370): from the manager it is relayed where it goes on, and begins a WARM reset; from any other hub it
is discarded with CMDREF. -/
def execCmd (n : Port) (h : CaerHdr) (code : Byte) (s : State) : Host.Outcome State Fault Refusal :=
  .next (s.seqIn n h fun s =>
    if h.src.toNat ≠ 0 then s.cmdRef
    else s.lineDeliver n (hdrFrame h 7 (bytesLE 8 code.toNat)) fun s => if code = 1 then s.warmCause SYS_RESETCAUSE_CAER else s)

/-- A frame of the pair link is for JRN: the hub is PAIRED there (R446). -/
def State.fromPartner (s : State) (n : Nat) : Bool := s.mirrors && s.pair = 2 && n = s.plink

/-- A received HEART frame (R374, R448). -/
def execHeart (n : Port) (h : CaerHdr) (jseq : Word) (s : State) : Host.Outcome State Fault Refusal :=
  .next (s.seqIn n h fun s => if s.fromPartner n then s.pHeart jseq.toNat else s)

/-- A received JRNL frame (R446). -/
def execJrnl (n : Port) (h : CaerHdr) (record : List Byte) (s : State) : Host.Outcome State Fault Refusal :=
  .next (s.seqIn n h fun s => if s.fromPartner n then s.pRecord record else s)

/-- A received QITEMS frame pushes its items in order (R369), behind the source events CAER has sent (R23). -/
def execQitems (n : Port) (h : CaerHdr) (items : List Item) (s : State) : Host.Outcome State Fault Refusal :=
  .next (s.seqIn n h fun s => s.lineDeliver n (hdrFrame h 10 (items.flatMap fun i => bytesLE 8 i.toNat)) fun s =>
    items.foldl (fun s i => (s.push h.dstq.toNat i).1) (s.eventsIn .caer))

/-- A frame with a bad CRC, a reserved TYPE or an invalid code group (R354, R357, R360). -/
def execFrameCrcError (n : Port) (s : State) : Host.Outcome State Fault Refusal :=
  if s.fabric ∧ s.linkState n ≠ 0 then
    let s := s.bumpSat (CAER_LINK_ERR n) CAER_LINK_ERR_CRC 1
    .next (if s.linkUp n then s.modLink n fun x => { x with ackDue := true } else s)
  else .next s

/-! ## Sending (R360, R367–R370) -/

/-- 20 µs without an acknowledgement (R360): every unacknowledged frame is sent again; at the eighth resend of one frame the link fails
(R356). (DESIGN CHOICE, log 43) -/
def execResendTimeout (n : Port) (s : State) : Host.Outcome State Fault Refusal :=
  if s.fabric ∧ s.linkUp n ∧ (s.link n).unacked ≠ [] then
    let s := ((s.link n).unacked.foldl (fun s f => s.transmit n f) s).bumpSat (CAER_LINK_ERR n) CAER_LINK_ERR_RETRY 1
    let s := s.modLink n fun x => { x with unacked := x.unacked.map fun f => { f with resent := f.resent + 1 } }
    .next (if (s.link n).unacked.any (8 ≤ ·.resent) then s.failLink n else s)
  else .next s

/-- An ACK frame goes where no other frame does within 2 µs (R360). -/
def execAckTimer (n : Port) (s : State) : Host.Outcome State Fault Refusal :=
  .next (if s.fabric ∧ s.linkUp n ∧ (s.link n).ackDue then s.transmit n { typ := 0, src := s.hub } else s)

/-- A write to CAER_MSGTX_HUB (R367). -/
def State.msgtxStore (s : State) (v : Word) : State :=
  s.message (fieldOf v CAER_MSGTX_HUB_HUB) (s.rd CAER_MSGTX_DATA)

/-- A write to CAER_MSGTX_HUB (R367). -/
def execMessageSend (v : Word) (s : State) : Host.Outcome State Fault Refusal := .next (if s.fabric then s.msgtxStore v else s)

/-- A plant millisecond begins, and with TRIG = 0b10 the exports send (R368). -/
def execPeerExportTick (s : State) : Host.Outcome State Fault Refusal :=
  if s.fabric ∧ s.pow.pllT ∧ s.get CAER_PEXP_CFG CAER_PEXP_CFG_TRIG = 2 then
    .next (s.passTo (nextMultiple s.time 256000)).peerExport
  else .next s

/-- Up to `k` items are popped while AVAIL is not 0 (R369). -/
def State.popMany (s : State) (q : Nat) : Nat → State × List Item
  | 0 => (s, [])
  | k + 1 =>
    if !s.qlive q || s.avail q = 0 then (s, [])
    else
      let r := s.pop q
      let t := r.1.popMany q k
      (t.1, r.2 :: t.2)

/-- A forwarder sends a frame (R369). (DESIGN CHOICE, log 47) -/
def execQfwdSend (j : Fin 8) (s : State) : Host.Outcome State Fault Refusal :=
  let w := s.rd (CAER_QFWD j)
  if s.fabric ∧ fieldOf w CAER_QFWD_EN = 1 then
    let r := s.popMany (fieldOf w CAER_QFWD_SRCQ) 32
    .next (if r.2 = [] then r.1 else
      r.1.originate { typ := 10, src := s.hub, dst := fieldOf w CAER_QFWD_DSTHUB, dstq := fieldOf w CAER_QFWD_DSTQ
                      payload := r.2.flatMap fun i => bytesLE 8 i.toNat })
  else .next s

/-- A write to CAER_CMD (R370). -/
def State.caerCmdStore (s : State) (v : Word) : State :=
  if fieldOf v CAER_CMD_KEY ≠ 0x5C3A then s
  else if s.hub ≠ 0 then s.cmdRef
  else s.originate { typ := 7, src := 0, dst := fieldOf v CAER_CMD_HUB, bc := fieldOf v CAER_CMD_ALL = 1, payload := bytesLE 8 1 }

/-- A keyed write to CAER_CMD (R370). -/
def execLineCommand (v : Word) (s : State) : Host.Outcome State Fault Refusal := .next (if s.fabric then s.caerCmdStore v else s)

/-- A read of CAER_LINK_ERR returns and clears its counts (R10). -/
def execCaerErrRead (n : Port) (s : State) : Host.Outcome State Fault Refusal :=
  .next (if s.fabric then (s.answer (s.rd (CAER_LINK_ERR n)).toNat).wr (CAER_LINK_ERR n) 0 else s)

/-- A store to CAER_ID (R362): ignored while a link is enabled, and rejected for a number or an uplink that the variant does not
allow. The direction table then names this hub. (DEDUCED, log 44) -/
def State.caerIdStore (s : State) (v : Word) : State :=
  if s.flag (CAER_LINK_CFG 0) CAER_LINK_CFG_EN || s.flag (CAER_LINK_CFG 1) CAER_LINK_CFG_EN then
    s.set CAER_STATUS CAER_STATUS_IDLOCK 1
  else if fieldOf v CAER_ID_HUB = 0 ∧ s.nEth = 0 ∨ fieldOf v CAER_ID_UPLINK = 1 ∧ s.nCaer < 2 then s.cfgErr CAER_ID
  else
    let s := s.set CAER_DIR ⟨2 * s.hub, 2⟩ 0
    let s := s.storeReg CAER_ID v
    s.set CAER_DIR ⟨2 * s.hub, 2⟩ 3

/-- A store to CAER_PEXP_CFG (R368): TRIG 0b01 is reserved on a variant without the TEU. -/
def State.pexpCfgStore (s : State) (v : Word) : State :=
  if fieldOf v CAER_PEXP_CFG_TRIG = 1 ∧ s.nTeu = 0 then s.cfgErr CAER_PEXP_CFG else s.storeReg CAER_PEXP_CFG v

/-- A store to CAER_PEXP (R368): a SEL that names nothing is reserved, and leaves the field. -/
def State.pexpStore (s : State) (j : Nat) (v : Word) : State :=
  let sel := fieldOf v CAER_PEXP_SEL
  let ok := sel < s.nCh || 96 ≤ sel && sel < 160 && s.nTeu != 0
  if ok then s.storeReg (CAER_PEXP j) v
  else (s.storeReg (CAER_PEXP j) (setField v CAER_PEXP_SEL (s.get (CAER_PEXP j) CAER_PEXP_SEL))).cfgErr (CAER_PEXP j)

/-! ## The mirror pair (R371–R376) -/

/-- The pair's state replaced. -/
def State.setPair (s : State) (k : Nat) : State := s.set CAER_PAIR_STAT CAER_PAIR_STAT_STATE k

/-- Whether this hub holds PAIR_OK low. -/
def State.holdPairOk (s : State) (b : Bool) : State := { s with caer := { s.caer with pairOkLow := b } }

/-- TAKEOVER is low. -/
def State.takeoverLow (s : State) : Bool := s.caer.takeLow || s.caer.partnerTakeLow

/-- This hub is taken over (R376). -/
def State.taken (s : State) : State :=
  ({ (s.setPair 6) with caer := { s.caer with takeDelay := false } }).raise 199

/-- NONE: the hub is in no pair, holds PAIR_OK low and releases TAKEOVER (R52, R376). (DESIGN CHOICE, log 46) -/
def State.unpair (s : State) : State :=
  { (s.setPair 0) with caer := { s.caer with pairOkLow := true, takeLow := false, takeDelay := false } }

/-- The settings are loaded: a hub that they do not configure for mirroring is in no pair, whatever its balls kept through the reset
(R52, R378). (DESIGN CHOICE, log 46) -/
def State.unpairIdle (s : State) : State :=
  if s.mirrors && !s.flag CAER_PAIR_CFG CAER_PAIR_CFG_PEN then s.unpair else s

/-- TAKING, with the partner ring frozen (R375, R446). -/
def State.taking (s : State) : State := (s.setPair 5).set JRN_PSTAT JRN_PSTAT_FROZEN 1

/-- The hub is ready to pair (R371): PAIR_OK is released and WAIT entered, or TAKEN with TAKEOVER low (R376). A hub that still pulls
TAKEOVER itself, through a WARM reset, is TAKING again. (DESIGN CHOICE, log 46) -/
def State.pairWait (s : State) : State :=
  let s := s.holdPairOk false
  if s.caer.takeLow then s.taking
  else if s.takeoverLow then s.taken else s.setPair 1

/-- The hub pulls TAKEOVER low and enters TAKING, with the partner ring frozen, unless TAKEOVER is low already (R375, R446). -/
def State.pullTakeover (s : State) : State :=
  if s.takeoverLow then s
  else { s.taking with caer := { s.caer with takeLow := true } }

/-- A takeover is attempted in PAIRED or LOST (R375): the lower-numbered hub acts at once, the other after 200 µs. -/
def State.tryTakeover (s : State) : State :=
  if s.pair = 2 ∨ s.pair = 4 then
    if s.hub < s.get CAER_PAIR_STAT CAER_PAIR_STAT_PHUB then s.pullTakeover
    else { s with caer := { s.caer with takeDelay := true } }
  else s

/-- RELEASE = 1 (R376). (DESIGN CHOICE, log 46) -/
def State.pairRelease (s : State) : State := if s.caer.takeLow then s.unpair else s

/-- RETRY = 1 (R372, R376): from FAILED, or from NONE with PEN = 1. (DESIGN CHOICE, log 46) -/
def State.pairRetry (s : State) : State :=
  if s.pair = 3 ∨ s.pair = 0 ∧ s.flag CAER_PAIR_CFG CAER_PAIR_CFG_PEN then s.pairWait else s

/-- A store to CAER_PAIR_CFG (R371–R376). (DESIGN CHOICE, log 46) -/
def State.pairStore (s : State) (v : Word) : State :=
  if !s.mirrors then s
  else
    let s := s.storeReg CAER_PAIR_CFG v
    let s := if fieldOf v CAER_PAIR_CFG_PEN = 0 then s.unpair else if s.pair = 0 then s.pairWait else s
    let s := if fieldOf v CAER_PAIR_CFG_RELEASE = 1 then s.pairRelease else s
    let s := if fieldOf v CAER_PAIR_CFG_RETRY = 1 then s.pairRetry else s
    if fieldOf v CAER_PAIR_CFG_TAKE = 1 then s.tryTakeover else s

/-- A write of PEN (R371, R376). -/
def execPairEnable (v : Word) (s : State) : Host.Outcome State Fault Refusal := .next (if s.fabric then s.pairStore v else s)

/-- What pairing needs beside the balls (R371). -/
def State.pairReady (s : State) : Bool :=
  s.mirrors && s.pair = 1 && s.linkUp s.plink && s.flag (CAER_LINK_STAT s.plink) CAER_LINK_STAT_PEERPEN &&
    (s.link s.plink).partner = s.hub

/-- PAIR_OK is high and the rest holds, so the hub enters PAIRED with source 196 (R371), and a baseline is due (R447). -/
def execPairEnter (s : State) : Host.Outcome State Fault Refusal :=
  .next (if s.fabric ∧ s.pairReady then
    let s := { s with caer := { s.caer with partnerPairOkLow := false, gap := true, lastLive := none } }
    let s := s.set CAER_PAIR_STAT CAER_PAIR_STAT_PHUB (s.get (CAER_LINK_STAT s.plink) CAER_LINK_STAT_PEERHUB)
    (s.setPair 2).raise 196
  else s)

/-- 1 s without pairing (R372). -/
def execPairTimeout (s : State) : Host.Outcome State Fault Refusal :=
  .next (if s.fabric ∧ s.pair = 1 then ((s.setPair 3).holdPairOk true).raise 197 else s)

/-- RETRY = 1 in CAER_PAIR_CFG (R372). -/
def execRetry (s : State) : Host.Outcome State Fault Refusal := .next (if s.fabric ∧ s.mirrors then s.pairRetry else s)

/-- TAKE = 1 in CAER_PAIR_CFG (R375). -/
def execTake (s : State) : Host.Outcome State Fault Refusal := .next (if s.fabric then s.tryTakeover else s)

/-- RELEASE = 1 in CAER_PAIR_CFG (R376). -/
def execRelease (s : State) : Host.Outcome State Fault Refusal := .next (if s.fabric then s.pairRelease else s)

/-- The number of the live record that is sent next: the first one in the send buffer, or the oldest record that JRN has still to commit,
or the next to be made (R373, R420). (DESIGN CHOICE, log 46) -/
def State.nextLive (s : State) : Nat :=
  match s.caer.jbuf.find? fun b => !isBase b, s.jrn.toAck with
  | some b, _ => ofBytesLE (b.take 4)
  | none, p :: _ => p.1
  | none, [] => s.jseq

/-- What a HEART carries (R358, R447): the JSEQ of the last live record sent, or with none sent since the pair was entered the number before
that of the first that will be. (DESIGN CHOICE, log 46) -/
def State.heartNum (s : State) : Nat := s.caer.lastLive.getD ((s.nextLive + 2 ^ 32 - 1) % 2 ^ 32)

/-- 100 µs without another frame on the pair link (R374): HEART is sent. (DESIGN CHOICE, log 46) -/
def execHeartTimer (s : State) : Host.Outcome State Fault Refusal :=
  .next (if s.fabric ∧ s.pair = 2 ∧ s.linkUp s.plink then
    s.send s.plink { typ := 8, src := s.hub, payload := bytesLE 8 s.heartNum }
  else s)

/-- The partner is lost (R374): source 198, and with AUTOTK = 1 a takeover is attempted (R375). -/
def State.partnerLost (s : State) : State :=
  let s := (s.setPair 4).raise 198
  if s.flag CAER_PAIR_CFG CAER_PAIR_CFG_AUTOTK then s.tryTakeover else s

/-- 3 ms without an intact frame on the pair link (R374). -/
def execPartnerSilence (s : State) : Host.Outcome State Fault Refusal :=
  .next (if s.fabric ∧ s.pair = 2 then s.partnerLost else s)

/-- PAIR_OK reads low for 10 µs while this hub releases it (R374). -/
def execPairOkLow (s : State) : Host.Outcome State Fault Refusal :=
  if s.fabric ∧ s.mirrors ∧ !s.caer.pairOkLow then
    let s := { s with caer := { s.caer with partnerPairOkLow := true } }
    .next (if s.pair = 2 then s.partnerLost else s)
  else .next s

/-- The higher-numbered hub's 200 µs end (R375). -/
def execTakeoverDelayEnd (s : State) : Host.Outcome State Fault Refusal :=
  if s.fabric ∧ s.caer.takeDelay then
    let s := { s with caer := { s.caer with takeDelay := false } }
    .next (if s.pair = 2 ∨ s.pair = 4 then s.pullTakeover else s)
  else .next s

/-- TAKEOVER is low for 1 µs and this hub does not pull it (R376). -/
def execTakeoverSeen (s : State) : Host.Outcome State Fault Refusal :=
  if s.mirrors ∧ !s.caer.takeLow then
    let s := { s with caer := { s.caer with partnerTakeLow := true } }
    .next (if s.fabric ∧ (s.pair = 1 ∨ s.pair = 2 ∨ s.pair = 4) then s.taken else s)
  else .next s

/-- TAKEOVER goes high again (R376): a TAKEN hub returns to NONE. -/
def execTakeoverReleased (s : State) : Host.Outcome State Fault Refusal :=
  if s.mirrors ∧ !s.caer.takeLow then
    let s := { s with caer := { s.caer with partnerTakeLow := false } }
    .next (if s.fabric ∧ s.pair = 6 then s.unpair else s)
  else .next s

end Sys2Proof.Machine
end

