-- ==== Sys2Proof/Machine/Dme.lean ====
section
/-! DEFINITION. The DMA engine's control (R290–R304): the shadow set, completion, errors and aborts. Machine/DmeRun.lean moves the
bytes. -/

namespace Sys2Proof.Machine

open Sys2Proof

/-- A channel. -/
def State.dch (s : State) (k : Nat) : DmaCh := tget s.dme.ch {} k

/-- A channel changed. -/
def State.modD (s : State) (k : Nat) (f : DmaCh → DmaCh) : State :=
  { s with dme := { s.dme with ch := tset {} s.dme.ch k (f (s.dch k)) } }

/-- The bursts of a channel that are in flight: those of the elements that wait and of the current one (R299). (DEDUCED, log 31) -/
def DmaCh.flying (x : DmaCh) : Nat := (x.cur.toList ++ x.done).foldl (fun n e => n + e.fly) 0

/-- The bursts in flight of all channels (R299). (DEDUCED, log 31) -/
def State.dflying (s : State) : Nat := (List.range 16).foldl (fun n k => n + (s.dch k).flying) 0

/-- Bytes written and acknowledged count (R300). -/
def State.countDone (s : State) (k n : Nat) : State := s.wr (DME_CH_DONEB k) (s.rd (DME_CH_DONEB k) + BitVec.ofNat 32 n)

/-- Bytes of the current element, behind the last element that waits, are acknowledged and count (R299, R300). (DEDUCED, log 31) -/
def State.settleDma (s : State) (k : Nat) : State :=
  match (s.dch k).cur with
  | some e =>
    if (s.dch k).done.all fun d => d.fly = 0 then (s.countDone k e.out).modD k fun x => { x with cur := some { e with out := 0, fly := 0 } }
    else s
  | none => s

/-- A flag of DME_CH_STAT. -/
def State.dstat (s : State) (k : Nat) (f : Fld) : Bool := s.flag (DME_CH_STAT k) f

/-- A flag of DME_CH_STAT put to a value. -/
def State.setDstat (s : State) (k : Nat) (f : Fld) (v : Nat) : State := s.set (DME_CH_STAT k) f v

/-- A transfer is active. -/
def State.dbusy (s : State) (k : Nat) : Bool := s.dstat k DME_CH_STAT_BUSY

/-- The active configuration. -/
def State.dcfg (s : State) (k : Nat) : Word := s.rd (DME_CH_CFG k)

/-- FIXMODE of the active configuration (R290). -/
def State.fixMode (s : State) (k : Nat) : Nat := fieldOf (s.dcfg k) DME_CH_SCFG_FIXMODE

/-- A DMA-POINT record (R300, R421): its STATE, the address of the next element, and the fixed-side address. -/
def State.point (s : State) (k st next fix : Nat) : State :=
  if fieldOf (s.dcfg k) DME_CH_SCFG_JRNEN = 1 then
    s.hand (.dma k) [{ kind := 4, src := k, argd := st, body := [next, fix, (s.rd (DME_CH_DONEB k)).toNat, (s.dcfg k).toNat] }]
  else s

/-- Registers whose contents are not meaningful any more show free values. (DESIGN CHOICE, log 33) -/
def State.blur (s : State) (l : List (Nat × Fld)) : State := l.foldl (fun s p => s.free.2.set p.1 p.2 s.free.1.toNat) s

/-- What a stopped channel's registers still tell (R301–R303): after an error DONEB counts the bytes written before the failing beat,
and ADDR, REM and FIX tell nothing; after an abort LIST and DONEB tell nothing either. (DESIGN CHOICE, log 33) -/
def State.stopRegs (s : State) (k : Nat) (x : DmaCh) : State :=
  let cur : Nat := match x.cur with | some e => e.out | none => 0
  let moved := [(DME_CH_ADDR k, DME_CH_ADDR_ADDR), (DME_CH_REM k, DME_CH_REM_REM), (DME_CH_FIX k, DME_CH_FIX_FIX)]
  match x.err with
  | some e => if e.kind = 8 then s else (s.countDone k (x.done.foldl (fun n e => n + e.out) cur)).blur moved
  | none => s.blur ((DME_CH_LIST k, DME_CH_LIST_LIST) :: (DME_CH_DONEB k, DME_CH_DONEB_DONEB) :: moved)

/-- The channel stops (R301–R303): BUSY clears, an error and an abort show, the source is raised once, and JRN gets a STOP. The
error address of a refused set-up is not stated. (DEDUCED, log 31) (DESIGN CHOICE, log 32) -/
def State.dstop (s : State) (k : Nat) : State :=
  let x := s.dch k
  let s := (s.setDstat k DME_CH_STAT_BUSY 0).stopRegs k x
  let s := match x.err with
    | some e =>
      let s := (s.setDstat k DME_CH_STAT_KIND e.kind).setDstat k DME_CH_STAT_ERRSIDE e.write.toNat
      let s := (s.setDstat k DME_CH_STAT_ERRLIST e.list.toNat).setDstat k DME_CH_STAT_ERROR 1
      let s := s.wr (DME_CH_LIST k) (BitVec.ofNat 32 e.el)
      if e.kind = 8 then s.free.2.wr (DME_CH_ERRADDR k) s.free.1 else s.wr (DME_CH_ERRADDR k) (BitVec.ofNat 32 e.addr)
    | none => s
  let s := if x.aborting then (s.setDstat k DME_CH_STAT_ABORTED 1).setDstat k DME_CH_STAT_SHVALID 0 else s
  let s := (s.modD k fun _ => {}).raise (160 + k)
  s.point k 3 (s.rd (DME_CH_LIST k)).toNat (s.rd (DME_CH_FIX k)).toNat

/-! ## The shadow set (R297, R298) -/

/-- ARM = 1 (R297, R298). -/
def State.arm_ (s : State) (k : Nat) : State :=
  if s.dstat k DME_CH_STAT_SHVALID then s.setDstat k DME_CH_STAT_SHCOLL 1 else s.setDstat k DME_CH_STAT_SHVALID 1

/-- ARM = 1 (R297). -/
def execDmeArm (k : Dma) (s : State) : Host.Outcome State Fault Refusal := .next (if s.fabric then s.arm_ k else s)

/-- EN = 1 (R297). -/
def execDmeEnable (k : Dma) (s : State) : Host.Outcome State Fault Refusal :=
  .next (if s.fabric then s.set (DME_CH_CTL k) DME_CH_CTL_EN 1 else s)

/-- EN = 0 (R302): a busy channel issues nothing more; on an idle one only SHVALID clears. -/
def State.dabort (s : State) (k : Nat) : State :=
  let s := s.set (DME_CH_CTL k) DME_CH_CTL_EN 0
  if s.dbusy k then s.modD k fun x => { x with aborting := true } else s.setDstat k DME_CH_STAT_SHVALID 0

/-- EN = 0 (R302). -/
def execDmeAbort (k : Dma) (s : State) : Host.Outcome State Fault Refusal := .next (if s.fabric then s.dabort k else s)

/-- The address of a shadow register. -/
def shadowAddr (r : ShadowReg) (k : Nat) : Nat :=
  match r with
  | .scfg => DME_CH_SCFG k
  | .slist => DME_CH_SLIST k
  | .sfix => DME_CH_SFIX k

/-- Whether a shadow register takes a word (R298). -/
def shadowOk (r : ShadowReg) (v : Word) : Bool :=
  match r with
  | .scfg => fieldOf v DME_CH_SCFG_FIXMODE != 3
  | .slist => v.toNat % 8 = 0
  | .sfix => true

/-- A store to a shadow register (R298). -/
def State.shadowStore (s : State) (k : Nat) (r : ShadowReg) (v : Word) : State :=
  if s.dstat k DME_CH_STAT_SHVALID then s.setDstat k DME_CH_STAT_SHCOLL 1
  else if shadowOk r v then s.storeReg (shadowAddr r k) v
  else s.cfgErr DME_STATUS

/-- A write to a shadow register (R298). -/
def execDmeShadowWrite (k : Dma) (r : ShadowReg) (v : Word) (s : State) : Host.Outcome State Fault Refusal :=
  .next (if s.fabric then s.shadowStore k r v else s)

/-- Whether a fixed address suits its mode (R290, R298): a queue window's base, or an aligned word. -/
def fixOk (mode fix : Nat) : Bool :=
  if mode = 2 then fix % 256 = 0 && 0x50000000 ≤ fix && fix < 0x50004000
  else mode != 1 || fix % 4 = 0

/-- The shadow set is copied into the active set and the first element requested (R297, R298, R421). (DESIGN CHOICE, log 32) -/
def State.shadowCopy (s : State) (k : Nat) : State :=
  let first := (s.rd (DME_CH_SLIST k)).toNat
  let s := (s.wr (DME_CH_CFG k) (s.rd (DME_CH_SCFG k))).wr (DME_CH_LIST k) (s.rd (DME_CH_SLIST k))
  let s := (s.wr (DME_CH_FIX k) (s.rd (DME_CH_SFIX k))).wr (DME_CH_DONEB k) 0
  let s := (s.setDstat k DME_CH_STAT_SHVALID 0).setDstat k DME_CH_STAT_BUSY 1
  let fix := (s.rd (DME_CH_FIX k)).toNat
  let s := s.point k 0 first fix
  if fixOk (s.fixMode k) fix then s.modD k fun _ => { fetch := some (first, 0) }
  else (s.modD k fun _ => { err := some { kind := 8, addr := fix, el := first } }).dstop k

/-- The shadow set is copied (R297, R304). -/
def execShadowCopy (k : Dma) (s : State) : Host.Outcome State Fault Refusal :=
  .next (if s.fabric ∧ s.dstat k DME_CH_STAT_SHVALID ∧ s.flag (DME_CH_CTL k) DME_CH_CTL_EN ∧ !s.dbusy k ∧
      !s.dstat k DME_CH_STAT_ERROR then s.shadowCopy k else s)

/-! ## Completion, errors, aborts (R300–R303) -/

/-- An element completes (R300): its bytes count, its flags follow, and the record is handed over. -/
def State.elComplete (s : State) (k : Nat) (e : DmaEl) : State :=
  let cfg := s.dcfg k
  let s := s.countDone k e.out
  let s := if e.mark then
      let s := s.setDstat k DME_CH_STAT_DONE_HALF 1
      if fieldOf cfg DME_CH_SCFG_HALFIE = 1 then s.raise (160 + k) else s
    else s
  let s := if e.fin then
      let s := (s.setDstat k DME_CH_STAT_BUSY 0).setDstat k DME_CH_STAT_DONE_FULL 1
      if fieldOf cfg DME_CH_SCFG_FULLIE = 1 then s.raise (160 + k) else s
    else s
  s.point k (if e.fin then 2 else 1) ((e.addr + 8) % 2 ^ 32) e.fixEnd

/-- The elements of no length at the head of the issued ones complete at once (R294). -/
def State.flushZero (s : State) (k : Nat) : List DmaEl → State
  | [] => s
  | e :: r => if e.len = 0 then ((s.modD k fun x => { x with done := r }).elComplete k e).flushZero k r else s

/-- Every write of the oldest issued element has been acknowledged (R300). (DEDUCED, log 31) -/
def execElementComplete (k : Dma) (s : State) : Host.Outcome State Fault Refusal :=
  let x := s.dch k
  match x.done with
  | e :: r =>
    .next (if s.fabric ∧ s.dbusy k ∧ !x.aborting then
      (((s.modD k fun x => { x with done := r }).elComplete k e).flushZero k r).settleDma k
    else s)
  | [] => .next s

/-- The first bus error of a transfer takes effect once its bursts have drained (R301). -/
def execDmeBusError (k : Dma) (s : State) : Host.Outcome State Fault Refusal :=
  let x := s.dch k
  .next (if s.fabric ∧ s.dbusy k ∧ x.err.isSome ∧ x.done.isEmpty ∧ !x.aborting then s.dstop k else s)

/-- After an abort the last burst in flight completes (R302, R303). -/
def execAbortComplete (k : Dma) (s : State) : Host.Outcome State Fault Refusal :=
  .next (if s.fabric ∧ s.dbusy k ∧ (s.dch k).aborting then s.dstop k else s)

/-! ## Registers -/

/-- A store to DME_CH_CTL (R297, R298, R302): with EN = 0 the abort comes before an ARM. -/
def State.dctlStore (s : State) (k : Nat) (v : Word) : State :=
  let coll := s.dstat k DME_CH_STAT_SHVALID
  let s := if fieldOf v DME_CH_CTL_EN = 1 then s.set (DME_CH_CTL k) DME_CH_CTL_EN 1 else s.dabort k
  if fieldOf v DME_CH_CTL_ARM = 1 then
    s.setDstat k (if coll then DME_CH_STAT_SHCOLL else DME_CH_STAT_SHVALID) 1
  else s

/-- A store to the window of the DME. -/
def State.dmeStore (s : State) (a : Nat) (v : Word) : State :=
  if DME_CH_CTL 0 ≤ a ∧ a < DME_CH_CTL 16 then
    let k := (a - DME_CH_CTL 0) / 64
    match (a - DME_CH_CTL 0) % 64 with
    | 0 => s.dctlStore k v
    | 8 => s.shadowStore k .scfg v
    | 12 => s.shadowStore k .slist v
    | 16 => s.shadowStore k .sfix v
    | _ => s.storeReg a v
  else s.storeReg a v

/-- BUSY of DME_STATUS. -/
def State.dmeBusy (s : State) : Nat := (List.range 16).foldl (fun n k => if s.dbusy k then n + 2 ^ k else n) 0

end Sys2Proof.Machine
end

