-- ==== Sys2Proof/Machine/Eth.lean ====
section
/-! DEFINITION. Ethernet: the switch, PTP recognition, the transparent clock, the rings and the management interface
(R336–R352). -/

namespace Sys2Proof.Machine

open Sys2Proof

/-! ## Frames (R336, R341) -/

/-- A byte of a frame; beyond its end 0. -/
def byteAt (l : List Byte) (i : Nat) : Nat := (l.getD i 0).toNat

/-- `k` bytes of a frame, most significant first. -/
def beAt (l : List Byte) (i : Nat) : Nat → Nat
  | 0 => 0
  | k + 1 => beAt l i k * 256 + byteAt l (i + k)

/-- A frame with bytes replaced. -/
def patch (l : List Byte) (i : Nat) (b : List Byte) : List Byte := l.take i ++ b ++ l.drop (i + b.length)

/-- An 802.1Q tag is present. -/
def tagged (l : List Byte) : Bool := beAt l 12 2 = 0x8100

/-- Where the EtherType stands. -/
def typeAt (l : List Byte) : Nat := if tagged l then 16 else 12

/-- A PTP message (R341): where its header stands, and whether the transport is UDP. -/
structure Ptp where
  at_ : Nat
  udp : Bool
  deriving DecidableEq, Repr

/-- The PTP message in a frame, if it is one (R341). -/
def ptpOf (l : List Byte) : Option Ptp :=
  let t := typeAt l
  let ip := t + 2
  let found : Option Ptp :=
    if beAt l t 2 = 0x88F7 then some ⟨t + 2, false⟩
    else if beAt l t 2 = 0x0800 ∧ byteAt l ip % 16 = 5 ∧ beAt l (ip + 6) 2 % 0x4000 = 0 ∧ byteAt l (ip + 9) = 17 ∧
        (beAt l (ip + 22) 2 = 319 ∨ beAt l (ip + 22) 2 = 320) then some ⟨ip + 28, true⟩
    else none
  found.filter fun p => byteAt l (p.at_ + 1) % 16 = 2

/-- messageType. (PRESUMED, log 42) -/
def ptpType (l : List Byte) (p : Ptp) : Nat := byteAt l p.at_ % 16

/-- An event message: Sync, Delay_Req, Pdelay_Req, Pdelay_Resp. -/
def isEvent (l : List Byte) : Bool := match ptpOf l with | some p => ptpType l p < 4 | none => false

/-! ## Timestamps (R342) -/

/-- The present tick in units of 2^-16 ns. -/
def State.now16 (s : State) : Nat := s.time * 256000

/-- Every timestamp wraps with the counter's 48 bits of seconds. -/
def stampModulus : Nat := timeModulus * 256000

/-- The receive timestamp: the capture minus RXLAT. -/
def State.rxStamp (s : State) (n : Nat) : Nat :=
  (s.now16 + stampModulus - s.get (ETH_PORT_LAT n) ETH_PORT_LAT_RXLAT * 16384) % stampModulus

/-- The transmit timestamp: the capture plus TXLAT. -/
def State.txStamp (s : State) (n : Nat) : Nat :=
  (s.now16 + s.get (ETH_PORT_LAT n) ETH_PORT_LAT_TXLAT * 16384) % stampModulus

/-- NS, FRAC and SEC of a timestamp. -/
def stampNs (t : Nat) : Nat := t / 65536 % 1000000000
/-- FRAC. -/
def stampFrac (t : Nat) : Nat := t % 65536
/-- SEC. -/
def stampSec (t : Nat) : Nat := t / 65536 / 1000000000

/-- Header words 1–3 (R348). -/
def stampWords (t : Nat) : List Nat := [stampFrac t * 65536 + stampSec t / 2 ^ 32 % 65536, stampNs t, stampSec t % 2 ^ 32]

/-! ## Slots in SRAM -/

/-- Bytes stored from an address on, in 64-bit beats where it is aligned to 8. -/
def State.putBytes (s : State) (a : Nat) : List Byte → State
  | b0 :: b1 :: b2 :: b3 :: b4 :: b5 :: b6 :: b7 :: r =>
    ((s.memStore a 8 (ofBytesLE [b0, b1, b2, b3, b4, b5, b6, b7])).1).putBytes (a + 8) r
  | b :: r => ((s.memStore a 1 b.toNat).1).putBytes (a + 1) r
  | [] => s

/-- Bytes loaded from an address on, a byte at a time. (DESIGN CHOICE, log 41) -/
def State.getBytes (s : State) (a : Nat) : Nat → State × List Byte
  | 0 => (s, [])
  | k + 1 =>
    let r := s.memLoad a 1
    let t := r.1.getBytes (a + 1) k
    (t.1, BitVec.ofNat 8 r.2.1 :: t.2)

/-- The address of a slot of a ring. -/
def State.slotAt (s : State) (base cfg : Nat) : Nat := (s.rd base).toNat + 1536 * s.get cfg ETH_RX_CFG_HEAD

/-- HEAD of a ring advances modulo COUNT. -/
def State.nextHead (s : State) (cfg : Nat) : State :=
  s.set cfg ETH_RX_CFG_HEAD ((s.get cfg ETH_RX_CFG_HEAD + 1) % s.get cfg ETH_RX_CFG_COUNT)

/-- A frame for the internal port goes into the slot at HEAD, or finds it full (R348). -/
def State.storeRx (s : State) (n : Nat) (l : List Byte) (t : Nat) (fwd : Bool) : State :=
  if !s.flag ETH_CTL ETH_CTL_RXEN then s
  else
    let a := s.slotAt ETH_RX_BASE ETH_RX_CFG
    let r := s.memLoad a 4
    if r.2.1.testBit 31 then (r.1.set ETH_STATUS ETH_STATUS_RXOVF 1).raise 186
    else
      let p := ptpOf l
      let w0 := 2 ^ 31 + n * 2 ^ 30 + (isEvent l).toNat * 2 ^ 29 + (p.isSome && !isEvent l).toNat * 2 ^ 28 +
        (p.elim false (·.udp)).toNat * 2 ^ 27 + (tagged l).toNat * 2 ^ 26 + fwd.toNat * 2 ^ 25 + l.length
      let s := (r.1.putBytes (a + 16) l).putBytes (a + 8) ((stampWords t).drop 1 |>.flatMap (bytesLE 4))
      let s := (s.memStore (a + 4) 4 ((stampWords t).headD 0)).1
      ((s.memStore a 4 w0).1.nextHead ETH_RX_CFG).raise 184

/-! ## The switch (R339, R340, R343) -/

/-- Peer-delay messages. -/
def isPeerDelay (t : Nat) : Bool := t = 2 || t = 3 || t = 10

/-- TCMODE. -/
def State.tcMode (s : State) : Nat := s.get ETH_PTP_CFG ETH_PTP_CFG_TCMODE

/-- Whether TCMODE lets a PTP message of a type pass between the ports (R343). -/
def tcPasses (mode t : Nat) : Bool :=
  match mode with
  | 1 => !isPeerDelay t
  | 2 => !isPeerDelay t && t != 1 && t != 9
  | _ => false

/-- An address register pair as bytes. -/
def State.macOf (s : State) (lo hi : Nat) : List Byte := bytesLE 4 (s.rd lo).toNat ++ bytesLE 2 (s.rd hi).toNat

/-- Where a destination address leads (R339): to the other port, to the internal port. -/
structure Route where
  other : Bool
  inside : Bool
  deriving DecidableEq, Repr

/-- The table of R339, without BRIDGE, RXEN and what R343 says of PTP messages. (DEDUCED, log 40) -/
def State.route (s : State) (l : List Byte) : Route :=
  let d := l.take 6
  let a := ofBytesLE d.reverse
  let ptpInt := s.flag ETH_PTP_CFG ETH_PTP_CFG_PTPINT
  if d = s.macOf ETH_MAC_LO ETH_MAC_HI then ⟨false, true⟩
  else if a = 0xFFFFFFFFFFFF then ⟨true, true⟩
  else if a = 0x011B19000000 ∨ a = 0x01005E000181 then ⟨s.tcMode != 0, ptpInt⟩
  else if a = 0x0180C200000E ∨ a = 0x01005E00006B then ⟨false, ptpInt⟩
  else if a / 16 = 0x0180C200000 then ⟨false, false⟩
  else if (List.range 4).any fun k =>
      s.flag (ETH_MCAST_HI k) ETH_MCAST_HI_EN && d == s.macOf (ETH_MCAST_LO k) (ETH_MCAST_HI k) then ⟨true, true⟩
  else ⟨true, false⟩

/-- Whether a received frame goes to the other port (R339, R343). (DEDUCED, log 40) -/
def State.forwards (s : State) (n : Nat) (l : List Byte) : Bool :=
  (s.route l).other && s.flag ETH_CTL ETH_CTL_BRIDGE && 1 - n < s.nEth && s.flag (ETH_PORT_CFG (1 - n)) ETH_PORT_CFG_EN &&
    match ptpOf l with | some p => tcPasses s.tcMode (ptpType l p) | none => true

/-- The frames that wait at a port. -/
def State.ethHi (s : State) (n : Nat) : List EFrame := tget s.eth.hi [] n
/-- The frames in its low queue. -/
def State.ethLo (s : State) (n : Nat) : List EFrame := tget s.eth.lo [] n

/-- The bytes that they fill, each with its FCS. -/
def State.ethUsed (s : State) (n : Nat) : Nat :=
  ((s.ethHi n ++ s.ethLo n).map fun f => f.bytes.length + 4).foldl (· + ·) 0

/-- A frame goes into an egress queue. -/
def State.enqueue (s : State) (n : Nat) (f : EFrame) (high : Bool) : State :=
  if high then { s with eth := { s.eth with hi := tset [] s.eth.hi n (s.ethHi n ++ [f]) } }
  else { s with eth := { s.eth with lo := tset [] s.eth.lo n (s.ethLo n ++ [f]) } }

/-- There is room for a frame in the 16 KiB of a port. (DESIGN CHOICE, log 39) -/
def State.ethRoom (s : State) (n : Nat) (l : List Byte) : Bool := s.ethUsed n + l.length + 4 ≤ 16384

/-- A forwarded frame is dropped (R340, R344). -/
def State.fwdDrop (s : State) (n : Nat) : State :=
  ((s.bumpSat (ETH_PORT_DROP n) ETH_PORT_DROP_COUNT 1).set ETH_STATUS ETH_STATUS_FWDDROP 1).raise 189

/-- A good frame is forwarded and stored (R339, R340, R348). (DESIGN CHOICE, log 39) -/
def State.switchFrame (s : State) (n : Nat) (l : List Byte) : State :=
  let t := s.rxStamp n
  let fw := s.forwards n l
  let room := s.ethRoom (1 - n) l
  let inside := (s.route l).inside
  let s := if !fw then s
    else if room then s.enqueue (1 - n) { bytes := l, src := some n, rx := t, steps := s.tim.steps } (ptpOf l).isSome
    else s.fwdDrop (1 - n)
  if inside then s.storeRx n l t (fw && room) else s

/-- A frame passes the checks of R336; `l` is without FCS. -/
def frameGood (l : List Byte) (fcsOk : Bool) : Bool :=
  fcsOk && 64 ≤ l.length + 4 && l.length + 4 ≤ (if tagged l then 1522 else 1518)

/-- A frame arrives on an external port, its first bit on the present tick (R336, R339, R342). (DESIGN CHOICE, log 39) -/
def execFrameReceive (n : Port) (l : List Byte) (fcsOk : Bool) (s : State) : Host.Outcome State Fault Refusal :=
  if s.fabric ∧ n.val < s.nEth ∧ s.flag (ETH_PORT_CFG n) ETH_PORT_CFG_EN then
    .next (if frameGood l fcsOk then (s.bumpSat (ETH_PORT_OK n) ETH_PORT_OK_COUNT 1).switchFrame n l
      else (s.bumpSat (ETH_PORT_BAD n) ETH_PORT_BAD_COUNT 1).raise 190)
  else .next s

/-! ## Corrections (R343, R350) -/

/-- A sum of ones' complement 16-bit words. -/
def onesSum (l : List Nat) : Nat := l.foldl (fun n w => let t := n + w; t % 65536 + t / 65536) 0

/-- The 16-bit words of bytes. -/
def words16 : List Byte → List Nat
  | a :: b :: r => (a.toNat * 256 + b.toNat) :: words16 r
  | [a] => [a.toNat * 256]
  | [] => []

/-- A non-zero UDP checksum updated for bytes that change (RFC 1624, equation 3); a checksum of 0 stays 0, and a sum that comes
out as 0 is sent as all ones. (DESIGN CHOICE, log 41) (PRESUMED, log 42) -/
def newChecksum (hc : Nat) (old new : List Byte) : Nat :=
  if hc = 0 then 0
  else
    let r := 65535 - onesSum ((65535 - hc) :: ((words16 old).map (65535 - ·) ++ words16 new))
    if r = 0 then 65535 else r

/-- A PTP message with bytes at an even offset of its header replaced, and its UDP checksum updated (R343). (PRESUMED, log 42) -/
def ptpPatch (l : List Byte) (p : Ptp) (off : Nat) (b : List Byte) : List Byte :=
  let i := p.at_ + off
  let old := l.drop i |>.take b.length
  let l' := patch l i b
  if p.udp then patch l' (p.at_ - 2) (bytesBE 2 (newChecksum (beAt l (p.at_ - 2) 2) old b)) else l'

/-- A correctionField raised by an amount in 2^-16 ns, saturating (R344). (PRESUMED, log 42) -/
def addCorrection (l : List Byte) (p : Ptp) (d : Nat) : List Byte :=
  let c := beAt l (p.at_ + 8) 8
  if c = 2 ^ 63 - 1 then l
  else
    let x := signedOf 64 c + d
    ptpPatch l p 8 (bytesBE 8 (if (2 : Int) ^ 63 - 1 < x then 2 ^ 63 - 1 else (x % (2 : Int) ^ 64).toNat))

/-- What the transparent clock adds to a forwarded message (R343). -/
def State.tcAdds (s : State) (f : EFrame) (t n : Nat) : Option Nat :=
  let res := s.txStamp n + stampModulus - f.rx
  match s.tcMode with
  | 1 => if t < 2 then some (res % stampModulus) else none
  | 2 => if t = 0 then some (res % stampModulus + (s.rd (ETH_P2P_DELAY (f.src.getD 0))).toNat) else none
  | _ => none

/-- A forwarded frame as it leaves (R343). -/
def State.corrected (s : State) (f : EFrame) (n : Nat) : List Byte :=
  match ptpOf f.bytes with
  | none => f.bytes
  | some p => match s.tcAdds f (ptpType f.bytes p) n with | some d => addCorrection f.bytes p d | none => f.bytes

/-- The FCS of IEEE 802.3, its first octet first (R336). (PRESUMED, log 42) -/
def fcsOf (l : List Byte) : List Byte := bytesLE 4 (~~~(crcBytes 4 0x04C11DB7 0xFFFFFFFF l)).toNat

/-- A frame as it is sent (R336): padded to 60 bytes, with its FCS. The values of the padding are open. (PRESUMED, log 42) -/
def State.onWire (s : State) (l : List Byte) : State × List Byte :=
  let p := s.freeBytes (60 - l.length)
  (p.1, l ++ p.2 ++ fcsOf (l ++ p.2))

/-- A frame leaves a port. -/
def State.ethSend (s : State) (n : Nat) (l : List Byte) : State :=
  let w := s.onWire l
  ({ w.1 with eth := { w.1.eth with wire := tset [] w.1.eth.wire n (tget w.1.eth.wire [] n ++ [w.2]) } }).bumpSat
    (ETH_PORT_TX n) ETH_PORT_TX_COUNT 1

/-- The next frame of a port, high queue first (R340). -/
def State.nextEgress (s : State) (n : Nat) : Option EFrame := (s.ethHi n ++ s.ethLo n).head?

/-- That frame leaves its queue. -/
def State.popEgress (s : State) (n : Nat) : State :=
  match s.ethHi n with
  | _ :: r => { s with eth := { s.eth with hi := tset [] s.eth.hi n r } }
  | [] => { s with eth := { s.eth with lo := tset [] s.eth.lo n ((s.ethLo n).drop 1) } }

/-- A port can send. -/
def State.portOn (s : State) (n : Nat) : Bool := n < s.nEth && s.flag (ETH_PORT_CFG n) ETH_PORT_CFG_EN

/-- The next frame of a port, if it is a forwarded one, is sent with its correction; an event message across a step of the
counter is dropped (R343, R344). (DESIGN CHOICE, log 39) -/
def execFrameForward (n : Port) (s : State) : Host.Outcome State Fault Refusal :=
  match s.nextEgress n with
  | none => .next s
  | some f =>
    if s.fabric ∧ s.portOn n ∧ f.src.isSome then
      let r := s.popEgress n
      .next (if isEvent f.bytes ∧ f.steps ≠ s.tim.steps then r.fwdDrop n else r.ethSend n (s.corrected f n))
    else .next s

/-! ## Transmission (R349, R350) -/

/-- The ports that PORT names. -/
def portsOf (p : Nat) : List Nat := match p with | 0 => [0] | 1 => [1] | 2 => [0, 1] | _ => []

/-- A slot is refused for its header or for a frame that is no Sync with ONESTEP (R349, R350). -/
def State.slotBad (s : State) (w0 : Nat) (l : List Byte) : Bool :=
  let p := bitsOf w0 28 2
  let len := bitsOf w0 0 11
  let sync := match ptpOf l with | some q => ptpType l q = 0 | none => false
  !w0.testBit 31 || p = 3 || len < 14 || 1518 < len || (p = 1 && s.nEth < 2) || (p = 2 && (w0.testBit 27 || w0.testBit 26)) ||
    (w0.testBit 26 && !sync)

/-- A slot is refused: DONE and ERR, TXERR, source 188, and on to the next (R349). (DESIGN CHOICE, log 41) -/
def State.refuseSlot (s : State) (a w0 : Nat) : State :=
  (((s.memStore a 4 (setBitsOf (setBitsOf w0 30 1 1) 23 1 1)).1.set ETH_STATUS ETH_STATUS_TXERR 1).raise 188).nextHead ETH_TX_CFG

/-- The slot at HEAD is taken (R349): refused, or its frame goes to the egress queues that it names once they have room. -/
def State.takeSlot (s : State) : State :=
  let a := s.slotAt ETH_TX_BASE ETH_TX_CFG
  let r := s.memLoad a 4
  let w0 := r.2.1
  let b := r.1.getBytes (a + 16) (min 1518 (bitsOf w0 0 11))
  let ports := (portsOf (bitsOf w0 28 2)).filter (· < s.nEth)
  if s.slotBad w0 b.2 then r.1.refuseSlot a w0
  else if ports.all fun n => s.ethRoom n b.2 then
    let high := w0.testBit 25 || (ptpOf b.2).isSome
    let s := ports.foldl (fun s n => s.enqueue n { bytes := b.2 } high) b.1
    { s with eth := { s.eth with tx := some { slot := s.get ETH_TX_CFG ETH_TX_CFG_HEAD, addr := a, w0, ports } } }
  else s

/-- The hub takes the slot at HEAD (R349). -/
def execTxSlot (s : State) : Host.Outcome State Fault Refusal :=
  .next (if s.fabric ∧ 0 < s.nEth ∧ s.flag ETH_CTL ETH_CTL_TXEN ∧ s.eth.tx.isNone ∧
      s.get ETH_TX_CFG ETH_TX_CFG_HEAD ≠ s.get ETH_TX_TAIL ETH_TX_TAIL_TAIL then s.takeSlot else s)

/-- A one-step Sync as it leaves (R350). (PRESUMED, log 42) -/
def oneStep (l : List Byte) (t : Nat) : List Byte :=
  match ptpOf l with
  | none => l
  | some p => addCorrection (ptpPatch l p 34 (bytesBE 6 (stampSec t) ++ bytesBE 4 (stampNs t))) p (stampFrac t)

/-- The internal frame is the next one at a port. -/
def State.txNext (s : State) (n : Nat) : Bool := s.portOn n && s.nextEgress n matches some { src := none, .. }

/-- The internal frame leaves a port. -/
def State.txSend (s : State) (w0 n : Nat) : State :=
  match s.nextEgress n with
  | some f => (s.popEgress n).ethSend n (if w0.testBit 26 then oneStep f.bytes (s.txStamp n) else f.bytes)
  | none => s

/-- The header is written back, source 185 raised, and HEAD advances (R349). (DESIGN CHOICE, log 39) (DESIGN CHOICE, log 41) -/
def State.txDone (s : State) (x : TxSlot) : State :=
  let a := x.addr
  let t := s.txStamp (x.ports.headD 0)
  let s := x.ports.foldl (fun s n => s.txSend x.w0 n) s
  let s := if x.w0.testBit 27 then
      (s.memStore (a + 4) 4 ((stampWords t).headD 0)).1.putBytes (a + 8) ((stampWords t).drop 1 |>.flatMap (bytesLE 4))
    else s
  let s := (s.memStore a 4 (setBitsOf x.w0 30 2 1)).1
  let s := if x.w0.testBit 24 then s.raise 185 else s
  let s := if s.get ETH_TX_CFG ETH_TX_CFG_HEAD = x.slot then s.nextHead ETH_TX_CFG else s
  { s with eth := { s.eth with tx := none } }

/-- The frame of the transmit ring has gone out (R349). -/
def execTxFrameDone (s : State) : Host.Outcome State Fault Refusal :=
  match s.eth.tx with
  | some x => .next (if s.fabric ∧ x.ports.all s.txNext then s.txDone x else s)
  | none => .next s

/-! ## Registers (R347, R349, R338) -/

/-- A ring fits. -/
def ringOk (base count : Nat) : Bool := base % 8 = 0 && 2 ≤ count && count ≤ 256 && base + 1536 * count ≤ 0x100000

/-- A write to a ring's base or size (R347). -/
def State.ringStore (s : State) (a v : Nat) : State :=
  let rx := a = ETH_RX_BASE ∨ a = ETH_RX_CFG
  let base := if rx then ETH_RX_BASE else ETH_TX_BASE
  let cfg := if rx then ETH_RX_CFG else ETH_TX_CFG
  if s.flag ETH_CTL (if rx then ETH_CTL_RXEN else ETH_CTL_TXEN) then s.set ETH_STATUS ETH_STATUS_RINGLOCK 1
  else if a = base then
    if ringOk v (s.get cfg ETH_RX_CFG_COUNT) then s.wr base (BitVec.ofNat 32 v) else s.cfgErr base
  else
    let n := bitsOf v 0 9
    if ringOk (s.rd base).toNat n then s.set cfg ETH_RX_CFG_COUNT n else s.cfgErr cfg

/-- A write to ETH_TX_TAIL (R349). -/
def State.tailStore (s : State) (v : Word) : State :=
  let t := fieldOf v ETH_TX_TAIL_TAIL
  if s.get ETH_TX_CFG ETH_TX_CFG_COUNT ≤ t then s.cfgErr ETH_TX_TAIL else s.set ETH_TX_TAIL ETH_TX_TAIL_TAIL t

/-- A write to ETH_TX_TAIL (R349). -/
def execTxTailWrite (v : Word) (s : State) : Host.Outcome State Fault Refusal :=
  .next (if !s.fabric then s else if 0 < s.nEth then s.tailStore v else s.absentHit)

/-- A write to ETH_CTL (R347): HEAD becomes 0 on enable; BRIDGE reads 0 on a hub without port 1 (R352). -/
def State.ethCtlStore (s : State) (v : Word) : State :=
  let rx := s.flag ETH_CTL ETH_CTL_RXEN
  let tx := s.flag ETH_CTL ETH_CTL_TXEN
  let s := s.storeReg ETH_CTL (if s.nEth < 2 then setField v ETH_CTL_BRIDGE 0 else v)
  let s := if !rx && s.flag ETH_CTL ETH_CTL_RXEN then s.set ETH_RX_CFG ETH_RX_CFG_HEAD 0 else s
  if !tx && s.flag ETH_CTL ETH_CTL_TXEN then s.set ETH_TX_CFG ETH_TX_CFG_HEAD 0 else s

/-- A write to ETH_CTL (R347). -/
def execRingEnable (v : Word) (s : State) : Host.Outcome State Fault Refusal :=
  .next (if !s.fabric then s else if 0 < s.nEth then s.ethCtlStore v else s.absentHit)

/-- The management frame that ETH_MDIO asks for (R338). -/
def State.mdioFrame (s : State) : MdioFrame :=
  let f := fun (x : Fld) => s.get ETH_MDIO x
  { op := f ETH_MDIO_OP, phy := f ETH_MDIO_PHYAD, reg := f ETH_MDIO_REGAD
    data := if f ETH_MDIO_OP = 1 then some (f ETH_MDIO_DATA) else none }

/-- A write to ETH_MDIO (R338): START begins a frame unless one is in progress. (DESIGN CHOICE, log 41) (DESIGN CHOICE, log 71) -/
def State.mdioStore (s : State) (v : Word) : State :=
  let s := s.storeReg ETH_MDIO v
  if fieldOf v ETH_MDIO_START = 1 ∧ s.eth.mdio.isNone then
    ({ s with eth := { s.eth with mdio := some (s.get ETH_MDIO ETH_MDIO_OP = 2), frames := s.eth.frames ++ [s.mdioFrame] } }).set
      ETH_MDIO ETH_MDIO_BUSY 1
  else s

/-- A write to ETH_MDIO (R338). -/
def execMdioStart (v : Word) (s : State) : Host.Outcome State Fault Refusal :=
  .next (if !s.fabric then s else if 0 < s.nEth then s.mdioStore v else s.absentHit)

/-- A management frame completes (R338): a read gives DATA and NOACK; source 187. -/
def execMdioDone (data : BitVec 16) (noAck : Bool) (s : State) : Host.Outcome State Fault Refusal :=
  match s.eth.mdio with
  | some rd =>
    if s.fabric then
      let s := ({ s with eth := { s.eth with mdio := none } }).set ETH_MDIO ETH_MDIO_BUSY 0
      let s := if rd then
          (s.set ETH_MDIO ETH_MDIO_NOACK noAck.toNat).set ETH_MDIO ETH_MDIO_DATA (if noAck then 0xFFFF else data.toNat)
        else s
      .next (s.raise 187)
    else .next s
  | none => .next s

/-- The register of a counter. -/
def ethCounterAddr (n : Nat) : EthCounter → Nat
  | .ok => ETH_PORT_OK n
  | .bad => ETH_PORT_BAD n
  | .tx => ETH_PORT_TX n
  | .drop => ETH_PORT_DROP n

/-- A read of a counter returns and clears it (R10); on a hub without Ethernet it ends with ABSENT (R3, R352). -/
def execEthCounterRead (n : Port) (k : EthCounter) (s : State) : Host.Outcome State Fault Refusal :=
  let a := ethCounterAddr n k
  .next (if !s.fabric then s
    else if s.nEth = 0 then { s.absentHit with rdata := 0, rerr := some .absent }
    else (s.answer (s.rd a).toNat).wr a 0)

end Sys2Proof.Machine
end

