-- ==== Sys2Proof/Machine/Sys.lean ====
section
/-! DEFINITION. System control: supplies and clocks as firmware sees them, PFAIL_N, die temperatures, the error record, and GPIO
(R73–R79, R86, R87). -/

namespace Sys2Proof.Machine

open Sys2Proof

/-- VIO33 crosses its threshold (R74). A PORST_N that is low acts once VIO33 is valid (R83). -/
def execVio33Low (low : Bool) (s : State) : Host.Outcome State Fault Refusal :=
  let was := s.porstActs
  let s := s.set SYS_STATUS SYS_STATUS_VIO33LOW low.toNat
  .next (if s.porstActs && !was then s.coldBegin 1 else s)

/-- AVDD crosses its threshold (R74). -/
def execAvddLow (low : Bool) (s : State) : Host.Outcome State Fault Refusal :=
  .next (s.set SYS_STATUS SYS_STATUS_AVDDLOW low.toNat)

/-- A COLD reset lasts (R472): until the fabric leaves reset after PLL_F has locked. -/
def State.inCold (s : State) : Bool := s.pow.phase = .cold || s.pow.phase = .vcore || s.pow.phase = .lock

/-- PFAIL_N falls (R75): the flush starts. In a COLD reset it is ignored; PFAIL, which no one can read then, still shows the level. -/
def execPfailNFall (s : State) : Host.Outcome State Fault Refusal :=
  let s := s.set SYS_STATUS SYS_STATUS_PFAIL 1
  .next (if s.inCold then s else { s with pow := { s.pow with flushing := true } })

/-- PFAIL_N returns high (R75). -/
def execPfailNRise (s : State) : Host.Outcome State Fault Refusal := .next (s.set SYS_STATUS SYS_STATUS_PFAIL 0)

/-- The reference is watched: the fabric runs, or is held in a WARM reset. In OASIS the oscillator is stopped (R47). (DEDUCED, log 15) -/
def State.refWatched (s : State) : Bool := s.pow.phase = .up || s.pow.phase = .warm

/-- The reference is lost (R79, R310, R311, R330): REFOK, REFLOSS, source 0, HOLDOVER, and with SAFEREF = 1 SAFE on every
output. The control words of the PLLs are frozen: State.setTrim changes none while REFOK is 0. -/
def State.refLoss (s : State) : State :=
  let s := ((s.set SYS_STATUS SYS_STATUS_REFOK 0).set SYS_STATUS SYS_STATUS_REFLOSS 1).showLock
  let s := (s.tRaise 0).set TIME_SRV_STAT TIME_SRV_STAT_REFLOST 1
  let s := s.holdover
  if s.flag ACT_CTL ACT_CTL_SAFEREF then s.safeAll else s

/-- No reference edge for 2 µs (R79). -/
def execRefLoss (s : State) : Host.Outcome State Fault Refusal :=
  .next (if s.refWatched ∧ s.flag SYS_STATUS SYS_STATUS_REFOK then s.refLoss else s)

/-- The reference returns: both PLLs relock, PLL_T with the servo's trim (R79, R311). -/
def State.refReturn (s : State) : State :=
  let s := ({ s with tim := { s.tim with pll := s.tim.trim } }).set SYS_STATUS SYS_STATUS_REFOK 1
  s.showLock.set TIME_SRV_STAT TIME_SRV_STAT_REFLOST 0

/-- The reference has been present for 1 ms, and both PLLs relock (R79, R311). -/
def execRefReturn (s : State) : Host.Outcome State Fault Refusal :=
  .next (if s.refWatched ∧ !s.flag SYS_STATUS SYS_STATUS_REFOK then s.refReturn else s)

/-- 4,096 good cycles of the 32.768 kHz crystal have been counted (R77). -/
def execXt32Ok (s : State) : Host.Outcome State Fault Refusal :=
  .next (if s.aoOn then s.set SYS_STATUS SYS_STATUS_XT32OK 1 else s)

/-- The 32.768 kHz crystal stops (R77). -/
def execXt32Stop (s : State) : Host.Outcome State Fault Refusal := .next (s.set SYS_STATUS SYS_STATUS_XT32OK 0)

/-! ## Die temperatures (R73) -/

/-- The code of a temperature in °C: 0x01 to 0xFF. -/
def tempCode (t : Int) : Nat := (clampInt 1 255 (t + 64)).toNat

/-- A threshold with hysteresis on some readings: reached, or left again, or neither. -/
def tempState (cfg : Word) (codes : List Nat) (was : Bool) : Bool :=
  let hi : Int := fieldOf cfg SYS_TEMPCFG_TEMP_HI
  let lo := hi - fieldOf cfg SYS_TEMPCFG_HYST
  if codes.any fun c => hi ≤ (c : Int) then true else if codes.all fun c => (c : Int) < lo then false else was

/-- The four sensors convert (R73): source 2 on reaching TEMP_HI. -/
def State.convertTemps (s : State) (codes : List Nat) : State :=
  let s := s.wr SYS_DIETEMP (BitVec.ofNat 32 (codes.foldr (fun c n => c + 256 * n) 0))
  let was := !s.pow.tempArmed
  let now := tempState (s.rd SYS_TEMPCFG) codes was
  let t3 := tempState (s.rd SYS_TEMPCFG) (codes.drop 3) s.pow.temp3High
  let s := { s with pow := { s.pow with tempArmed := !now, temp3High := t3 } }
  if now && !was then (s.set SYS_STATUS SYS_STATUS_TEMPHI 1).raise 2 else s

/-- The sensors convert (R73); in OASIS only sensor 3, whose threshold is the one in force at entry (R263). -/
def execTempConversion (t0 t1 t2 t3 : Int) (s : State) : Host.Outcome State Fault Refusal :=
  .next (if s.fabric then s.convertTemps [tempCode t0, tempCode t1, tempCode t2, tempCode t3]
    else if s.pow.phase = .oasis then
      { s with pow := { s.pow with temp3High := tempState s.pow.aoTemp [tempCode t3] s.pow.temp3High } }
    else s)

/-! ## The error record (R86) -/

/-- CLEAR = 1 in SYS_ECC_CTL. -/
def State.eccClear (s : State) : State := ((s.wr SYS_ECC_CNT 0).wr SYS_ECC_ADDR 0).wr SYS_ECC_INFO 0

/-- CLEAR = 1 in SYS_ECC_CTL (R86). -/
def execEccClear (s : State) : Host.Outcome State Fault Refusal := .next (if s.fabric then s.eccClear else s)

/-! ## GPIO (R87) -/

/-- The levels of the GPIO balls. -/
def State.gpioLevels (s : State) : List Bool := (List.range 15).map s.gpioLevel

/-- A ball that has changed level since `old` makes an edge, which an edge source counts under its POL (R243, R474). -/
def State.gpioEdges (old : List Bool) (s : State) : State :=
  if s.fabric then
    (List.range 15).foldl (fun s n =>
      let l := s.gpioLevel n
      if l != old.getD n false && !s.isLevel (240 + n) && l != s.flag (HIC_SRC_CFG (240 + n)) HIC_SRC_CFG_POL then s.raise (240 + n)
      else s) s
  else s

/-- OUT written: the balls follow. -/
def State.gpioOut (s : State) (v : Nat) : State := (s.set SYS_GPIO_OUT SYS_GPIO_OUT_OUT v).gpioEdges s.gpioLevels

/-- A store to SYS_GPIO_SET. -/
def State.gpioSet (s : State) (v : Word) : State :=
  s.gpioOut (s.get SYS_GPIO_OUT SYS_GPIO_OUT_OUT ||| fieldOf v SYS_GPIO_SET_SET)

/-- A store to SYS_GPIO_CLR. -/
def State.gpioClr (s : State) (v : Word) : State :=
  let o := s.get SYS_GPIO_OUT SYS_GPIO_OUT_OUT
  s.gpioOut (o - (o &&& fieldOf v SYS_GPIO_CLR_CLR))

/-- A store to SYS_GPIO_DIR: the directions, and the first one after a wake releases the frozen pads. -/
def State.gpioDir (s : State) (v : Word) : State :=
  ((s.storeReg SYS_GPIO_DIR v).set SYS_GPIO_IN SYS_GPIO_IN_FROZEN 0).gpioEdges s.gpioLevels

/-- A store to SYS_GPIO_SET (R87). -/
def execGpioSet (v : Word) (s : State) : Host.Outcome State Fault Refusal := .next (if s.fabric then s.gpioSet v else s)

/-- A store to SYS_GPIO_CLR (R87). -/
def execGpioClr (v : Word) (s : State) : Host.Outcome State Fault Refusal := .next (if s.fabric then s.gpioClr v else s)

/-- A store to SYS_GPIO_DIR (R87). -/
def execGpioDirWrite (v : Word) (s : State) : Host.Outcome State Fault Refusal := .next (if s.fabric then s.gpioDir v else s)

/-- A GPIO ball's outside level changes (R87). -/
def execGpioInputChange (n : Fin 15) (level : Bool) (s : State) : Host.Outcome State Fault Refusal :=
  .next (({ s with pow := { s.pow with
    gpioBalls := BitVec.ofNat 15 (setBitsOf s.pow.gpioBalls.toNat n 1 level.toNat) } }).gpioEdges s.gpioLevels)

/-- A store to SYS_STATUS: BOWARN tells whether VCOREWARN has been 1 since it was last cleared, so it does not clear while VCOREWARN is
1. (DEDUCED, log 15) -/
def State.sysStatusStore (s : State) (v : Word) : State :=
  let s := s.storeReg SYS_STATUS v
  if s.flag SYS_STATUS SYS_STATUS_VCOREWARN then s.set SYS_STATUS SYS_STATUS_BOWARN 1 else s

/-- A store to SYS_RSTCTL (R80): with the key, a reset, or CFGERR for the reserved request. -/
def State.rstctlStore (s : State) (v : Word) : State :=
  if fieldOf v SYS_RSTCTL_KEY ≠ 0x9C3E then s
  else
    match fieldOf v SYS_RSTCTL_REQ with
    | 1 => s.warmCause SYS_RESETCAUSE_SOFT
    | 2 => s.aoReset SYS_RESETCAUSE_SOFTAO
    | 3 => s.cfgErr SYS_RSTCTL
    | _ => s

end Sys2Proof.Machine
end

