-- ==== Sys2Proof/Machine/Power.lean ====
section
/-! DEFINITION. The power states: requests, entries, wakes, and the wake watcher (R255–R264). -/

namespace Sys2Proof.Machine

open Sys2Proof

/-! ## Requests (R257) -/

/-- A request is allowed from the present state. -/
def allowedMove (frm dst : Nat) : Bool :=
  match frm, dst with
  | 0, 1 | 0, 2 | 0, 3 | 1, 0 | 1, 2 | 1, 3 | 2, 0 | 2, 3 | 3, 0 => true
  | _, _ => false

/-- The request is ignored. -/
def State.reqIgn (s : State) : State := s.set OAS_STATUS OAS_STATUS_REQIGN 1

/-- A request for a state (R257). A wake in progress leads to RUN already. (DESIGN CHOICE, log 27) -/
def State.pwrRequest (s : State) (k : Nat) : State :=
  if 4 ≤ k then s.cfgErr OAS_PWRREQ
  else if s.pow.entry.isSome then s.reqIgn
  else if k = s.pstate then s
  else if !allowedMove s.pstate k then s.reqIgn
  else if k = 0 then s.wake 4 0
  else if s.pow.waking.isSome then s.reqIgn
  else ({ s with pow := { s.pow with entry := some k } }).set OAS_PWRSTATE OAS_PWRSTATE_TRANS 1

/-- A store to OAS_PWRREQ (R257). -/
def State.pwrreqStore (s : State) (v : Word) : State :=
  if fieldOf v OAS_PWRREQ_KEY = 0xA5D0 then s.pwrRequest (fieldOf v OAS_PWRREQ_STATE) else s

/-- A write to OAS_PWRREQ (R257): once the AO island has left reset, C8 at least can make it, in a WARM reset too. -/
def execPowerRequest (v : Word) (s : State) : Host.Outcome State Fault Refusal :=
  .next (if s.aoOn then s.pwrreqStore v else s)

/-! ## Entry (R258) -/

/-- C0–C7 have stopped at a boundary with their store buffers empty (R256). -/
def State.coresStopped (s : State) : Bool :=
  (List.range 8).all fun c =>
    (s.core c).stores.isEmpty && (s.core c).load.isNone && (s.core c).mode != .ckpt

/-- The other conditions of an entry: for NAP and OASIS no TEU step is in progress, and for OASIS no commit is on its way into
staging. (DESIGN CHOICE, log 64) -/
def State.entryReady (s : State) (k : Nat) : Bool :=
  s.coresStopped && (k = 1 || s.teu.run.isNone) && (k != 3 || s.jrn.handed.isEmpty)

/-- Outstanding offers to C0–C7 are dropped; their sources stay pending. -/
def State.dropOffers (s : State) : State := (List.range 8).foldl (fun s c => s.modHc c fun x => { x with offer := false }) s

/-- The entry has ended in state `k`. -/
def State.entered (s : State) (k : Nat) : State :=
  (({ s with pow := { s.pow with entry := none } }).set OAS_PWRSTATE OAS_PWRSTATE_TRANS 0).set OAS_PWRSTATE OAS_PWRSTATE_STATE k

/-- The memories that lie in the AO island: Oasis data memory and Oasis program memory (R28, R255). -/
def inAoMemory (a : Nat) : Bool := (0x300000 ≤ a && a < 0x304000) || (0x10080000 ≤ a && a < 0x10084000)

/-- Entry into OASIS (R255, R258, R313, R330): SAFE on every output, the watch configuration and the time to AO, the pads latch or
stay latched where nothing has released them (R87), and VCORE goes with all that lies in it. TAKEOVER is released and PAIR_OK held
low (R47). (DESIGN CHOICE, log 64) -/
def State.enterOasis (s : State) : State :=
  let s := s.safeAll.afeNap.afeOasis
  let s := (List.range 8).foldl (fun s w => s.set (OAS_WRES w) OAS_WRES_VALID 0) s
  let frozen := s.flag SYS_GPIO_IN SYS_GPIO_IN_FROZEN
  let dir := if frozen then s.pow.padDir else (s.rd SYS_GPIO_DIR).setWidth 15
  let out := if frozen then s.pow.padOut else (s.rd SYS_GPIO_OUT).setWidth 15
  let temp := s.rd SYS_TEMPCFG
  let latch := s.act.latch
  let s := (s.timeToAo).loseFabric oasisKeeps
  let s := { s with
    act := { latch := latch }
    jrn := { s.jrn.noIndex with toAck := [], stale := 0, acked := [] }
    caer := { s.caer with pairOkLow := true, takeLow := false }
    mem := s.mem.filter fun e => inAoMemory e.1
    flips := s.flips.filter fun e => inAoMemory e.1
    pow := { s.pow with
      phase := .oasis, pllT := false, pwrEn := false, vcoreUp := false, padDir := dir, padOut := out, aoTemp := temp } }
  (s.set SYS_GPIO_IN SYS_GPIO_IN_FROZEN 1).entered 3

/-- An entry completes, or the wake-set sources that are pending when the last core has fallen asleep end it (R258, R260). (DESIGN CHOICE, log 16) -/
def State.completeEntry (s : State) (k : Nat) : State :=
  let s := s.dropOffers
  match s.wakeSources with
  | [] =>
    if k = 3 then s.enterOasis
    else if k = 2 then (s.afeNap.wdClear.entered 2).settle
    else (s.entered 1).settle
  | l => s.wakeFor l

/-- The entry in progress completes (R258). -/
def execPowerEntryComplete (s : State) : Host.Outcome State Fault Refusal :=
  match s.pow.entry with
  | some k => .next (if s.fabric ∧ s.entryReady k then s.completeEntry k else s)
  | none => .next s

/-! ## Wakes (R259, R261–R263) -/


/-- OAS_WAKETMR reaches 0 (R259): it counts while the hub is not in RUN and XT32OK is 1. (DESIGN CHOICE, log 27) -/
def execWakeTimer (s : State) : Host.Outcome State Fault Refusal :=
  .next (if s.pstate ≠ 0 ∧ s.flag SYS_STATUS SYS_STATUS_XT32OK ∧
      s.get OAS_WAKETMR OAS_WAKETMR_TICKS ≠ 0 then
    (s.set OAS_WAKETMR OAS_WAKETMR_TICKS 0).wake 2 0 else s)

/-- DAP_WAKE is high for 1 µs (R259). -/
def execDapWake (s : State) : Host.Outcome State Fault Refusal :=
  .next (if s.fabric ∨ s.pow.phase = .oasis then s.wake 3 0 else s)

/-- The sources that are asserted in an entry with EN = 1 and C8ONLY = 0 (R263). -/
def State.watchWakes (s : State) : List Nat := (List.range 255).filter (s.watchEntry false)

/-- In OASIS an asserted source wakes the hub, the lowest-numbered one named, or is offered to C8, unless C8 is in a handler until its
RETI has been completed (R247, R263). (DESIGN CHOICE, log 29) -/
def execOasisWatchAssert (s : State) : Host.Outcome State Fault Refusal :=
  if s.pow.phase = .oasis then
    let s := match s.watchWakes.head? with | some src => s.wake 1 src | none => s
    .next (if s.watchForC8.isEmpty ∨ (s.core 8).inHandler ∨ (s.hc 8).done then s
      else { s with pow := { s.pow with watchOffer := true } })
  else .next s

/-- VCORE has not risen 10 ms after PWR_EN (R67): the hub stays in OASIS, with PWRTO set. A WARM cause that waits for VCORE goes on
waiting. (DESIGN CHOICE, log 64) -/
def execPwrto (s : State) : Host.Outcome State Fault Refusal :=
  if s.pow.phase = .oasis ∧ s.pow.waking.isSome ∧ !s.pow.vcoreUp then
    let s := { s with pow := { s.pow with pwrEn := false, waking := none } }
    .next (s.set SYS_STATUS SYS_STATUS_PWRTO 1)
  else .next s

/-- The hub is in RUN. -/
def State.inRun (s : State) : State :=
  ({ s with pow := { s.pow with waking := none } }).set OAS_PWRSTATE OAS_PWRSTATE_STATE 0

/-- The end of a wake from OASIS (R261, R313): the fabric leaves reset, TIME reloads, and BOOT is to reload the settings. (DESIGN CHOICE, log 29) -/
def State.wakeFabric (s : State) : State :=
  let s := s.timeFromAo
  ({ s with
    pow := { s.pow with phase := .up, vcoreUp := false, watchOffer := false }
    boot := { s.boot with due := .wake :: s.boot.due } }).showLock

/-- A wake reaches RUN (R261). -/
def execWakeComplete (s : State) : Host.Outcome State Fault Refusal :=
  match s.pow.waking with
  | some 3 =>
    if s.pow.vcoreUp then .next (s.timerLeft.wakeFabric.inRun.settle)
    else .next s
  | some 2 => .next (s.timerLeft.inRun.afeNapEnd.settle)
  | some _ => .next (s.timerLeft.inRun.settle)
  | none => .next s

/-! ## VCORE rises (R84, R261, R262, R451, R453) -/

/-- The fuse read (R451): of two rows that disagree the higher count holds, and the other is completed. -/
def State.fuseRead (s : State) : State :=
  let n := max s.fuse.rowA s.fuse.rowB
  { s with fuse := { s.fuse with rowA := n, rowB := n }, lcs := { s.lcs with counter := n } }

/-- The RETURN erasure (R453): every OEM slot is revoked, every line of the store erased, the mark written, and records made of each slot
that was not revoked before and of the end (R467). -/
def State.returnErase (s : State) : State :=
  if s.lcs.counter = 4 ∧ !s.lcs.mark then
    let s := ((List.range 4).filter fun k => !(s.slotOf k).revoked).foldl State.revokeSlot s
    let s := { s with
      jrn := { s.jrn with store := [], epoch := none, written := [], head := 0 }
      boot := { s.boot with ret := {} }
      lcs := { s.lcs with mark := true } }
    s.lcsEvent 7 0 0
  else s

/-- VCORE passes its rising threshold: in the power-up sequence the PLLs start to lock and the fuses are read (R84); in a wake from
OASIS the wake goes on, or a WARM cause that waited for it begins its reset (R261, R262). (DESIGN CHOICE, log 64) -/
def execVcoreRise (s : State) : Host.Outcome State Fault Refusal :=
  .next (match s.pow.phase with
    | .vcore => ({ s with pow := { s.pow with phase := .lock } }).fuseRead.returnErase
    | .oasis =>
      if s.pow.waking.isSome then
        if s.pow.warmAfterWake then s.warmFromOasis else { s with pow := { s.pow with vcoreUp := true } }
      else s
    | _ => s)

end Sys2Proof.Machine
end

