-- ==== Sys2Proof/Machine/Twp.lean ====
section
/-! DEFINITION. The two-wire ports: the target with its window, the controller, recovery and held configuration (R379–R396). -/

namespace Sys2Proof.Machine

open Sys2Proof

/-- A port's state. -/
def State.tw (s : State) (p : Nat) : TwpPort := tget s.twp {} p

/-- A port's state changed. -/
def State.modTw (s : State) (p : Nat) (f : TwpPort → TwpPort) : State := { s with twp := tset {} s.twp p (f (s.tw p)) }

/-- A field of TWP_CFG. -/
def State.twCfg (s : State) (p : Nat) (f : Fld) : Nat := s.get (TWP_CFG p) f

/-- The port is enabled. -/
def State.twOn (s : State) (p : Nat) : Bool := s.fabric && s.twCfg p TWP_CFG_EN = 1

/-- ROLE names the controller. -/
def State.twCtl (s : State) (p : Nat) : Bool := s.twOn p && (s.twCfg p TWP_CFG_ROLE).testBit 0

/-- ROLE names the target. -/
def State.twTgt (s : State) (p : Nat) : Bool := s.twOn p && (s.twCfg p TWP_CFG_ROLE).testBit 1

/-- Forerunner mode. -/
def State.fore (s : State) (p : Nat) : Bool := s.twCfg p TWP_CFG_ADDRMODE = 1

/-- The address is one that the target role answers (R379, R383). -/
def State.answers (s : State) (p a : Nat) : Bool :=
  s.twTgt p &&
    if s.fore p then
      7 < a && a < 0x78 && (a ^^^ s.twCfg p TWP_CFG_TADDR) / 8 = 0 &&
        (a ^^^ s.twCfg p TWP_CFG_TADDR) % 8 &&& (7 - s.twCfg p TWP_CFG_TMASK) == 0
    else a = 0x58 + s.pow.addrSampled.toNat

/-- The native window size (R384). -/
def State.winSize (s : State) (p : Nat) : Nat := s.get (TWP_WSIZE p) TWP_WSIZE_SIZEM1 + 1

/-- The current pointer. -/
def State.twPtr (s : State) (p : Nat) : Nat := s.get (TWP_TPTR p) TWP_TPTR_PTR

/-- The pointer put to a value. -/
def State.setPtr (s : State) (p v : Nat) : State := s.set (TWP_TPTR p) TWP_TPTR_PTR v

/-- The offset in the window of the byte at the pointer (R384). -/
def State.twOff (s : State) (p : Nat) : Nat := if s.fore p then 256 * (s.tw p).page + s.twPtr p % 256 else s.twPtr p

/-- The address of the byte at the pointer. -/
def State.twAddr (s : State) (p : Nat) : Nat := s.get (TWP_WBASE p) TWP_WBASE_BASE + s.twOff p

/-- A bit of TWP_TSTAT is set. -/
def State.tstat (s : State) (p : Nat) (f : Fld) : State := s.set (TWP_TSTAT p) f 1

/-- The pointer moves on by 1; each wrap sets WRAP (R386). In forerunner mode it has 8 bits (R384). -/
def State.movePtr (s : State) (p : Nat) : State :=
  let size := if s.fore p then 256 else s.winSize p
  let n := (if s.fore p then s.twPtr p % 256 else s.twPtr p) + 1
  if n < size then s.setPtr p n else (s.setPtr p 0).tstat p TWP_TSTAT_WRAP

/-- The byte at the pointer is loaded for the next read; an uncorrectable error sends 0xFF and sets TECC (R387). A pointer that
TWP_TPTR has put beyond the window may lie beyond shared data SRAM, where the spec names no byte. (DESIGN CHOICE, log 49) -/
def State.loadByte (s : State) (p : Nat) : State :=
  if 0x100000 ≤ s.twAddr p then s.free.2.modTw p fun x => { x with next := s.free.1.setWidth 8 }
  else
  let r := s.memLoad (s.twAddr p) 1
  if r.2.2 then (r.1.modTw p fun x => { x with next := 0xFF }).tstat p TWP_TSTAT_TECC
  else r.1.modTw p fun x => { x with next := BitVec.ofNat 8 r.2.1 }

/-! ## The target (R383–R389, R393, R395) -/

/-- A START with an address that the port answers: a waiting pointer takes effect, and a read loads its first byte. -/
def State.addressed (s : State) (p a : Nat) (read : Bool) : State :=
  let s := match (s.tw p).ptr with | some v => s.setPtr p v | none => s
  let page := a % 8 &&& s.twCfg p TWP_CFG_TMASK
  let s := s.modTw p fun x => { x with xfer := some read, seen := true, np := 0, ptr := none, page }
  if read then s.loadByte p else s

/-- A START and an address on the bus (R383). -/
def execTargetAddress (p : TPort) (addr : BitVec 7) (read : Bool) (s : State) : Host.Outcome State Fault Refusal :=
  if s.twOn p then
    let s := s.modTw p fun x => { x with busy := true, xfer := none }
    .next (if s.answers p addr.toNat then s.addressed p addr.toNat read else s)
  else .next s

/-- Pointer bytes of a write transaction (R385). -/
def State.ptrLen (s : State) (p : Nat) : Nat := if !s.fore p && s.twCfg p TWP_CFG_PTRW = 1 then 2 else 1

/-- The last pointer byte (R385): it takes effect, or is not acknowledged. (DESIGN CHOICE, log 48) -/
def State.lastPtr (s : State) (p v : Nat) : State :=
  if !s.fore p && s.winSize p ≤ v then (s.modTw p fun x => { x with xfer := none }).tstat p TWP_TSTAT_PTRERR
  else (s.setPtr p v).modTw p fun x => { x with np := x.np + 1 }

/-- A data byte (R387): it is stored and the pointer moves, or it is refused. (DESIGN CHOICE, log 48) (DESIGN CHOICE, log 49) -/
def State.dataByte (s : State) (p : Nat) (b : Byte) : State :=
  if s.get (TWP_WLIM p) TWP_WLIM_WRLIM ≤ s.twOff p then
    (s.modTw p fun x => { x with xfer := none }).tstat p TWP_TSTAT_WRREJ
  else
    let s := if s.twAddr p < 0x100000 then (s.memStore (s.twAddr p) 1 b.toNat).1 else s
    (s.modTw p fun x => { x with wcnt := min 4095 (x.wcnt + 1) }).movePtr p

/-- A byte that the target receives (R385, R387). -/
def execTargetByteReceived (p : TPort) (b : Byte) (s : State) : Host.Outcome State Fault Refusal :=
  if s.twOn p ∧ (s.tw p).xfer = some false then
    let n := (s.tw p).np
    .next (if n + 1 < s.ptrLen p then s.modTw p fun x => { x with np := 1, hi := b.toNat }
      else if n < s.ptrLen p then s.lastPtr p (if n = 1 then 256 * (s.tw p).hi + b.toNat else b.toNat)
      else s.dataByte p b)
  else .next s

/-- A byte has been sent at the ninth SCL pulse (R387): the pointer moves, and the next byte is loaded. -/
def execTargetByteSent (p : TPort) (s : State) : Host.Outcome State Fault Refusal :=
  if s.twOn p ∧ (s.tw p).xfer = some true then
    let s := s.modTw p fun x => { x with rcnt := min 4095 (x.rcnt + 1), sent := x.sent ++ [x.next] }
    .next ((s.movePtr p).loadByte p)
  else .next s

/-- The target is idle. -/
def TwpPort.idle (x : TwpPort) : TwpPort := { x with xfer := none, seen := false, np := 0, wcnt := 0, rcnt := 0 }

/-- A STOP (R389): in a sequence in which the port was addressed the counts are written and source 201 + 2p is raised. -/
def execTargetStop (p : TPort) (s : State) : Host.Outcome State Fault Refusal :=
  if s.twOn p then
    let x := s.tw p
    let s := s.modTw p TwpPort.idle
    .next (if x.seen then
      ((s.set (TWP_TSTAT p) TWP_TSTAT_WCNT x.wcnt).set (TWP_TSTAT p) TWP_TSTAT_RCNT x.rcnt).raise (201 + 2 * p.val) else s)
  else .next s

/-- SCL is low beyond TOUT while the target is addressed (R393). The sequence goes on to its STOP, which reports it (R389). -/
def execTargetTimeout (p : TPort) (s : State) : Host.Outcome State Fault Refusal :=
  .next (if s.twOn p ∧ s.twCfg p TWP_CFG_TOUT ≠ 0 ∧ (s.tw p).xfer.isSome then
    ((s.modTw p fun x => { x with xfer := none, np := 0 }).tstat p TWP_TSTAT_TGTTO).raise (201 + 2 * p.val) else s)

/-- A write to TWP_TPTR waits for the next addressed START (R395). -/
def State.tptrStore (s : State) (p : Nat) (v : Word) : State :=
  s.modTw p fun x => { x with ptr := some (fieldOf v TWP_TPTR_PTR) }

/-- A write to TWP_TPTR (R395). -/
def execTargetPointerWrite (p : TPort) (v : Word) (s : State) : Host.Outcome State Fault Refusal :=
  .next (if s.fabric then s.tptrStore p v else s)

/-! ## The controller (R390–R394) -/

/-- A command ends (R391): BUSY, DONE, RESULT, COUNT and source 200 + 2p. -/
def State.twEnd (s : State) (p result count : Nat) : State :=
  let a := TWP_CSTAT p
  let s := (s.modTw p fun x => { x with cmd := none }).set a TWP_CSTAT_BUSY 0
  (((s.set a TWP_CSTAT_DONE 1).set a TWP_CSTAT_RESULT result).set a TWP_CSTAT_COUNT count).raise (200 + 2 * p)

/-- A command starts, or waits for the bus (R390). -/
def State.twStart (s : State) (p : Nat) (c : TwpCmd) : State :=
  let s := s.set (TWP_CSTAT p) TWP_CSTAT_BUSY 1
  if c.recover || !(s.tw p).busy then s.modTw p fun x => { x with cmd := some { c with run := true }, busy := true }
  else s.modTw p fun x => { x with cmd := some c }

/-- A command whose ADDR the port's own target role would answer is not run and ends with SELF; any other starts or waits (R390). -/
def State.twOrSelf (s : State) (p : Nat) (c : TwpCmd) : State :=
  if !c.recover && s.answers p c.addr then s.twEnd p 9 0 else s.twStart p c

/-- GO = 1 (R390): a new command, a collision, or SELF. (DESIGN CHOICE, log 48) -/
def State.twGo (s : State) (p : Nat) : State :=
  if (s.tw p).cmd.isSome then s.setBit TWP_STATUS p true
  else if !s.twCtl p then s
  else
    s.twOrSelf p { addr := s.get (TWP_CCMD p) TWP_CCMD_ADDR, wlen := s.get (TWP_CCMD p) TWP_CCMD_WLEN
                   rlen := s.get (TWP_CCMD p) TWP_CCMD_RLEN, cbuf := s.get (TWP_CBUF p) TWP_CBUF_BASE }

/-- ABORT = 1 (R392): the running command is to end at the next bit boundary; one that waits for the bus ends at once. (DESIGN CHOICE, log 48) -/
def State.twAbort (s : State) (p : Nat) : State :=
  match (s.tw p).cmd with
  | some c => if c.run then s.modTw p fun x => { x with cmd := some { c with abort := true } } else s.twEnd p 8 0
  | none => s

/-- RECOVER = 1 (R394). (DESIGN CHOICE, log 48) -/
def State.twRecover (s : State) (p : Nat) : State :=
  if s.twCtl p && (s.tw p).cmd.isNone then s.twStart p { recover := true } else s

/-- A store to TWP_CCMD (R390, R392, R394). -/
def State.ccmdStore (s : State) (p : Nat) (v : Word) : State :=
  let s := s.storeReg (TWP_CCMD p) v
  let s := if fieldOf v TWP_CCMD_GO = 1 then s.twGo p else s
  let s := if fieldOf v TWP_CCMD_ABORT = 1 then s.twAbort p else s
  if fieldOf v TWP_CCMD_RECOVER = 1 then s.twRecover p else s

/-- A write of GO = 1 in TWP_CCMD (R390). The command's word stands for it with that bit set. -/
def execGo (p : TPort) (v : Word) (s : State) : Host.Outcome State Fault Refusal :=
  .next (if s.fabric then s.ccmdStore p (v ||| 0x80000000) else s)

/-- A write of ABORT = 1 (R392). -/
def execAbort (p : TPort) (s : State) : Host.Outcome State Fault Refusal := .next (if s.fabric then s.twAbort p else s)

/-- A write of RECOVER = 1 (R394). -/
def execRecover (p : TPort) (s : State) : Host.Outcome State Fault Refusal := .next (if s.fabric then s.twRecover p else s)

/-- The bytes of CBUF that a command sends, up to the first bus error. Beyond shared data SRAM a byte access is one (R29). (DESIGN CHOICE, log 48) -/
def State.cbufRead (s : State) (a : Nat) : Nat → State × List Byte × Bool
  | 0 => (s, [], false)
  | k + 1 =>
    let r := s.memLoad a 1
    if 0x100000 ≤ a then (s, [], true)
    else if r.2.2 then (r.1, [], true)
    else
      let t := r.1.cbufRead (a + 1) k
      (t.1, BitVec.ofNat 8 r.2.1 :: t.2.1, t.2.2)

/-- Received bytes go into CBUF, up to the first bus error; with how many have gone. (DESIGN CHOICE, log 48) -/
def State.cbufWrite (s : State) (a : Nat) : List Byte → State × Nat × Bool
  | [] => (s, 0, false)
  | b :: r =>
    let w := s.memStore a 1 b.toNat
    if 0x100000 ≤ a then (s, 0, true)
    else if w.2 then (w.1, 0, true)
    else
      let t := w.1.cbufWrite (a + 1) r
      (t.1, t.2.1 + 1, t.2.2)

/-- The code of RESULT (R391). -/
def resultOf : TwpEnd → Nat
  | .ok => 1
  | .addrNack => 2
  | .dataNack => 3
  | .arbLost => 4
  | .arbRestart => 5
  | .stopLost => 6
  | .aborted => 8
  | .busErr => 10
  | .stuck => 11
  | .cleared => 12

/-- Whether a command can end so: a recovery CLEARED or STUCK, any other not; ABORTED only after ABORT; with every byte
transferred only where all have been received; on a written byte, at a repeated START or in CBUF only where the command has them. (DEDUCED, log 50) -/
def TwpCmd.canEnd (c : TwpCmd) (r : TwpEnd) (received : List Byte) : Bool :=
  match r with
  | .stuck | .cleared => c.recover
  | .aborted => c.abort
  | .ok | .stopLost => !c.recover && c.rlen ≤ received.length
  | .dataNack => !c.recover && 0 < c.wlen
  | .arbRestart => !c.recover && 0 < c.wlen && 0 < c.rlen
  | .busErr => !c.recover && (0 < c.wlen || 0 < c.rlen)
  | _ => !c.recover

/-- Whether the read part may have run where a command ends so. -/
def endAfterRead : TwpEnd → Bool
  | .addrNack | .dataNack | .arbRestart => false
  | _ => true

/-- How many data bytes stand acknowledged where a command ends so (R391): all of them, or as many as the bus says. An address
that is not acknowledged stands before the write part or after it. (DEDUCED, log 50) -/
def TwpCmd.acked (c : TwpCmd) (r : TwpEnd) (sent : Nat) : Nat :=
  match r with
  | .ok | .stopLost | .arbRestart => c.wlen
  | .addrNack => if sent < c.wlen || c.rlen = 0 then 0 else c.wlen
  | _ => min c.wlen sent

/-- A command has run on the bus (R390, R391): the write part has read the bytes that it sent from CBUF, `n` of them acknowledged, and the
read part has stored what it received there; a bus error of CBUF ends it with BUSERR, anything else with `code`. (DEDUCED, log 50) -/
def State.ctlRan (s : State) (p : Nat) (c : TwpCmd) (code n sent : Nat) (received : List Byte) : State :=
  let rd := s.cbufRead c.cbuf sent
  let s := rd.1.modTw p fun x => { x with sent := x.sent ++ rd.2.1 }
  if rd.2.2 then s.twEnd p 10 (min n rd.2.1.length)
  else
    let w := s.cbufWrite (c.cbuf + c.wlen) received
    w.1.twEnd p (if w.2.2 then 10 else code) (n + w.2.1)

/-- How many bytes of CBUF a command has read where it ends so: those acknowledged, and one more where that one was not acknowledged or
its access ended the command. -/
def TwpCmd.readOf (c : TwpCmd) (r : TwpEnd) (sent : Nat) : Nat :=
  let n := c.acked r sent
  if r = .dataNack || r = .busErr then min c.wlen (n + 1) else n

/-- The bytes that go into CBUF where a command ends so: the read part runs only after the whole write part. -/
def TwpCmd.storedOf (c : TwpCmd) (r : TwpEnd) (sent : Nat) (received : List Byte) : List Byte :=
  if endAfterRead r && c.acked r sent = c.wlen then received.take c.rlen else []

/-- A CBUF access of a command fails (R390). (DEDUCED, log 50) -/
def State.cbufFails (s : State) (c : TwpCmd) (sent : Nat) (received : List Byte) : Bool :=
  let rd := s.cbufRead c.cbuf sent
  rd.2.2 || (rd.1.cbufWrite (c.cbuf + c.wlen) received).2.2

/-- A running command ends on the bus (R391). (DEDUCED, log 50) -/
def State.ctlEnd (s : State) (p : Nat) (c : TwpCmd) (r : TwpEnd) (sent : Nat) (received : List Byte) : State :=
  if c.recover then s.twEnd p (resultOf r) 0
  else s.ctlRan p c (resultOf r) (c.acked r sent) (c.readOf r sent) (c.storedOf r sent received)

/-- Whether a command can end so in this state: with BUSERR only where an access to CBUF fails (R391). (DEDUCED, log 50) -/
def State.ctlCanEnd (s : State) (c : TwpCmd) (r : TwpEnd) (sent : Nat) (received : List Byte) : Bool :=
  c.canEnd r received && (r != .busErr || s.cbufFails c (c.readOf r sent) (c.storedOf r sent received))

/-- A running command ends on the bus (R391). (DEDUCED, log 50) -/
def execControllerEnd (p : TPort) (r : TwpEnd) (sent : Nat) (received : List Byte) (s : State) :
    Host.Outcome State Fault Refusal :=
  match (s.tw p).cmd with
  | some c => .next (if s.twOn p ∧ c.run ∧ s.ctlCanEnd c r sent received then s.ctlEnd p c r sent received else s)
  | none => .next s

/-- TOUT expires (R393, R394): a waiting command ends with BUSBUSY, a recovery with STUCK, a running one with SCLTO and the bytes that
had been acknowledged and received till then (R391). (DESIGN CHOICE, log 49) -/
def State.ctlTimeout (s : State) (p : Nat) (c : TwpCmd) (sent : Nat) (received : List Byte) : State :=
  let n := min c.wlen sent
  if c.recover then s.twEnd p 11 0
  else if !c.run then s.twEnd p 13 0
  else s.ctlRan p c 7 n n (if n = c.wlen then received.take c.rlen else [])

/-- TOUT expires in a command (R393). (DEDUCED, log 50) -/
def execControllerTimeout (x : TwpStall) (s : State) : Host.Outcome State Fault Refusal :=
  match (s.tw x.port).cmd with
  | some c => .next (if s.twOn x.port ∧ s.twCfg x.port TWP_CFG_TOUT ≠ 0 then s.ctlTimeout x.port c x.sent x.received else s)
  | none => .next s

/-! ## Configuration (R384, R395) -/

/-- The window of a port fits into shared data SRAM (R384). -/
def State.winOk (s : State) (p : Nat) : Bool :=
  s.get (TWP_WBASE p) TWP_WBASE_BASE + (if s.fore p then 2048 else s.winSize p) ≤ 0x100000

/-- The port is switched on: the pointer is 0, the bus counts as free, and with AUTOREC a bus clear runs (R385, R390, R394). -/
def State.twEnable (s : State) (p : Nat) : State :=
  let s := (s.setPtr p 0).modTw p fun x => { x with busy := false }
  if s.twCfg p TWP_CFG_AUTOREC = 1 then s.twRecover p else s

/-- The port is switched off: it releases both lines, and a command ends without a result. (DESIGN CHOICE, log 48) -/
def State.twDisable (s : State) (p : Nat) : State :=
  (s.modTw p fun x => { x.idle with cmd := none }).set (TWP_CSTAT p) TWP_CSTAT_BUSY 0

/-- A configuration write takes effect (R384). (DESIGN CHOICE, log 48) -/
def State.twApply (s : State) (p a : Nat) (v : Word) : State :=
  let was := s.twCfg p TWP_CFG_EN = 1
  let t := s.storeReg a v
  if !t.winOk p then s.cfgErr a
  else
    let now := t.twCfg p TWP_CFG_EN = 1
    if !was && now then t.twEnable p else if was && !now then t.twDisable p else t

/-- The bus counts as free: held configuration applies in its order (R395). (DESIGN CHOICE, log 48) -/
def State.twFreed (s : State) (p : Nat) : State :=
  let held := (s.tw p).held
  let s := (s.modTw p fun x => { x.idle with busy := false, held := [] }).set (TWP_BUS p) TWP_BUS_PEND 0
  held.foldl (fun s e => s.twApply p e.1 e.2) s

/-- A configuration write (R395): at once on a free bus; else it is held, but for EN = 0. A port that is being switched on has seen no
activity, so its bus counts as free (R390) and the bus clear of R394 can run on a line that is held low. (DESIGN CHOICE, log 48) -/
def State.twCfgStore (s : State) (p a : Nat) (v : Word) : State :=
  if !(s.tw p).busy then s.twApply p a v
  else if a = TWP_CFG p ∧ fieldOf v TWP_CFG_EN = 1 ∧ s.twCfg p TWP_CFG_EN = 0 then (s.twFreed p).twApply p a v
  else
    let s := (s.modTw p fun x => { x with held := x.held ++ [(a, v)] }).set (TWP_BUS p) TWP_BUS_PEND 1
    if a = TWP_CFG p ∧ fieldOf v TWP_CFG_EN = 0 ∧ s.twCfg p TWP_CFG_EN = 1 then (s.set a TWP_CFG_EN 0).twDisable p else s

/-- The bus is free: held configuration applies, and a waiting command starts, or ends with SELF where the port's target role, as it now
stands, would answer it (R390, R395). -/
def execBusFree (p : TPort) (s : State) : Host.Outcome State Fault Refusal :=
  if s.fabric ∧ !((s.tw p).cmd.elim false (·.run)) then
    let s := s.twFreed p
    match (s.tw p).cmd with
    | some c => .next (if s.twCtl p then s.twOrSelf p c else s)
    | none => .next s
  else .next s

/-- TWP_BUS as it reads: a free bus has both lines high; of a bus in use no command shows the levels; of a port that is off it
reads 0. (DESIGN CHOICE, log 49) -/
def State.twBus (s : State) (p : Nat) : State × Word :=
  let w := s.rd (TWP_BUS p)
  if !s.twOn p then (s, w)
  else if !(s.tw p).busy then (s, w ||| 7)
  else (s.free.2, w ||| (s.free.1 &&& 3))

end Sys2Proof.Machine
end

