-- ==== Sys2Proof/Machine/BusRegs.lean ====
section
/-! DEFINITION. The register windows as a bus access meets them: which parts a variant has, what a load returns, and what a store
does (R8–R14, R16, R242, R252, R333, R352, R378, R450, R469). -/

namespace Sys2Proof.Machine

open Sys2Proof

/-! ## Parts that a variant lacks -/

/-- All bits of a word, or none. -/
def allIf (b : Bool) : Word := if b then 0xFFFFFFFF else 0

/-- A mask of the low `n` bits. -/
def lowBits (n : Nat) : Word := BitVec.ofNat 32 (2 ^ n - 1)

/-- The bits of a register that the variant has (R149, R242, R252, R333, R352, R378, R450): the others read 0 and ignore
writes. -/
def State.partMask (s : State) (a : Nat) : Word :=
  let lo := a % 0x10000
  match a / 0x10000 % 32 with
  | 1 =>
    if 0x400 ≤ lo ∧ lo < 0x800 then allIf (lo % 0x200 / 4 < s.nCh)
    else if 0x24 ≤ lo ∧ lo < 0x30 then BitVec.ofNat 32 (s.chMask ((lo - 0x24) / 4))
    else if 0x40 ≤ lo ∧ lo < 0x4C then BitVec.ofNat 32 (s.chMask ((lo - 0x40) / 4))
    else allIf true
  | 2 => allIf (lo < 0x400 || lo % 0x200 / 4 < s.nCh)
  | 4 =>
    if 0x300 ≤ lo ∧ lo < 0x480 then allIf ((lo - 0x300) / 4 < s.nCh)
    else if 0x30 ≤ lo ∧ lo < 0x3C then BitVec.ofNat 32 (s.chMask ((lo - 0x30) / 4))
    else if 0x40 ≤ lo ∧ lo < 0x4C then BitVec.ofNat 32 (s.chMask ((lo - 0x40) / 4))
    else allIf true
  | 5 => allIf (!(0x100 ≤ lo && lo < 0x124) || s.hasCore ((lo - 0x100) / 4))
  | 9 => allIf (!(0x100 ≤ lo && lo < 0x400) || lo % 0x100 / 4 < s.nAct)
  | 10 => allIf (!(0x120 ≤ lo && lo < 0x140) || s.nEth = 2)
  | 11 =>
    if 0x140 ≤ lo ∧ lo < 0x180 then allIf (s.nCaer = 2)
    else if lo = 0x20 ∨ lo = 0x24 then allIf s.mirrors
    else allIf true
  | 14 =>
    if lo = 0x0C ∨ lo = 0x34 ∨ lo = 0x38 then allIf s.mirrors
    else if 0x40 ≤ lo ∧ lo < 0x80 then allIf (lo % 0x20 / 4 < s.nCore)
    else allIf true
  | 17 =>
    if 0x100 ≤ lo then allIf ((lo - 0x100) / 32 < s.nCore)
    else if lo = 0x08 then lowBits s.nCore
    else if lo = 0x18 ∨ 0x40 ≤ lo ∧ lo < 0x80 then lowBits s.nCore ||| 0x100
    else allIf true
  | _ => allIf true

/-! ## Loads -/

/-- Truth values as the bits of a word, the first at bit 0. -/
def bitsWord (l : List Bool) : Word := BitVec.ofNat 32 (ofBits l)
where
  /-- The number that they spell. -/
  ofBits : List Bool → Nat
    | [] => 0
    | b :: r => b.toNat + 2 * ofBits r

/-- SYS_CAPS (R469). -/
def State.caps (s : State) : Word :=
  match s.variant with | .gls9696 => 0xA83008E0 | .gls9648 => 0x921804B0 | .gls9624 => 0x40100218

/-- SYS_UNITS (R16). -/
def State.units (s : State) : Word := match s.variant with | .gls9624 => 0x1F7F7 | _ => 0x1FFFF

/-- The window of SYS. -/
def State.sysLoad (s : State) (a : Nat) : Word :=
  if a = SYS_CAPS then s.caps
  else if a = SYS_UNITS then s.units
  else if a = SYS_GPIO_IN then (s.rd a &&& 0x80000000) ||| bitsWord s.gpioLevels
  else s.rd a

/-- The window of the HIC. -/
def State.hicLoad (s : State) (a : Nat) : Word :=
  let per32 := fun (j : Nat) (f : Nat → Bool) => bitsWord ((List.range 32).map fun i => f (32 * j + i))
  if HIC_PEND 0 ≤ a ∧ a < HIC_PEND 8 then per32 ((a - HIC_PEND 0) / 4) fun src => s.pend src != 0
  else if HIC_INSVC 0 ≤ a ∧ a < HIC_INSVC 8 then per32 ((a - HIC_INSVC 0) / 4) fun src => src < 255 && s.inService src
  else if HIC_LEVEL 0 ≤ a ∧ a < HIC_LEVEL 8 then
    per32 ((a - HIC_LEVEL 0) / 4) fun src => src < 255 && s.isLevel src && tget s.hic.lvl false src
  else if HIC_CORE 0 ≤ a ∧ a < HIC_CORE 9 then
    let x := s.hc ((a - HIC_CORE 0) / 4)
    BitVec.ofNat 32 (x.inh.toNat * 2 ^ 31 + x.offer.toNat * 2 ^ 30 + x.events % 256 * 2 ^ 16 + x.claim)
  else s.rd a

/-- A queue's registers (R268, R276, R283–R285). -/
def State.qLoad (s : State) (q off : Nat) (w : Word) : Word :=
  let x := s.qst q
  let n := s.qsize q
  match off with
  | 0x04 => BitVec.ofNat 32 (x.wr % n * 2 ^ 16 + x.rd % n)
  | 0x08 => BitVec.ofNat 32 ((if s.flag (QM_Q_CFG q) QM_Q_CFG_MEN then x.mark else x.rd) % n)
  | 0x0C => BitVec.ofNat 32 (s.avail q)
  | 0x10 => BitVec.ofNat 32 (s.occ q)
  | 0x1C | 0x20 => if q < 32 then w else 0
  | 0x24 => w ||| BitVec.ofNat 32 (x.busy.isSome.toNat * 2 ^ 4 + x.restore.toNat * 2 ^ 5 + x.live.toNat * 2 ^ 6 +
      x.above.toNat * 2 ^ 7)
  | _ => w

/-- The window of QM. -/
def State.qmLoad (s : State) (a : Nat) : Word :=
  if QM_Q_CFG 0 ≤ a ∧ a < QM_Q_CFG 64 then s.qLoad ((a - QM_Q_CFG 0) / 64) ((a - QM_Q_CFG 0) % 64) (s.rd a)
  else if a = QM_STATUS then s.rd a ||| (if (List.range 64).any fun q => (s.qst q).restore then 8 else 0)
  else s.rd a

/-- The window of TIME. -/
def State.timeLoad (s : State) (r : Req) (a : Nat) : State × Word :=
  let held := tget s.tim.latch 0 (latchIx r)
  if a = TIME_NOW0 then (s.capture r, BitVec.ofNat 32 (nsOf s.time))
  else if a = TIME_NOW1 then (s, BitVec.ofNat 32 ((nowWords held).getD 1 0))
  else if a = TIME_NOW2 then (s, BitVec.ofNat 32 ((nowWords held).getD 2 0))
  else if a = TIME_FREE then (s, BitVec.ofNat 32 s.freeEntries)
  else if 0x40084000 ≤ a ∧ a < 0x40085000 then (s, (s.lent ((a - 0x40084000) / 4)).seq)
  else if 0x40088000 ≤ a ∧ a < 0x4008C000 then (s, s.launchWord ((a - 0x40088000) / 16) ((a - 0x40088000) % 16 / 4))
  else (s, s.rd a)

/-- The window of ACT. -/
def State.actLoad (s : State) (a : Nat) : Word :=
  if ACT_OUT_STAT 0 ≤ a ∧ a < ACT_OUT_STAT 48 then
    let n := (a - ACT_OUT_STAT 0) / 4
    BitVec.ofNat 32 ((s.out n).owned.toNat * 2 ^ 31 + (s.latchOf n).toNat * 2 ^ 30 + s.posted n)
  else s.rd a

/-- The window of CAER: the levels of the balls, and the directions. -/
def State.caerLoad (s : State) (a : Nat) : Word :=
  if a = CAER_PAIR_STAT then
    if !s.mirrors then 0 else
    s.rd a ||| BitVec.ofNat 32 (s.caer.takeLow.toNat * 2 ^ 10 + (!s.takeoverLow).toNat * 2 ^ 9 +
      (!s.caer.pairOkLow && !s.caer.partnerPairOkLow).toNat * 2 ^ 8)
  else s.rd a

/-- The window of JRN. -/
def State.jrnLoad (s : State) (a : Nat) : Word :=
  if a = JRN_FILL then BitVec.ofNat 32 (s.unflushed * 2 ^ 16 + s.ringLines % 2 ^ 14)
  else if a = JRN_HEAD then BitVec.ofNat 32 (s.jrn.bad.length % 2 ^ 14 * 2 ^ 16 + s.nextLine)
  else if a = JRN_SUP then s.supWord
  else s.rd a

/-- The window of the cluster. -/
def State.coreLoad (s : State) (a : Nat) : Word :=
  if a = CORE_STATUS then
    (s.rd a &&& 0x81000000) ||| (bitsWord ((List.range 8).map s.running)) |||
      (bitsWord ((List.range 8).map fun c => (s.core c).mode = .sleep || (s.core c).mode = .waitev)) <<< 8 |||
      (bitsWord ((List.range 8).map s.faulted)) <<< 16
  else if a = CORE_DBELL_CLR then s.rd CORE_DBELL_SET
  else s.rd a

/-- The window of the OAS. OAS_WAKETMR counts down outside RUN, which no command shows. -/
def State.oasLoad (s : State) (a : Nat) : State × Word :=
  if a = OAS_WAKETMR ∧ s.pstate ≠ 0 ∧ s.flag SYS_STATUS SYS_STATUS_XT32OK then
    let s := s.timerLeft
    (s, s.rd a)
  else (s, s.rd a)

/-- A load of a register before its access codes (R9). -/
def State.unitLoad (s : State) (r : Req) (a : Nat) : State × Word :=
  match a / 0x10000 % 32 with
  | 0 => (s, s.sysLoad a)
  | 1 => (s, if a = AFE_STATUS then s.rd a ||| BitVec.ofNat 32 s.afe.ref.toNat else s.rd a)
  | 2 =>
    let s := s.fltNow
    (s, if FLT_CH_STAT 0 ≤ a ∧ a < FLT_CH_STAT 96 then BitVec.ofNat 32 (s.chStat ((a - FLT_CH_STAT 0) / 4)) else s.rd a)
  | 3 => (s, if EVT_ACTIVE 0 ≤ a ∧ a < EVT_ACTIVE 3 then BitVec.ofNat 32 (s.evtActive ((a - EVT_ACTIVE 0) / 4)) else s.rd a)
  | 5 => (s, s.hicLoad a)
  | 6 => (s, s.qmLoad a)
  | 7 => (s, if a = DME_STATUS then s.rd a ||| BitVec.ofNat 32 s.dmeBusy else s.rd a)
  | 8 => s.timeLoad r a
  | 9 => (s, s.actLoad a)
  | 11 => (s, s.caerLoad a)
  | 12 =>
    match (List.range 4).find? fun p => a = TWP_BUS p with
    | some p => s.twBus p
    | none => (s, s.rd a)
  | 14 => (s, s.jrnLoad a)
  | 15 => s.lcsLoad a
  | 16 => s.oasLoad a
  | 17 => (s, s.coreLoad a)
  | _ => (s, s.rd a)

/-- The bits of a register with an access code. -/
def maskOf (a : Nat) (acc : Acc) : Nat :=
  match specOf a with
  | none => 0
  | some (r, _) => r.fields.foldl (fun n f => if f.acc = acc then n + (2 ^ f.fld.w - 1) * 2 ^ f.fld.lo else n) 0

/-- A load of a register (R9, R10): write-only fields read 0, and fields with code RC clear. -/
def State.regLoad (s : State) (r : Req) (a : Nat) : State × Word :=
  let m := s.partMask a
  let x := s.unitLoad r a
  let rc := maskOf a .rc
  let s := if rc = 0 then x.1 else x.1.wr a (x.1.rd a &&& BitVec.ofNat 32 (2 ^ 32 - 1 - rc))
  (s, x.2 &&& m &&& BitVec.ofNat 32 (2 ^ 32 - 1 - maskOf a .wo))

/-! ## Stores -/

/-- The window of SYS. -/
def State.sysStore (s : State) (a : Nat) (v : Word) : State :=
  if a = SYS_RSTCTL then s.rstctlStore v
  else if a = SYS_ECC_CTL then (if fieldOf v SYS_ECC_CTL_CLEAR = 1 then s.eccClear else s)
  else if a = SYS_GPIO_DIR then s.gpioDir v
  else if a = SYS_GPIO_OUT then s.gpioOut (fieldOf v SYS_GPIO_OUT_OUT)
  else if a = SYS_GPIO_SET then s.gpioSet v
  else if a = SYS_GPIO_CLR then s.gpioClr v
  else if a = SYS_STATUS then s.sysStatusStore v
  else s.storeReg a v

/-- The window of the HIC. -/
def State.hicStore (s : State) (a : Nat) (v : Word) : State :=
  if a = HIC_RAISE then s.softRaise (fieldOf v HIC_RAISE_SRC)
  else if HIC_PEND 0 ≤ a ∧ a < HIC_PEND 8 then s.pendClear ((a - HIC_PEND 0) / 4) v
  else if HIC_SRC_CFG 0 ≤ a ∧ a < HIC_SRC_CFG 255 then s.srcCfgWrite ((a - HIC_SRC_CFG 0) / 4) v
  else s.storeReg a v

/-- The window of QM. -/
def State.qmStore (s : State) (a : Nat) (v : Word) : State :=
  if QM_Q_CFG 0 ≤ a ∧ a < QM_Q_CFG 64 then
    let q := (a - QM_Q_CFG 0) / 64
    match (a - QM_Q_CFG 0) % 64 with
    | 0x00 => s.qcfgWrite q v
    | 0x14 => s.qctlWrite q v
    | 0x1C | 0x20 => if q < 32 then (s.storeReg a v).evalAbove q else s
    | _ => s.storeReg a v
  else s.storeReg a v

/-- TIME_CTL: HOLD and SET (R307, R320). -/
def State.timeCtlStore (s : State) (v : Word) : State :=
  let s := s.setHOLD (fieldOf v TIME_CTL_HOLD = 1)
  if fieldOf v TIME_CTL_SET = 1 then s.counterSet else s

/-- TIME_SRV_FREQ (R309): i and the trim are loaded, limited to ±200 ppm. -/
def State.freqStore (s : State) (v : Word) : State :=
  let x := clampInt (-ppbLimit) ppbLimit (4096 * v.toInt)
  ({ s with tim := { s.tim with i := x } }).setTrim x

/-- The window of TIME. -/
def State.timeStore (s : State) (r : Req) (a : Nat) (v : Word) : State :=
  if 0x40088000 ≤ a ∧ a < 0x4008C000 then s.launchStore r ((a - 0x40088000) / 16) ((a - 0x40088000) % 16 / 4) v
  else if a = TIME_CTL then s.timeCtlStore v
  else if a = TIME_STATUS then s.timeStatusStore v
  else if a = TIME_STEPNS then s.stepBy (32 * v.toInt)
  else if a = TIME_SRV_CFG then s.srvCfgStore v
  else if a = TIME_SRV_OFFS then (if s.get TIME_SRV_CFG TIME_SRV_CFG_SRC = 1 then s.sample v.toInt else s)
  else if a = TIME_SRV_FREQ then s.freqStore v
  else if a = TIME_BCPOOL then s.bcpoolStore v
  else s.storeReg a v

/-- The window of ACT. -/
def State.actStore (s : State) (a : Nat) (v : Word) : State :=
  if ACT_SAFECMD 0 ≤ a ∧ a < ACT_SAFECMD 2 then s.safe (v.toNat * 2 ^ (8 * (a - ACT_SAFECMD 0)))
  else if ACT_GEN 0 ≤ a ∧ a < ACT_GEN 4 then s.genStore ((a - ACT_GEN 0) / 4) v
  else if ACT_MAINS_CFG 0 ≤ a ∧ a < ACT_MAINS_CFG 3 then s.mainsCfgStore ((a - ACT_MAINS_CFG 0) / 4) v
  else if ACT_OUT_CFG 0 ≤ a ∧ a < ACT_OUT_CFG 48 then s.outCfgStore ((a - ACT_OUT_CFG 0) / 4) v
  else if ACT_OUT_DUTY 0 ≤ a ∧ a < ACT_OUT_DUTY 48 then s.dutyStore ((a - ACT_OUT_DUTY 0) / 4) v
  else s.storeReg a v

/-- The window of ETH. -/
def State.ethStore (s : State) (a : Nat) (v : Word) : State :=
  if a = ETH_CTL then s.ethCtlStore v
  else if a = ETH_TX_TAIL then s.tailStore v
  else if a = ETH_MDIO then s.mdioStore v
  else if a = ETH_RX_BASE ∨ a = ETH_RX_CFG ∨ a = ETH_TX_BASE ∨ a = ETH_TX_CFG then s.ringStore a v.toNat
  else s.storeReg a v

/-- The window of CAER. -/
def State.caerStore (s : State) (a : Nat) (v : Word) : State :=
  if a = CAER_ID then s.caerIdStore v
  else if a = CAER_MSGTX_HUB then s.msgtxStore v
  else if a = CAER_CMD then s.caerCmdStore v
  else if a = CAER_PAIR_CFG then s.pairStore v
  else if a = CAER_PEXP_CFG then s.pexpCfgStore v
  else if a = CAER_LINK_CFG 0 then s.linkCfgStore 0 v
  else if a = CAER_LINK_CFG 1 then s.linkCfgStore 1 v
  else if CAER_PEXP 0 ≤ a ∧ a < CAER_PEXP 16 then s.pexpStore ((a - CAER_PEXP 0) / 4) v
  else s.storeReg a v

/-- The window of TWP. -/
def State.twpStore (s : State) (a : Nat) (v : Word) : State :=
  if TWP_CFG 0 ≤ a ∧ a < TWP_CFG 4 then
    let p := (a - TWP_CFG 0) / 64
    match (a - TWP_CFG 0) % 64 with
    | 0x00 | 0x04 | 0x08 | 0x0C | 0x10 | 0x14 => s.twCfgStore p a v
    | 0x1C => s.tptrStore p v
    | 0x20 => s.ccmdStore p v
    | _ => s.storeReg a v
  else s.storeReg a v

/-- The window of JRN. -/
def State.jrnStore (s : State) (a : Nat) (v : Word) : State :=
  if a = JRN_RDCTL then s.rdctlStore v
  else if a = JRN_PCFG then s.pcfgStore v
  else s.storeReg a v

/-- The registers of a core, from its CORE_CTL on (R232, R235, R238, R242); C8 has them in the OAS window. -/
def State.coreRegStore (s : State) (c a : Nat) (v : Word) : State :=
  if a = CORE_CTL c then s.coreCtlStore c v
  else if a = CORE_WDOG c then s.wdogStore c v
  else if a = CORE_WDKICK c then s.wdKick c v
  else s.storeReg a v

/-- The window of the OAS. -/
def State.oasStore (s : State) (a : Nat) (v : Word) : State :=
  if CORE_CTL 8 ≤ a ∧ a ≤ CORE_INFO 8 then s.coreRegStore 8 a v
  else if a = OAS_PWRREQ then s.pwrreqStore v
  else if OAS_WAKE 0 ≤ a ∧ a < OAS_WAKE 32 then (s.storeReg a v).wakeCheck
  else s.storeReg a v

/-- The window of the cluster. -/
def State.coreStore (s : State) (a : Nat) (v : Word) : State :=
  if a = CORE_DBELL_SET then s.ring (v.toNat % 2 ^ 16)
  else if a = CORE_DBELL_CLR then s.dbellClear v
  else if a = CORE_EVSET then s.setLatches (v.toNat % 2 ^ 9)
  else if CORE_CTL 0 ≤ a ∧ a < CORE_CTL 0 + 256 then s.coreRegStore ((a - CORE_CTL 0) / 32) a v
  else s.storeReg a v

/-- A store to a register of a unit. -/
def State.unitStore (s : State) (r : Req) (a : Nat) (v : Word) : State :=
  match a / 0x10000 % 32 with
  | 0 => s.sysStore a v
  | 1 => s.afeStore a v
  | 2 => s.fltStore a v
  | 3 => s.evtWindowStore a v
  | 4 => s.teuStore a v
  | 5 => s.hicStore a v
  | 6 => s.qmStore a v
  | 7 => s.dmeStore a v
  | 8 => s.timeStore r a v
  | 9 => s.actStore a v
  | 10 => s.ethStore a v
  | 11 => s.caerStore a v
  | 12 => s.twpStore a v
  | 13 => s.bootStore a v
  | 14 => s.jrnStore a v
  | 15 => s.lcsStore a v
  | 16 => s.oasStore a v
  | 17 => s.coreStore a v
  | _ => s

/-- A store to a register: bits that the variant lacks are ignored. (DESIGN CHOICE, log 16) -/
def State.regStore (s : State) (r : Req) (a : Nat) (v : Word) : State :=
  let m := s.partMask a
  if m = 0 then s else s.unitStore r a (v &&& m)

end Sys2Proof.Machine
end

