-- ==== Sys2Proof/Machine/Bus.lean ====
section
/-! DEFINITION. A bus access by a requester: the errors that it can end with, and what it does (R3, R8, R28–R33, R165–R167, R227,
R228, R240, R267, R272–R274). -/

namespace Sys2Proof.Machine

open Sys2Proof

/-! ## Errors -/

/-- What C8 reaches while the fabric is off or in reset: the AO island (R227, R240). -/
def aoReach (a : Nat) : Bool :=
  regionOf a = .oasisData || regionOf a = .oasisProgram || a / 0x10000 = 0x4010 || a = SYS_RESETCAUSE || a = BOOT_UPDATE ||
    a = LCS_SVC

/-- An address that C8 does not reach while the fabric is off or in reset, mapped or not (R240). -/
def State.beyond (s : State) (a : Nat) : Bool := !s.fabric && !aoReach a

/-- A mapped address that lies in an absent unit or an absent part of a memory (R3, R30). -/
def State.absent (s : State) (a : Nat) : Bool :=
  match regionOf a with
  | .unit => a / 0x10000 = 0x4004 && s.nTeu = 0 || a / 0x10000 = 0x400A && s.nEth = 0
  | .teuTable => s.nTeu ≤ a % 0x10000 / 8
  | .teuState => s.nTeu = 0
  | .program => s.nCore ≤ (a - 0x10000000) / 0x10000
  | .scratch => s.nCore ≤ (a - 0x410000) / 0x2000
  | _ => false

/-- An address that is not mapped for the requester (R29, R227, R292). -/
def unmapped (r : Req) (a : Nat) : Bool :=
  match regionOf a with
  | .none => true
  | .ownScratch => match r with | .core c => c.val = 8 | _ => true
  | _ => false

/-- The offsets of a queue window that a 32-bit access may use (R272, R274). -/
def windowOk (off : Nat) (store : Bool) : Bool :=
  0x80 ≤ off || (if store then off = 0 || off = 4 else off = 0x40 || off = 0x44 || off = 0x48)

/-- An access of `k` bytes whose width or alignment the region does not allow (R8, R28, R29, R274, R292). -/
def badWidth (r : Req) (a k : Nat) (store : Bool) : Bool :=
  match regionOf a with
  | .sram | .oasisData | .ownScratch => a % k != 0
  | .window => k != 4 || a % 4 != 0 || r = .dme || !windowOk (a % 256) store
  | _ => k != 4 || a % 4 != 0

/-- The bus error of an access, before any memory is read (R3, R8, R29, R240): an access beyond C8's reach ends with ABSENT, and else an
address is unmapped or absent, never both. -/
def State.busErr (s : State) (r : Req) (a k : Nat) (store : Bool) : Option BusErr :=
  if s.beyond a then some .absent
  else if unmapped r a then some .decode
  else if s.absent a then some .absent
  else if badWidth r a k store then some .width
  else none

/-- An access that ends with ABSENT raises source 6 (R3). -/
def State.errRaise (s : State) (e : BusErr) : State := if e = .absent ∧ s.fabric then s.raise 6 else s

/-! ## Loads -/

/-- The physical address of an access: own scratch stands for the requester's (R28). -/
def physAddr (r : Req) (a : Nat) : Nat :=
  match r, regionOf a with
  | .core c, .ownScratch => a - 0x400000 + 0x410000 + 0x2000 * c
  | _, _ => a

/-- The bank, section and row of a row word's address, where one exists (R166). -/
def rowOf (a : Nat) : Option (Nat × Nat × Nat) :=
  if 0x242000 ≤ a ∧ a < 0x246000 then
    let o := a - 0x242000
    let row := o % 0x800 / 4
    if row < rowCount (o % 0x2000 / 0x800) then some (o / 0x2000, o % 0x2000 / 0x800, row) else none
  else none

/-- A load from the state and row memory (R166, R167). -/
def State.teuStateLoad (s : State) (a : Nat) : State × Nat × Bool :=
  if a < 0x240800 then
    let r := s.xLoad ((a - 0x240000) / 4)
    (r.1, r.2.1.toNat, r.2.2)
  else if (rowOf a).isSome then s.memLoad a 4
  else (s, 0, false)

/-- A load from a queue window (R272). -/
def State.windowLoad (s : State) (r : Req) (a : Nat) : State × Nat :=
  let q := (a - 0x50000000) / 256
  let s := match a % 256 with
    | 0x40 => s.popl r q
    | 0x44 => s.heldRead r q
    | 0x48 => s.peekl r q
    | _ => s.answer 0
  (s, s.rdata.toNat)

/-- A register of TIME or of ACT. -/
def inTime (a : Nat) : Bool := a / 0x10000 = 0x4008 || a / 0x10000 = 0x4009

/-- The answer to a load of a register of TIME, of ACT or of the AO island comes from there, behind the island's events (R23, R24). (DESIGN CHOICE, log 11) -/
def State.readBehind (s : State) (a : Nat) : State :=
  if !s.fabric then s
  else if inTime a then s.throughTime
  else if a / 0x10000 = 0x4010 ∨ a = SYS_RESETCAUSE then s.eventsIn .ao
  else s

/-- A load of `k` bytes: the value, or 0 with the bus error. -/
def State.busLoad (s : State) (r : Req) (a k : Nat) : State × Nat × Option BusErr :=
  match s.busErr r a k false with
  | some e => (s.errRaise e, 0, some e)
  | none =>
    let ecc := fun (x : State × Nat × Bool) => (x.1, x.2.1, if x.2.2 then some BusErr.ecc else none)
    match regionOf a with
    | .unit =>
      let x := (s.readBehind a).regLoad r a
      (x.1, x.2.toNat, none)
    | .window =>
      let x := s.windowLoad r a
      (x.1, x.2, none)
    | .teuState => ecc (s.teuStateLoad a)
    | .program | .oasisProgram =>
      let x := s.memLoad a 4
      ecc (x.1, x.2.1 % 2 ^ 14, x.2.2)
    | _ => ecc (s.memLoad (physAddr r a) k)

/-! ## Stores -/

/-- The core and the word of a program load window's address (R28). -/
def progOf (a : Nat) : Nat × Nat :=
  if 0x10080000 ≤ a then (8, (a - 0x10080000) / 4) else ((a - 0x10000000) / 0x10000, a % 0x10000 / 4)

/-- A store to the TEU's table (R165) or to its state and row memory (R166–R168). -/
def State.teuMemStore (s : State) (a : Nat) (v : Word) : State :=
  if a < 0x220000 then
    let b := (a - 0x200000) / 0x10000
    let i := a % 0x10000 / 8
    if a % 8 = 0 then s.entryLow b i v else s.entryHigh b i v
  else if a < 0x240800 then s.xStore ((a - 0x240000) / 4) v
  else match rowOf a with
    | some (b, sect, row) => s.rowStore b sect row v
    | none => s

/-- A store to a queue window with a set of held words (R272, R273). -/
def State.windowStore (s : State) (h a : Nat) (v : Word) : State :=
  let q := (a - 0x50000000) / 256
  match a % 256 with
  | 0 => s.pushl h q v
  | 4 => s.pushh h q v
  | _ => s

/-- A store that no bus error stops takes effect, with a set of held words for a queue window. The flag says that a partial write met an
uncorrectable error (R33). -/
def State.storeAt (s : State) (r : Req) (h a k v : Nat) : State × Bool :=
  let w := BitVec.ofNat 32 v
  match regionOf a with
  | .unit => ((if inTime a then s.answersIn else s).regStore r a w, false)
  | .window => (s.windowStore h a w, false)
  | .teuTable | .teuState => (s.teuMemStore a w, false)
  | .program | .oasisProgram => (s.progStore (progOf a).1 (progOf a).2 w, false)
  | _ => s.memStore (physAddr r a) k v

/-- A store of `k` bytes with a set of held words: it ends with a bus error, or the rights refuse it (R462), or it takes effect. -/
def State.busStoreHeld (s : State) (r : Req) (h a k v : Nat) : State × Option BusErr :=
  match s.busErr r a k true with
  | some e => (s.errRaise e, some e)
  | none =>
    if s.mayStore r a then
      let x := s.storeAt r h a k v
      (x.1, if x.2 then some .ecc else none)
    else (s.denied, none)

/-- A store of `k` bytes that a requester makes now. -/
def State.busStore (s : State) (r : Req) (a k v : Nat) : State × Option BusErr := s.busStoreHeld r (s.heldIx r) a k v

/-- A requester can make accesses: a core that the variant has, of C0–C7 one that no power state has put to sleep (R256, R257), and
anything but C8 only while the fabric runs. -/
def State.onBus (s : State) (r : Req) : Bool :=
  match r with
  | .core c => if c.val = 8 then s.pow.phase != .cold else s.hasCore c && s.fabric && s.pstate = 0
  | _ => s.fabric

/-- A store of a word arrives at its address (R9). -/
def execRegisterWrite (r : Req) (a v : Word) (s : State) : Host.Outcome State Fault Refusal :=
  .next (if s.onBus r then
    let x := s.busStore r a.toNat 4 v.toNat
    { x.1 with rerr := x.2 }
  else s)

end Sys2Proof.Machine
end

