-- ==== Sys2Proof/Machine/Crypto.lean ====
section
/-! DEFINITION. The two algorithms that the spec takes over from its references: SHA-256 (FIPS 180-4, R403) and the check of an
ECDSA P-256 signature (FIPS 186-5, R404, R456). Their constants are those of the standards. -/

namespace Sys2Proof.Machine

open Sys2Proof

/-! ## SHA-256 -/

/-- The round constants. -/
def shaK : List Word :=
  [0x428A2F98, 0x71374491, 0xB5C0FBCF, 0xE9B5DBA5, 0x3956C25B, 0x59F111F1, 0x923F82A4, 0xAB1C5ED5] ++
  [0xD807AA98, 0x12835B01, 0x243185BE, 0x550C7DC3, 0x72BE5D74, 0x80DEB1FE, 0x9BDC06A7, 0xC19BF174] ++
  [0xE49B69C1, 0xEFBE4786, 0x0FC19DC6, 0x240CA1CC, 0x2DE92C6F, 0x4A7484AA, 0x5CB0A9DC, 0x76F988DA] ++
  [0x983E5152, 0xA831C66D, 0xB00327C8, 0xBF597FC7, 0xC6E00BF3, 0xD5A79147, 0x06CA6351, 0x14292967] ++
  [0x27B70A85, 0x2E1B2138, 0x4D2C6DFC, 0x53380D13, 0x650A7354, 0x766A0ABB, 0x81C2C92E, 0x92722C85] ++
  [0xA2BFE8A1, 0xA81A664B, 0xC24B8B70, 0xC76C51A3, 0xD192E819, 0xD6990624, 0xF40E3585, 0x106AA070] ++
  [0x19A4C116, 0x1E376C08, 0x2748774C, 0x34B0BCB5, 0x391C0CB3, 0x4ED8AA4A, 0x5B9CCA4F, 0x682E6FF3] ++
  [0x748F82EE, 0x78A5636F, 0x84C87814, 0x8CC70208, 0x90BEFFFA, 0xA4506CEB, 0xBEF9A3F7, 0xC67178F2]

/-- The initial hash value. -/
def shaH : List Word :=
  [0x6A09E667, 0xBB67AE85, 0x3C6EF372, 0xA54FF53A, 0x510E527F, 0x9B05688C, 0x1F83D9AB, 0x5BE0CD19]

/-- The number that a list of bytes spells, most significant first. -/
def ofBytesBE (l : List Byte) : Nat := l.foldl (fun n b => 256 * n + b.toNat) 0

/-- A list cut into pieces of `k`; `fuel` bounds the number of pieces. -/
def pieces {α : Type} (k : Nat) (l : List α) : (fuel : Nat) → List (List α)
  | 0 => []
  | fuel + 1 => if l.isEmpty then [] else l.take k :: pieces k (l.drop k) fuel

/-- The message with its padding. -/
def shaPad (m : List Byte) : List Byte :=
  m ++ 0x80 :: List.replicate ((119 - m.length % 64) % 64) 0 ++ bytesBE 8 (8 * m.length)

/-- The message schedule, newest word first, from the sixteen words of a block. -/
def shaSchedule (w : List Word) : (fuel : Nat) → List Word
  | 0 => w
  | fuel + 1 =>
    let x := w.getD 1 0
    let y := w.getD 14 0
    let s1 := x.rotateRight 17 ^^^ x.rotateRight 19 ^^^ x >>> 10
    let s0 := y.rotateRight 7 ^^^ y.rotateRight 18 ^^^ y >>> 3
    shaSchedule ((s1 + w.getD 6 0 + s0 + w.getD 15 0) :: w) fuel

/-- One round on the eight working variables. -/
def shaRound (v : List Word) (kw : Word) : List Word :=
  match v with
  | [a, b, c, d, e, f, g, h] =>
    let t1 := h + (e.rotateRight 6 ^^^ e.rotateRight 11 ^^^ e.rotateRight 25) + ((e &&& f) ^^^ (~~~e &&& g)) + kw
    let t2 := (a.rotateRight 2 ^^^ a.rotateRight 13 ^^^ a.rotateRight 22) + ((a &&& b) ^^^ (a &&& c) ^^^ (b &&& c))
    [t1 + t2, a, b, c, d + t1, e, f, g]
  | _ => v

/-- The hash value after one block. -/
def shaBlock (h : List Word) (block : List Byte) : List Word :=
  let w := ((pieces 4 block 16).map fun p => BitVec.ofNat 32 (ofBytesBE p)).reverse
  let ws := (shaSchedule w 48).reverse
  let v := (List.zipWith (· + ·) shaK ws).foldl shaRound h
  List.zipWith (· + ·) h v

/-- SHA-256 of a message, in its output byte order. -/
def sha256 (m : List Byte) : List Byte :=
  let p := shaPad m
  ((pieces 64 p (p.length / 64)).foldl shaBlock shaH).flatMap fun w => bytesBE 4 w.toNat

/-! ## ECDSA over P-256 -/

/-- The prime of the field. -/
def ecP : Nat := 0xFFFFFFFF00000001000000000000000000000000FFFFFFFFFFFFFFFFFFFFFFFF
/-- The coefficient b; a is −3. -/
def ecB : Nat := 0x5AC635D8AA3A93E7B3EBBD55769886BC651D06B0CC53B0F63BCE3C3E27D2604B
/-- The order of the base point. -/
def ecN : Nat := 0xFFFFFFFF00000000FFFFFFFFFFFFFFFFBCE6FAADA7179E84F3B9CAC2FC632551
/-- `b ^ e` modulo `m`, bit by bit of the exponent, lowest first. -/
def powMod (m : Nat) : (fuel : Nat) → (b e acc : Nat) → Nat
  | 0, _, _, acc => acc
  | fuel + 1, b, e, acc => powMod m fuel (b * b % m) (e / 2) (if e % 2 = 1 then acc * b % m else acc)

/-- The inverse modulo a prime. -/
def invMod (m a : Nat) : Nat := powMod m 256 (a % m) (m - 2) 1

/-- A difference in the field. -/
def ecSub (a b : Nat) : Nat := (a + ecP - b) % ecP

/-- A point in Jacobian coordinates: (X/Z², Y/Z³), and with Z = 0 the point at infinity. -/
structure EcPoint where
  x : Nat
  y : Nat
  z : Nat
  deriving DecidableEq, Repr

/-- The base point. -/
def ecG : EcPoint :=
  ⟨0x6B17D1F2E12C4247F8BCE6E563A440F277037D812DEB33A0F4A13945D898C296,
    0x4FE342E2FE1A7F9B8EE7EB4A7C0F9E162BCE33576B315ECECBB6406837BF51F5, 1⟩

/-- Twice a point. -/
def ecDouble (p : EcPoint) : EcPoint :=
  let yy := p.y * p.y % ecP
  let zz := p.z * p.z % ecP
  let c := 4 * p.x * yy % ecP
  let m := 3 * ecSub p.x zz * (p.x + zz) % ecP
  let x := ecSub (m * m % ecP) (2 * c % ecP)
  ⟨x, ecSub (m * ecSub c x % ecP) (8 * yy * yy % ecP), 2 * p.y * p.z % ecP⟩

/-- The sum of two points. -/
def ecAdd (p q : EcPoint) : EcPoint :=
  if p.z = 0 then q
  else if q.z = 0 then p
  else
    let pz := p.z * p.z % ecP
    let qz := q.z * q.z % ecP
    let u := p.x * qz % ecP
    let c := p.y * qz * q.z % ecP
    let h := ecSub (q.x * pz % ecP) u
    let r := ecSub (q.y * pz * p.z % ecP) c
    if h = 0 then (if r = 0 then ecDouble p else ⟨1, 1, 0⟩)
    else
      let hh := h * h % ecP
      let hu := u * hh % ecP
      let x := ecSub (r * r % ecP) ((hh * h + 2 * hu) % ecP)
      ⟨x, ecSub (r * ecSub hu x % ecP) (c * hh * h % ecP), h * p.z * q.z % ecP⟩

/-- A multiple of a point, bit by bit, lowest first. -/
def ecMul : (fuel : Nat) → (k : Nat) → (p acc : EcPoint) → EcPoint
  | 0, _, _, acc => acc
  | fuel + 1, k, p, acc => ecMul fuel (k / 2) (ecDouble p) (if k % 2 = 1 then ecAdd acc p else acc)

/-- The signature `r`, `s` of a message's SHA-256 verifies under the public key: each value 32 bytes, big-endian. -/
def ecdsaOk (key sig msg : List Byte) : Bool :=
  let x := ofBytesBE (key.take 32)
  let y := ofBytesBE (key.drop 32 |>.take 32)
  let r := ofBytesBE (sig.take 32)
  let s := ofBytesBE (sig.drop 32 |>.take 32)
  let onCurve := x < ecP && y < ecP && y * y % ecP = (x * x * x + (ecP - 3) * x + ecB) % ecP
  if !onCurve || r = 0 || ecN ≤ r || s = 0 || ecN ≤ s then false
  else
    let e := ofBytesBE (sha256 msg)
    let w := invMod ecN s
    let o : EcPoint := ⟨1, 1, 0⟩
    let p := ecAdd (ecMul 256 (e * w % ecN) ecG o) (ecMul 256 (r * w % ecN) ⟨x, y, 1⟩ o)
    let i := invMod ecP p.z
    p.z != 0 && p.x * (i * i % ecP) % ecP % ecN = r

end Sys2Proof.Machine
end

