-- ==== Sys2Proof/Machine/Boot.lean ====
section
/-! DEFINITION. The settings loader's loads: the choice of a source, the judgement of the slots, and the application of sections
(R398–R416, R419, R453). -/

namespace Sys2Proof.Machine

open Sys2Proof

/-! ## Slots (R402–R408) -/

/-- The signed part of an image, its public key and its signature (R404). -/
def Image.signed (i : Image) : List Byte := i.head.take i.sigAt
/-- Qx and Qy. -/
def Image.key (i : Image) : List Byte := i.head.drop i.sigAt |>.take 64
/-- r and s. -/
def Image.sig (i : Image) : List Byte := i.head.drop (i.sigAt + 64) |>.take 64
/-- Every entry of the section table. -/
def Image.sects (i : Image) : List Sect := (List.range i.nsect).map i.sect

/-- The bytes from `a` to `b` are 0. -/
def zeroBytes (l : List Byte) (a b : Nat) : Bool := (l.drop a |>.take (b - a)).all (· = 0)

/-- A TYPE and INST that R405 has. -/
def typeOk (x : Sect) : Bool :=
  if x.typ = 1 then x.inst ≤ 8
  else if x.typ = 2 then x.inst ≤ 1
  else (0x10 ≤ x.typ && x.typ ≤ 0x1E || x.typ = 0x20 || x.typ = 0x30) && x.inst = 0

/-- The LENGTH of a body suits its TYPE (R407). -/
def lenOk (x : Sect) : Bool :=
  if x.typ = 1 then x.len % 2 = 0
  else if x.typ = 2 || 0x10 ≤ x.typ && x.typ ≤ 0x1E then x.len % 8 = 0
  else true

/-- Sections lie at ascending offsets without overlap, and end at `stop` (R402, R407). (DEDUCED, log 52) -/
def laidOut (stop : Nat) : Nat → List Sect → Bool
  | pos, [] => pos ≤ stop
  | pos, x :: r => pos ≤ x.off && x.off % 8 = 0 && (if r.isEmpty then x.off + x.len = stop else true) && laidOut stop (x.off + x.len) r

/-- Check 0x3 (R401–R403, R407, R408). (DEDUCED, log 52) -/
def Image.formatOk (i : Image) : Bool :=
  let h := i.head
  leAt h 4 2 = 1 && leAt h 6 2 < 2 && 1 ≤ i.seq && i.seq ≤ 0xFFFFFFFE && i.rollback ≤ 63 && 1 ≤ i.nsect && i.nsect ≤ 63 &&
    i.keyslot ≤ 3 && leAt h 0x13 1 < 8 && leAt h 0x18 1 ≤ 2 && zeroBytes h 0x19 0x3C &&
    i.imglen ≤ 2 ^ 24 && (i.density = 0 || i.imglen ≤ i.density / 2) &&
    (List.range i.nsect).all (fun k => zeroBytes h (0x42 + 48 * k) (0x44 + 48 * k)) &&
    i.sects.all (fun x => typeOk x && lenOk x) && (i.sects.map fun x => (x.typ, x.inst)).Nodup &&
    laidOut i.imglen (i.sigAt + 128) i.sects

/-- VARMASK includes this hub's variant. -/
def State.variantIn (s : State) (i : Image) : Bool :=
  (leAt i.head 0x13 1).testBit (match s.variant with | .gls9696 => 0 | .gls9648 => 1 | .gls9624 => 2)

/-- The states in which the key and the signature are checked (R408, R453). -/
def State.signs (s : State) : Bool := 3 ≤ s.lcState

/-- The states in which ROLLBACK is checked (R408, R453). -/
def State.floors (s : State) : Bool := s.lcState = 3 || s.lcState = 4

/-- Check 0x5 (R404, R453). -/
def State.keyOk (s : State) (i : Image) : Bool :=
  let h := some (sha256 i.key)
  if s.lcState = 5 then s.fuse.vendor = h else s.usable i.keyslot && (s.slotOf i.keyslot).hash = h

/-- Check 0x6. -/
def Image.signatureOk (i : Image) : Bool := ecdsaOk i.key i.sig i.signed

/-- The reason of a slot whose checks from 0x7 on fail, 0 with none: the signature comes before them (R408). (DEDUCED, log 52) -/
def State.lateReason (s : State) (i : Image) : Nat :=
  let r := if s.floors && decide (i.rollback < s.fuse.floor) then 7 else if i.seq ∈ s.boot.ret.rejected then 0xB else 0
  if r ≠ 0 && s.signs && !i.signatureOk then 6 else r

/-- The reason of a slot (R408): that of the first check that fails, 0 with none. The signature of a slot that nothing else rules
out is checked once the slot is taken. (DEDUCED, log 52) -/
def State.reason (s : State) (i : Image) : Nat :=
  if i.head.take 4 ≠ [0x47, 0x4C, 0x52, 0x53] then 1
  else if leAt i.head 0x3C 4 ≠ (crc32c (i.head.take 0x3C)).toNat then 2
  else if !i.formatOk then 3
  else if !s.variantIn i then 4
  else if s.signs && !s.keyOk i then 5
  else s.lateReason i

/-! ## Loads begin and end -/

/-- PHASE of BOOT_STATUS. -/
def State.loadPhase (s : State) (n : Nat) : State := s.set BOOT_STATUS BOOT_STATUS_PHASE n

/-- FAILA or FAILB. -/
def State.setFail (s : State) (slot r : Nat) : State :=
  s.set BOOT_STATUS (if slot = 0 then BOOT_STATUS_FAILA else BOOT_STATUS_FAILB) r


/-- The first read above 16 MiB of a flash without a 4-byte Address Instruction Table is preceded by Enter 4-byte Mode (R399). -/
def State.reach (s : State) (stop : Nat) : State :=
  if s.boot.noTable4 ∧ !s.boot.mode4 ∧ 2 ^ 24 < stop then
    ({ s with boot := { s.boot with mode4 := true } }.set BOOT_INFO BOOT_INFO_ADDR4 1).flashInst 0xB7
  else s

/-- The boot from flash ends: the flash leaves its 4-byte mode (R399). -/
def State.flashLeave (s : State) : State :=
  if s.boot.mode4 then { s with boot := { s.boot with mode4 := false } }.flashInst 0xE9 else s

/-- A load ends at PHASE = DONE (R406, R414, R419): the held writes are applied, the sources raised, and the copy of a committed image
that came from flash begins. (DEDUCED, log 53) (DEDUCED, log 54) -/
def State.bootFinish (s : State) : State :=
  let s := s.flashLeave
  let b := s.boot
  let s := if b.load = some .aoreset then s else s.unpairIdle
  let s := { s with boot := { b with load := none, applied := false, held := [], queue := [], img := {} } }
  let s := b.held.foldl (fun s e => (s.busStore .boot e.1 4 e.2.toNat).1) s
  let s := (s.loadPhase 5).raise 208
  let s := if s.flag BOOT_STATUS BOOT_STATUS_FALLBACK || s.flag BOOT_STATUS BOOT_STATUS_RETBAD then s.raise 211 else s
  if b.load != some .aoreset && b.src != .copy && s.boot.ret.trial.isNone then s.startCopy else s

/-- No trial runs: the image is the committed one, or none (R411). (DEDUCED, log 53) -/
def State.endTrial (s : State) : State :=
  ({ s with boot := { s.boot with ret := { s.boot.ret with trial := none } } }).set BOOT_STATUS BOOT_STATUS_TRIAL 0

/-- No slot loads (R409); what ran before an AO reset still runs. -/
def State.bootFail (s : State) : State :=
  let s := s.flashLeave
  let s := if s.boot.load = some .aoreset then s else s.endTrial.unpairIdle
  ({ s with boot := { s.boot with load := none, applied := false, held := [], img := {} } }.loadPhase 6).set
    BOOT_STATUS BOOT_STATUS_FROM 3

/-- Whether the load is a trial (R411): a committed SEQ is recorded, and the image's differs. -/
def State.isTrial (s : State) : Bool :=
  match s.boot.ret.committed with
  | some c => c != s.boot.run.seq
  | none => false

/-- The marks of the retained area for an image that has loaded from flash (R411, R413). -/
def State.markImage (s : State) : State :=
  match s.boot.ret.committed with
  | none => s.setCommitted
  | some _ =>
    if s.isTrial then
      { s with boot := { s.boot with ret := { s.boot.ret with trial := some s.boot.run.seq } } }.set BOOT_STATUS BOOT_STATUS_TRIAL 1
    else s.endTrial

/-- WHY of JRN_RSTAT for a COLD load that no resume follows (R445). -/
def State.coldWhy (s : State) : Nat := if s.boot.run.coldResume then 4 else 3

/-- A COLD load resumes (R445): the image asks for it, and the control line names its SEQ. -/
def State.coldResumes (s : State) : Bool :=
  s.boot.run.coldResume && s.jrn.epoch.any fun e => e.1 = s.boot.run.seq

/-- The status registers of a load whose sections have all been applied (R419). (DEDUCED, log 53) -/
def State.loadedRegs (s : State) : State :=
  let i := s.boot.img
  let s := (s.wr BOOT_SEQ (BitVec.ofNat 32 i.seq)).wr BOOT_VER (BitVec.ofNat 32 i.version)
  let s := s.set BOOT_INFO BOOT_INFO_ROLLBACK i.rollback
  match s.boot.src with
  | .slot n => (s.setFail n 0).set BOOT_STATUS BOOT_STATUS_FROM n
  | .copy => s.set BOOT_STATUS BOOT_STATUS_FROM 2

/-- Every section has been applied: BOOT marks a trial or commits, and the journal's part follows, or the load ends (R411, R432,
R445). (DEDUCED, log 53) -/
def State.loadedAll (s : State) : State :=
  let s := s.loadedRegs
  match s.boot.load with
  | none => s
  | some .aoreset => s.bootFinish
  | some l =>
    let s := { s with boot := { s.boot with run := s.boot.img, applied := true } }
    let s := match s.boot.src with | .copy => s | .slot _ => s.markImage
    match l with
    | .warm => if s.flag JRN_STATUS JRN_STATUS_REPLAYING then s else s.bootFinish
    | .cold =>
      if s.coldResumes then s.set JRN_STATUS JRN_STATUS_REPLAYING 1
      else ((s.newEpoch s.boot.run.seq).set JRN_RSTAT JRN_RSTAT_WHY s.coldWhy).bootFinish
    | _ => s.bootFinish

/-- The table indices of the sections that a load reads: all from flash, and the retained ones that it applies from the copy
(R405, R413). -/
def State.loadList (s : State) : List Nat :=
  let i := s.boot.img
  match s.boot.src with
  | .slot _ => List.range i.nsect
  | .copy => i.retained.filter fun k => s.boot.load.any fun l => appliesOn l (i.sect k) (tget i.bodies [] k)

/-- The sections begin (R412, R415). -/
def State.sectionsBegin (s : State) : State :=
  let s := { s with boot := { s.boot with idx := 0, held := [], touched := [] } }
  let s := s.loadPhase (match s.boot.src with | .copy => 7 | .slot _ => 4)
  if s.loadList.isEmpty then s.loadedAll else s

/-- The next slot is taken (R409): its signature first, where one is required. (DEDUCED, log 52) -/
def State.nextSlot (s : State) : State :=
  match s.boot.queue with
  | [] => s.bootFail
  | i :: r =>
    let s := { s with boot := { s.boot with img := i, queue := r, src := .slot i.slot } }
    if s.signs then s.loadPhase 3 else s.sectionsBegin

/-- A read that BOOT makes by itself, as a word in the layout of BOOT_FCMD: its instruction, its lanes of data, its cycles before them, and
whether the address has 4 bytes. -/
def readWord (instr lanes cycles : Nat) (four : Bool) : Word :=
  BitVec.ofNat 32 (instr + cycles % 16 * 2 ^ 16 + 2 ^ 24 + four.toNat * 2 ^ 25 + lanes * 2 ^ 26)

/-- A load from flash begins (R398): QSPI_RST_N is high, and the flash is released, reset, and asked for its SFDP tables, from address 0 on
with a 3-byte address and 8 dummy cycles. -/
def State.flashBegin (s : State) : State :=
  let s := { s with boot := { s.boot with src := .slot 0, queue := [], img := {}, noTable4 := false, mode4 := false } }
  (([0xAB, 0x66, 0x99].foldl State.flashInst s).flashOp (readWord 0x5A 0 8 false) 0 []).loadPhase 1

/-- A load takes the retained copy (R415). -/
def State.fromCopy (s : State) (l : Load) : Bool :=
  s.boot.ret.valid &&
    match l with
    | .cold => false
    | .warm => s.boot.ret.trial.isNone && !s.boot.ret.tried && !s.flag BOOT_UPDATE BOOT_UPDATE_FLASH
    | .wake => s.boot.ret.trial.isNone
    | .aoreset => true

/-- The load that is due begins (R398, R415, R419). -/
def State.loadBegin (s : State) (l : Load) : State :=
  let c := s.fromCopy l
  let s := if l = .warm then s.set BOOT_UPDATE BOOT_UPDATE_FLASH 0 else s
  let tried := s.boot.ret.tried && l = .aoreset
  let s := ({ s with boot := { s.boot with load := some l, ret := { s.boot.ret with tried } } }).retRegs
  if c then ({ s with boot := { s.boot with src := .copy, img := s.boot.ret.copy } }).sectionsBegin else s.flashBegin

/-- The record of a session that a COLD reset ended, due at the next boot (R467). -/
def State.recordEnded (s : State) : State :=
  match s.lcs.ended with
  | none => s
  | some m => ({ s with lcs := { s.lcs with ended := none } }).lcsEvent 3 2 m

/-- BOOT_START (R398, R415). In BLANK and MAKER BOOT loads no image (R453). (DEDUCED, log 53) -/
def execBootStart (s : State) : Host.Outcome State Fault Refusal :=
  .next (match s.boot.due with
    | [] => s
    | l :: r =>
      if s.fabric ∧ s.boot.load.isNone then
        let s := ({ s with boot := { s.boot with due := r } }).recordEnded
        if s.lcState < 2 then (if l = .aoreset then s else s.unpairIdle) else s.loadBegin l
      else s)

/-! ## Headers and signatures -/

/-- BOOT accepts the SFDP tables (R398): of JESD216 or later, with a BFPT of at least 9 DWORDs. (DESIGN CHOICE, log 51) -/
def takesSfdp (f : Sfdp) : Bool := f.present && 1 ≤ f.major && 9 ≤ f.dwords

/-- A quad mode may be used (R399): QER is 0b000, or the Quad Enable bit that it names reads 1. -/
def quadOk (f : Sfdp) : Bool := f.qer = 0 || f.qe

/-- MODE of BOOT_INFO (R399, R400). -/
def modeOf (f : Sfdp) : Nat :=
  if !takesSfdp f then 0
  else if quadOk f && f.r144.isSome then 5
  else if quadOk f && f.r114.isSome then 4
  else if f.r122.isSome then 3
  else if f.r112.isSome then 2
  else 1

/-- The read that a MODE stands for (R399, R400): one that the BFPT lists, the fast read 0x0B, or with no SFDP the read 0x03. That 0x0B has
8 dummy cycles is the flash families' common practice. (PRESUMED, log 78) -/
def readOf (f : Sfdp) : FastRead :=
  let dflt : FastRead := { instr := 0x0B, mode := 0, dummy := 8 }
  match modeOf f with
  | 0 => { instr := 3, mode := 0, dummy := 0 }
  | 2 => f.r112.getD dflt
  | 3 => f.r122.getD dflt
  | 4 => f.r114.getD dflt
  | 5 => f.r144.getD dflt
  | _ => dflt

/-- The 4-byte read instruction of a MODE (R398, R399). -/
def fourInstr (t : FourByte) (mode : Nat) : Byte :=
  match mode with | 2 => t.r112 | 3 => t.r122 | 4 => t.r114 | 5 => t.r144 | _ => t.r111

/-- BOOT takes the read for the sections from the tables (R398, R399): a flash of more than 16 MiB with a 4-byte Address Instruction Table is
read with its instructions. -/
def State.takeRead (s : State) (f : Sfdp) (big : Bool) : State :=
  let r := readOf f
  match big, f.fourByte with
  | true, some t =>
    { s with boot := { s.boot with rdInstr := fourInstr t (modeOf f), rdDummy := r.mode + r.dummy, rdAddr4 := true, noTable4 := false } }
  | _, _ => { s with boot := { s.boot with rdInstr := r.instr, rdDummy := r.mode + r.dummy, rdAddr4 := false, noTable4 := big } }

/-- The code of LANES for the data of a read mode (R397). -/
def lanesOf (mode : Nat) : Nat := match mode with | 2 | 3 => 1 | 4 | 5 => 2 | _ => 0

/-- BOOT reads a section at a flash address (R399, R412). -/
def State.readSection (s : State) (a : Nat) : State :=
  s.flashOp (readWord s.boot.rdInstr.toNat (lanesOf (s.get BOOT_INFO BOOT_INFO_MODE)) s.boot.rdDummy (s.boot.rdAddr4 || s.boot.mode4))
    (BitVec.ofNat 32 a) []

/-- As many bytes as BOOT reads at a place; those that the command does not show are free values. (DESIGN CHOICE, log 51) -/
def State.padTo (s : State) (l : List Byte) (n : Nat) : State × List Byte :=
  let r := s.freeBytes (n - l.length)
  (r.1, l.take n ++ r.2)

/-- The header, table and signature block of the slot at a flash address as BOOT reads them. (DESIGN CHOICE, log 51) -/
def State.readHead (s : State) (at_ : Nat) (l : List Byte) : State × List Byte :=
  let h := (s.reach (at_ + 0x40)).padTo l 0x40
  let n := 0x40 + 48 * leAt h.2 0x11 1 + 128
  (h.1.reach (at_ + n)).padTo (h.2 ++ l.drop 0x40) n

/-- A slot is judged (R408). -/
def State.judgeSlot (s : State) (i : Image) : State × Option Image :=
  let r := s.reason i
  if r = 0 then (s, some i) else (s.setFail i.slot r, none)

/-- The order of the slots that pass (R409): the higher SEQ first, slot A where they are equal. (DEDUCED, log 52) -/
def slotOrder (a b : Option Image) : List Image :=
  match a, b with
  | some a, some b => if a.seq < b.seq then [b, a] else [a, b]
  | some a, none => [a]
  | none, some b => [b]
  | none, none => []

/-- HEADERS_READ (R398–R401, R408, R409): what the SFDP tables say and the heads of the slots. Without SFDP only slot A is read; with
tables that BOOT does not accept likewise. (DESIGN CHOICE, log 51) -/
def State.headersRead (s : State) (f : Sfdp) (a b : List Byte) : State :=
  let ok := takesSfdp f
  let dens := if ok then f.density % 2 ^ 32 else 0
  let big := decide (2 ^ 24 < dens)
  let s := s.takeRead f big
  let s := (s.set BOOT_STATUS BOOT_STATUS_NOSFDP (!ok).toNat).wr BOOT_DENS (BitVec.ofNat 32 dens)
  let s := (s.set BOOT_INFO BOOT_INFO_MODE (modeOf f)).set BOOT_INFO BOOT_INFO_ADDR4 (big && f.fourByte.isSome).toNat
  let ha := s.readHead 0 a
  let ja := ha.1.judgeSlot { head := ha.2, slot := 0, density := dens }
  let jb := if ok then
      let hb := ja.1.readHead (dens / 2) b
      hb.1.judgeSlot { head := hb.2, slot := 1, density := dens }
    else (ja.1, none)
  ({ jb.1 with boot := { jb.1.boot with queue := slotOrder ja.2 jb.2 } }.loadPhase 2).nextSlot

/-- HEADERS_READ. (DESIGN CHOICE, log 51) -/
def execHeadersRead (f : Sfdp) (a b : List Byte) (s : State) : Host.Outcome State Fault Refusal :=
  .next (if s.fabric ∧ s.boot.load.isSome ∧ s.get BOOT_STATUS BOOT_STATUS_PHASE = 1 then s.headersRead f a b else s)

/-- SIGNATURE_VERIFY_DONE (R408, R409, R412). -/
def execSignatureVerifyDone (s : State) : Host.Outcome State Fault Refusal :=
  .next (if s.fabric ∧ s.boot.load.isSome ∧ s.get BOOT_STATUS BOOT_STATUS_PHASE = 3 then
    if s.boot.img.signatureOk then s.sectionsBegin else (s.setFail s.boot.img.slot 6).nextSlot
  else s)

/-! ## Bodies (R405, R406) -/

/-- The window of a write list's TYPE (R405, R406). -/
def windowOf (typ : Nat) : Nat :=
  match typ with
  | 0x10 => 0x4000 | 0x11 => 0x4001 | 0x12 => 0x4002 | 0x13 => 0x4003 | 0x14 => 0x4004 | 0x15 => 0x4011 | 0x16 => 0x4005
  | 0x17 => 0x4006 | 0x18 => 0x4008 | 0x19 => 0x4009 | 0x1A => 0x400A | 0x1B => 0x400B | 0x1C => 0x400C | 0x1D => 0x400E
  | _ => 0x4010

/-- A write list of the TYPE may address this. -/
def recordAddrOk (typ a : Nat) : Bool := a / 0x10000 = windowOf typ || typ = 0x14 && 0x240000 ≤ a && a < 0x250000

/-- A record that BOOT holds back (R406). -/
def holdsBack (a : Nat) : Bool := (List.range 9).any fun c => a = CORE_CTL c

/-- One record of a write list (R406): applied, held back, left out, or a failure. -/
def State.applyRecord (s : State) (typ a : Nat) (v : Word) : State × Bool :=
  if !recordAddrOk typ a then (s, false)
  else if holdsBack a then ({ s with boot := { s.boot with held := s.boot.held ++ [(a, v)] } }, true)
  else if typ = 0x18 && (a = TIME_CTL || a = TIME_STEPNS) && s.boot.load != some .cold then (s, true)
  else
    let r := s.busStore .boot a 4 v.toNat
    (r.1, r.2.isNone)

/-- A write list (R406), while the load lasts: a record may reset the hub. -/
def State.applyList (s : State) (typ : Nat) (body : List Byte) : Nat → State × Bool
  | 0 => (s, true)
  | k + 1 =>
    let r := s.applyRecord typ (leAt body 0 4) (BitVec.ofNat 32 (leAt body 4 4))
    if r.2 && r.1.boot.load.isSome then r.1.applyList typ (body.drop 8) k else r

/-- The words of a program (R406). -/
def State.applyWords (s : State) (c w : Nat) (body : List Byte) : Nat → State × Bool
  | 0 => (s, true)
  | k + 1 =>
    let v := leAt body 0 2
    if 2 ^ 14 ≤ v then (s, false) else (s.progStore c w (BitVec.ofNat 32 v)).applyWords c (w + 1) (body.drop 2) k

/-- A program (R406). -/
def State.applyProgram (s : State) (c : Nat) (body : List Byte) : State × Bool :=
  let n := body.length / 2
  if (if c = 8 then 4096 else 16384) < n then (s, false)
  else if !s.hasCore c then (s.absentHit, false)
  else s.applyWords c 0 body n

/-- The entries of a TEU table (R165, R406). -/
def State.applyEntries (s : State) (b i : Nat) (body : List Byte) : Nat → State
  | 0 => s
  | k + 1 =>
    ((s.entryLow b i (BitVec.ofNat 32 (leAt body 0 4))).entryHigh b i (BitVec.ofNat 32 (leAt body 4 4))).applyEntries b (i + 1)
      (body.drop 8) k

/-- A TEU table (R406). -/
def State.applyTable (s : State) (b : Nat) (body : List Byte) : State × Bool :=
  let n := body.length / 8
  if s.nTeu = 0 then (s.absentHit, false)
  else if s.nTeu < n then (s, false)
  else (s.applyEntries b 0 body n, true)

/-- The bytes of a data section (R406). -/
def State.applyBytes (s : State) (a : Nat) : List Byte → State × Bool
  | [] => (s, true)
  | b :: r =>
    let x := s.memStore a 1 b.toNat
    if x.2 then (x.1, false) else x.1.applyBytes (a + 1) r

/-- A data section (R406): the whole range lies in shared data SRAM or in Oasis data memory. -/
def State.applyData (s : State) (body : List Byte) : State × Bool :=
  let a := leAt body 0 4
  let n := body.length - 4
  if 4 ≤ body.length && (decide (a + n ≤ 0x100000) || 0x300000 ≤ a && decide (a + n ≤ 0x304000)) then s.applyBytes a (body.drop 4)
  else (s, false)

/-- A section's body applied; the flag says that it keeps R406. -/
def State.applyBody (s : State) (x : Sect) (body : List Byte) : State × Bool :=
  if x.typ = 1 then s.applyProgram x.inst body
  else if x.typ = 2 then s.applyTable x.inst body
  else if x.typ = 0x20 then s.applyData body
  else if x.typ = 0x30 then (s, true)
  else s.applyList x.typ body (body.length / 8)

/-! ## Failures (R409, R415) -/

/-- The registers of a unit that a WARM reset would reset, at their reset values: of the status registers, the bits stay that it
leaves or finds set. (DEDUCED, log 54) -/
def State.windowReset (s : State) (typ : Nat) : State :=
  let keep := fun a => a / 0x10000 != windowOf typ || inAo a
  if typ = 0x10 then s.keepRegs keep
  else
    let t := { s with regs := s.regs.filter fun e => keep e.1 }
    if typ = 0x1D then t.wr JRN_STATUS (s.rd JRN_STATUS &&& 3) else t

/-- A unit that a section has written is returned to reset (R409), as a WARM reset does; AO and TIME stay. (DEDUCED, log 54) -/
def State.unitReset (s : State) (typ : Nat) : State :=
  let typ := if typ = 2 then 0x14 else typ
  if typ < 0x10 || typ = 0x18 || typ = 0x19 || 0x1E ≤ typ then s
  else
    let s := s.windowReset typ
    match typ with
    | 0x10 => { s with pow := { s.pow with tempArmed := true, padDir := 0, padOut := 0 } }
    | 0x11 => { s with afe := s.afe.lost }
    | 0x12 => { s with flt := {} }
    | 0x13 => { s with evt := [] }
    | 0x14 => { s with teu := { xopen := some (s.freeCtr, []) }, freeCtr := s.freeCtr + 512 }
    | 0x15 => { s with cores := s.onlyC8 }
    | 0x16 => { s with hic := s.hicLost }
    | 0x17 => { s with qm := {} }
    | 0x1A => { s with eth := s.eth.lost }
    | 0x1B => { s with caer := s.caer.lost }
    | 0x1C => { s with twp := [] }
    | 0x1D => { s with jrn := { s.jrn with pLine := [], pLast := none, pBad := false, reading := none } }
    | _ => s

/-- Every unit that the load has written is returned to reset. (DEDUCED, log 54) -/
def State.unitsReset (s : State) : State :=
  s.boot.touched.foldl State.unitReset { s with boot := { s.boot with touched := [], held := [] } }

/-- A section fails (R409, R415): the other slot follows with FALLBACK, or the flash with RETBAD. -/
def State.sectFail (s : State) (r : Nat) : State :=
  let s := s.unitsReset
  match s.boot.src with
  | .slot n => ((s.setFail n r).set BOOT_STATUS BOOT_STATUS_FALLBACK 1).nextSlot
  | .copy =>
    let s := { s with boot := { s.boot with ret := { s.boot.ret with valid := false } } }
    ((s.set BOOT_STATUS BOOT_STATUS_RETBAD 1).retRegs).flashBegin

/-- The reason why a section that has been read fails (R406, R408, R412, R415): 0 with none. (DESIGN CHOICE, log 51) -/
def sectReason (src : From) (x : Sect) (body : List Byte) (applied : Bool) : Nat :=
  if !applied then 0xA
  else if (crc32c body).toNat ≠ x.scrc then 8
  else if src ≠ .copy ∧ sha256 body ≠ x.digest then 9
  else 0

/-- A section's part of the load, with its body: applied where the load applies it, then compared (R405, R406, R412). -/
def State.takeSection (s : State) (k : Nat) (body : List Byte) : State :=
  let x := s.boot.img.sect k
  let applies := s.boot.load.any fun l => appliesOn l x body
  let s := if applies then { s with boot := { s.boot with touched := s.boot.touched ++ [x.typ] } } else s
  let r := if applies then s.applyBody x body else (s, true)
  let s := r.1
  if s.boot.load.isNone then s
  else
    let why := sectReason s.boot.src x body r.2
    if why ≠ 0 then s.sectFail why
    else
      let i := s.boot.img
      let i := if retains x body then { i with bodies := tset [] i.bodies k body } else i
      let s := { s with boot := { s.boot with img := i, idx := s.boot.idx + 1 } }
      if s.loadList.length ≤ s.boot.idx then s.loadedAll else s

/-- A section's body: as read from flash, or as the copy holds it. -/
def State.bodyOf (s : State) (k : Nat) (body : List Byte) : State × List Byte :=
  let x := s.boot.img.sect k
  match s.boot.src with
  | .copy => (s, tget s.boot.img.bodies [] k)
  | .slot n =>
    let a := n * (s.boot.img.density / 2) + x.off
    ((s.reach (a + x.len)).readSection a).padTo body x.len

/-- SECTION_END (R405, R406, R409, R412, R415). A load from the retained copy takes the body from there. (DESIGN CHOICE, log 51) -/
def execSectionEnd (body : List Byte) (s : State) : Host.Outcome State Fault Refusal :=
  let ph := s.get BOOT_STATUS BOOT_STATUS_PHASE
  .next (if s.fabric ∧ s.boot.load.isSome ∧ !s.boot.applied ∧ (ph = 4 ∨ ph = 7) then
    match s.loadList[s.boot.idx]? with
    | none => s
    | some k =>
      let r := s.bodyOf k body
      r.1.takeSection k r.2
  else s)

end Sys2Proof.Machine
end

