-- ==== Sys2Proof/Machine/CpuMem.lean ====
section
/-! DEFINITION. The Dexgar instructions that reach memory, the store buffer and the answers to loads (R25, R187, R194, R195,
R206–R209, R225, R226). -/

namespace Sys2Proof.Machine

open Sys2Proof

/-! ## The store buffer -/

/-- A posted store takes effect at its target (R225, R226): a store in the buffer never causes a fault. It uses the held words of the
code that made it (R273). -/
def State.drainOne (s : State) (c : Core) (p : Posted) : State :=
  (s.busStoreHeld (.core c) (heldOf c p.handler) p.addr p.width p.val).1

/-- The oldest posted store leaves the buffer. (DEDUCED, log 24) -/
def State.drainHead (s : State) (c : Core) : State :=
  match (s.core c).stores with
  | [] => s
  | p :: r => (s.modCore c fun x => { x with stores := r }).drainOne c p

/-- All posted stores take effect, oldest first, before a load of the same core looks at memory (R25, R195). (DEDUCED, log 24) -/
def State.drainAll (s : State) (c : Core) : State :=
  (s.core c).stores.foldl (fun s p => s.drainOne c p) (s.modCore c fun x => { x with stores := [] })

/-- A store that passed the core's check enters the buffer; a full buffer first lets the oldest entry take effect (R226). (DEDUCED, log 24) -/
def State.post (s : State) (c : Core) (p : Posted) : State :=
  let s := if 4 ≤ (s.core c).stores.length then s.drainHead c else s
  s.modCore c fun x => { x with stores := x.stores ++ [p] }

/-- STORE_DRAIN (R226). -/
def execStoreDrain (c : Core) (s : State) : Host.Outcome State Fault Refusal :=
  .next (if s.onBus (.core c) then s.drainHead c else s)

/-! ## Loads and stores -/

/-- The effective address (R194). -/
def State.effAddr (s : State) (c : Core) (r : GReg) (disp : Word) : Nat := ((s.core c).gr r + disp).toNat

/-- A bus error of a core's access: the fault BUS, and nothing else happens (R195). -/
def State.busStop (s : State) (c : Core) (e : BusErr) (a : Nat) : State := (s.errRaise e).busFault c e a

/-- The core's own memory answers in the same cycle (R187, R225, R240): its private scratch, or C8's data memory. -/
def ownMemory (c : Core) (a : Nat) : Bool :=
  if c.val = 8 then regionOf a = .oasisData else regionOf a = .ownScratch

/-- The load itself, behind the core's own earlier stores: the value goes to the register, or BUS is raised. (DEDUCED, log 24) -/
def State.finishLoad (s : State) (c : Core) (l : LoadWait) : State :=
  let r := (s.drainAll c).busLoad (.core c) l.addr l.width
  match r.2.2 with
  | some e => r.1.busFault c e l.addr
  | none => (r.1.modCore c fun x => x.setG l.dest (BitVec.ofNat 32 r.2.1)).advance c l.len

/-- LD, LDH and LDB (R194, R195). A load outside the core's own memory waits for its answer (R225). (DEDUCED, log 24) -/
def State.loadOp (s : State) (c : Core) (e : Enc) (i : Instr) (k : Nat) (d r : GReg) (disp : Word) : State :=
  s.gated c e i fun s =>
    let a := s.effAddr c r disp
    let l : LoadWait := { addr := a, width := k, dest := d, len := e.len }
    match s.busErr (.core c) a k false with
    | some err => s.busStop c err a
    | none => if ownMemory c a then s.finishLoad c l else s.modCore c fun x => { x with load := some l }

/-- LD (R194). -/
def execLd (c : Core) (e : Enc) (d r : GReg) (disp : Word) (s : State) : Host.Outcome State Fault Refusal :=
  .next (s.loadOp c e (.ld c e d r disp) 4 d r disp)

/-- LDH (R194). -/
def execLdh (c : Core) (e : Enc) (d r : GReg) (disp : Word) (s : State) : Host.Outcome State Fault Refusal :=
  .next (s.loadOp c e (.ldh c e d r disp) 2 d r disp)

/-- LDB (R194). -/
def execLdb (c : Core) (e : Enc) (d r : GReg) (disp : Word) (s : State) : Host.Outcome State Fault Refusal :=
  .next (s.loadOp c e (.ldb c e d r disp) 1 d r disp)

/-- LOAD_RESPONSE (R195, R225). -/
def execLoadResponse (c : Core) (s : State) : Host.Outcome State Fault Refusal :=
  .next (match (s.core c).load with
    | none => s
    | some l =>
      if s.onBus (.core c) then (s.modCore c fun x => { x with load := none }).finishLoad c l else s)

/-- ST, STH and STB (R194, R195, R226). -/
def State.storeOp (s : State) (c : Core) (e : Enc) (i : Instr) (k : Nat) (d r : GReg) (disp : Word) : State :=
  s.gated c e i fun s =>
    let a := s.effAddr c r disp
    match s.busErr (.core c) a k true with
    | some err => s.busStop c err a
    | none =>
      (s.post c { addr := a, width := k, val := ((s.core c).gr d).toNat % 2 ^ (8 * k), handler := (s.core c).inHandler }).advance c e.len

/-- ST (R194). -/
def execSt (c : Core) (e : Enc) (d r : GReg) (disp : Word) (s : State) : Host.Outcome State Fault Refusal :=
  .next (s.storeOp c e (.st c e d r disp) 4 d r disp)

/-- STH (R194). -/
def execSth (c : Core) (e : Enc) (d r : GReg) (disp : Word) (s : State) : Host.Outcome State Fault Refusal :=
  .next (s.storeOp c e (.sth c e d r disp) 2 d r disp)

/-- STB (R194). -/
def execStb (c : Core) (e : Enc) (d r : GReg) (disp : Word) (s : State) : Host.Outcome State Fault Refusal :=
  .next (s.storeOp c e (.stb c e d r disp) 1 d r disp)

/-! ## Block elements (R206) -/

/-- The five block operations. -/
inductive BlockOp where
  | xcpy | xfil | xcmp | xfnd | xcrc
  deriving DecidableEq, Repr

/-- The operation reads the byte at g4. -/
def BlockOp.reads : BlockOp → Bool
  | .xfil => false
  | _ => true

/-- The operation compares, so that a run of it can stop early (R207). -/
def BlockOp.compares : BlockOp → Bool
  | .xcmp | .xfnd => true
  | _ => false

/-- The operation moves g5. -/
def BlockOp.movesG5 : BlockOp → Bool
  | .xcpy | .xfil | .xcmp => true
  | _ => false

/-- A byte read by an element: the state, the byte, and the bus error. -/
def State.byteAt (s : State) (c : Core) (a : Nat) : State × Nat × Option BusErr :=
  match s.busErr (.core c) a 1 false with
  | some e => (s.errRaise e, 0, some e)
  | none => (s.drainAll c).busLoad (.core c) a 1

/-- g4, g5 and g6 after an element. -/
def CoreSt.stepCursors (x : CoreSt) (o : BlockOp) : CoreSt :=
  let x := if o.reads then x.setG 4 (x.gr 4 + 1) else x
  let x := if o.movesG5 then x.setG 5 (x.gr 5 + 1) else x
  x.setG 6 (x.gr 6 - 1)

/-- The flags of an element that compares two bytes. -/
def byteFlags (f : Flags) (a b : Nat) : Flags := (aluSub f (BitVec.ofNat 32 a) (BitVec.ofNat 32 b) true).flags

/-- The bytes that an element works on: byte [g4] where it reads one, and what it compares with. An error names its address. (DESIGN CHOICE, log 23) -/
def State.elementBytes (s : State) (c : Core) (o : BlockOp) : State × Nat × Nat × Option (BusErr × Nat) :=
  let g4 := ((s.core c).gr 4).toNat
  let g5 := ((s.core c).gr 5).toNat
  let low := ((s.core c).gr 0).toNat % 256
  if o.reads then
    let p := s.byteAt c g4
    match p.2.2 with
    | some e => (p.1, 0, 0, some (e, g4))
    | none =>
      if o = .xcmp then
        let q := p.1.byteAt c g5
        (q.1, p.2.1, q.2.1, q.2.2.map fun e => (e, g5))
      else (p.1, p.2.1, low, none)
  else (s, low, low, none)

/-- What an element does once its bytes are there: the write cursor's store is checked and posted, flags and the CRC change, the
cursors move. With a bus error of the store the element changes nothing. (DESIGN CHOICE, log 23) -/
def State.elementDo (s : State) (c : Core) (e : Enc) (o : BlockOp) (a b : Nat) : State × Option (BusErr × Nat) :=
  let x := s.core c
  let g5 := (x.gr 5).toNat
  let moved := fun (s : State) (f : CoreSt → CoreSt) => s.modCore c fun x => keepFlags e x ((f x).stepCursors o)
  match o with
  | .xcpy | .xfil =>
    match s.busErr (.core c) g5 1 true with
    | some err => (s.errRaise err, some (err, g5))
    | none => (moved (s.post c { addr := g5, width := 1, val := a, handler := (s.core c).inHandler }) id, none)
  | .xcmp | .xfnd => (moved s fun x => { x with flags := byteFlags x.flags a b }, none)
  | .xcrc => (moved s fun x => x.crc [BitVec.ofNat 8 a], none)

/-- One element (R206): the state, the flags it computes, and whether it completed rather than raised BUS. (DESIGN CHOICE, log 23) -/
def State.element (s : State) (c : Core) (e : Enc) (o : BlockOp) : State × Flags × Bool :=
  let p := s.elementBytes c o
  match p.2.2.2 with
  | some (err, a) => (p.1.busFault c err a, 0, false)
  | none =>
    let fl := if o.compares then byteFlags (p.1.core c).flags p.2.1 p.2.2.1 else (p.1.core c).flags
    let q := p.1.elementDo c e o p.2.1 p.2.2.1
    match q.2 with
    | some (err, a) => (q.1.busFault c err a, 0, false)
    | none => (q.1, fl, true)

/-- A block instruction in its single form (R206). -/
def State.single (s : State) (c : Core) (e : Enc) (o : BlockOp) (i : Instr) : State :=
  s.gated c e i fun s =>
    let r := s.element c e o
    if r.2.2 then r.1.advance c e.len else r.1

/-- A run stops after an element: the length is used up, or the stop condition holds on the element's flags (R207). -/
def State.runStops (s : State) (c : Core) (e : Enc) (o : BlockOp) (fl : Flags) : Bool :=
  (s.core c).gr 6 = 0 || o.compares && e.cond != .al && holds fl e.cond

/-- One element of a run (R207–R209): the condition is no gate; PC stays at the run word until the run stops. (DESIGN CHOICE, log 23) -/
def State.runForm (s : State) (c : Core) (e : Enc) (o : BlockOp) (i : Instr) : State :=
  s.issue c e.len i fun s =>
    if (s.core c).gr 6 = 0 then s.advance c e.len
    else
      let r := s.element c e o
      if r.2.2 && r.1.runStops c e o r.2.1 then r.1.advance c e.len else r.1

/-- XCPY (R206). -/
def execXcpy (c : Core) (e : Enc) (s : State) : Host.Outcome State Fault Refusal := .next (s.single c e .xcpy (.xcpy c e))
/-- XFIL (R206). -/
def execXfil (c : Core) (e : Enc) (s : State) : Host.Outcome State Fault Refusal := .next (s.single c e .xfil (.xfil c e))
/-- XCMP (R206). -/
def execXcmp (c : Core) (e : Enc) (s : State) : Host.Outcome State Fault Refusal := .next (s.single c e .xcmp (.xcmp c e))
/-- XFND (R206). -/
def execXfnd (c : Core) (e : Enc) (s : State) : Host.Outcome State Fault Refusal := .next (s.single c e .xfnd (.xfnd c e))
/-- XCRC (R206). -/
def execXcrc (c : Core) (e : Enc) (s : State) : Host.Outcome State Fault Refusal := .next (s.single c e .xcrc (.xcrc c e))
/-- An element of a run of XCPY (R207). -/
def execXcpyRun (c : Core) (e : Enc) (s : State) : Host.Outcome State Fault Refusal := .next (s.runForm c e .xcpy (.xcpyRun c e))
/-- An element of a run of XFIL (R207). -/
def execXfilRun (c : Core) (e : Enc) (s : State) : Host.Outcome State Fault Refusal := .next (s.runForm c e .xfil (.xfilRun c e))
/-- An element of a run of XCMP (R207). -/
def execXcmpRun (c : Core) (e : Enc) (s : State) : Host.Outcome State Fault Refusal := .next (s.runForm c e .xcmp (.xcmpRun c e))
/-- An element of a run of XFND (R207). -/
def execXfndRun (c : Core) (e : Enc) (s : State) : Host.Outcome State Fault Refusal := .next (s.runForm c e .xfnd (.xfndRun c e))
/-- An element of a run of XCRC (R207). -/
def execXcrcRun (c : Core) (e : Enc) (s : State) : Host.Outcome State Fault Refusal := .next (s.runForm c e .xcrc (.xcrcRun c e))

end Sys2Proof.Machine
end

