-- ==== Sys2Proof/Machine/DmeRun.lean ====
section
/-! DEFINITION. The DMA engine moves bytes (R290–R296, R299, R301): element fetches, bursts, and the pops of a waiting channel. -/

namespace Sys2Proof.Machine

open Sys2Proof

/-! ## Accesses -/

/-- The regions that the engine reaches by aligned 32-bit accesses only (R292). -/
def wordRegion (a : Nat) : Bool :=
  match regionOf a with
  | .sram | .oasisData | .ownScratch | .window | .none => false
  | _ => true

/-- The regions that it reaches with beats rounded outward (R292, R293). -/
def beatRegion (a : Nat) : Bool :=
  match regionOf a with
  | .sram | .oasisData => true
  | _ => false

/-- The size of a beat (R292). -/
def beatOf (a : Nat) : Nat := if regionOf a = .sram then 8 else 4

/-- The address of the access that holds byte `a`: its beat where beats are rounded outward, itself elsewhere. -/
def accessAt (a : Nat) : Nat := if beatRegion a then a / beatOf a * beatOf a else a

/-- The bus error of the engine's access for `k` bytes from `a`: in an aligned-word region, fewer than 4 bytes are WIDTH (R292). -/
def State.dmeErr (s : State) (a k : Nat) (store : Bool) : Option BusErr :=
  match s.busErr .dme (accessAt a) (beatOf a) store with
  | some e => some e
  | none => if wordRegion a && k < 4 then some .width else none

/-- The bytes of [a, stop), and the first error with its address (R292, R293, R301). -/
def State.readBeats (s : State) : Nat → Nat → Nat → State × List Byte × Option (BusErr × Nat)
  | 0, _, _ => (s, [], none)
  | fuel + 1, a, stop =>
    if stop ≤ a then (s, [], none)
    else
      let acc := accessAt a
      match s.dmeErr a (stop - a) false with
      | some e => (s.errRaise e, [], some (e, acc))
      | none =>
        let r := s.busLoad .dme acc (beatOf a)
        match r.2.2 with
        | some e => (r.1, [], some (e, acc))
        | none =>
          let bs := ((bytesLE (beatOf a) r.2.1).drop (a - acc)).take (stop - a)
          let t := r.1.readBeats fuel (acc + beatOf a) stop
          (t.1, bs ++ t.2.1, t.2.2)

/-- Bytes written from `a` on: how many were written, and the first error with its address. A partial write into a protected word
changes only its bytes, and a store that the rights refuse changes nothing (R292, R293, R301, R462). -/
def State.writeBeats (s : State) : Nat → Nat → List Byte → State × Nat × Option (BusErr × Nat)
  | 0, _, _ => (s, 0, none)
  | _, _, [] => (s, 0, none)
  | fuel + 1, a, b :: r =>
    let bs := b :: r
    let acc := accessAt a
    match s.dmeErr a bs.length true with
    | some e => (s.errRaise e, 0, some (e, acc))
    | none =>
      let m := min (acc + beatOf a - a) bs.length
      let x := if s.mayStore .dme a then s.storeAt .dme 33 a m (ofBytesLE (bs.take m)) else (s.denied, false)
      if x.2 then (x.1, 0, some (.ecc, acc))
      else
        let t := x.1.writeBeats fuel (acc + beatOf a) (bs.drop m)
        (t.1, m + t.2.1, t.2.2)

/-- Reads of the one word of a constant fixed side (R290). -/
def State.readConst (s : State) (a : Nat) : Nat → State × List Byte × Option (BusErr × Nat)
  | 0 => (s, [], none)
  | n + 1 =>
    let r := s.busLoad .dme a 4
    match r.2.2 with
    | some e => (r.1, [], some (e, a))
    | none =>
      let t := r.1.readConst a n
      (t.1, bytesLE 4 r.2.1 ++ t.2.1, t.2.2)

/-- Writes to the one word of a constant fixed side (R290). -/
def State.writeConst (s : State) (a : Nat) : Nat → List Byte → State × Nat × Option (BusErr × Nat)
  | 0, _ => (s, 0, none)
  | n + 1, bs =>
    let x := s.busStore .dme a 4 (ofBytesLE (bs.take 4))
    match x.2 with
    | some e => (x.1, 0, some (e, a))
    | none =>
      let t := x.1.writeConst a n (bs.drop 4)
      (t.1, 4 + t.2.1, t.2.2)

/-- Pops of a queue port (R291): with QWAIT the first EMPTY word ends them. The flag says so. -/
def State.popItems (s : State) (q : Nat) (qwait : Bool) : Nat → State × List Byte × Bool
  | 0 => (s, [], false)
  | n + 1 =>
    let p := s.pop q
    if qwait && p.2 = emptyItem then (p.1, [], true)
    else
      let t := p.1.popItems q qwait n
      (t.1, bytesLE 8 p.2.toNat ++ t.2.1, t.2.2)

/-- Pushes of a queue port (R291). -/
def State.pushItems (s : State) (q : Nat) : Nat → List Byte → State
  | 0, _ => s
  | n + 1, bs => ((s.push q (BitVec.ofNat 64 (ofBytesLE (bs.take 8)))).1).pushItems q n (bs.drop 8)

/-! ## Bursts (R290–R293, R299) -/

/-- A channel can issue a burst: it has bytes to read, or read and not yet written, and fewer than two bursts in flight, with fewer than
four in all (R299). -/
def State.dready (s : State) (k : Nat) : Bool :=
  let x := s.dch k
  s.dbusy k && x.err.isNone && !x.aborting && x.cur.isSome && !x.wait && (s.get (DME_CH_REM k) DME_CH_REM_REM != 0 || x.part != []) &&
    x.flying < 2 && s.dflying < 4

/-- LISTSIDE of the active configuration: the list side is the destination (R290). -/
def State.listDest (s : State) (k : Nat) : Bool := fieldOf (s.dcfg k) DME_CH_SCFG_LISTSIDE = 1

/-- The smallest amount that a side takes (R290–R292): an item, a word, or a byte. -/
def State.sideUnit (s : State) (k : Nat) (list : Bool) : Nat :=
  let word := fun (a : Nat) => if wordRegion (s.rd a).toNat then 4 else 1
  if list then word (DME_CH_ADDR k)
  else match s.fixMode k with
    | 2 => 8
    | 1 => 4
    | _ => word (DME_CH_FIX k)

/-- The bytes of a side up to its next 64-byte boundary (R292); an access to a constant or a queue port crosses none. -/
def State.sideRoom (s : State) (k : Nat) (list : Bool) : Nat :=
  if list then 64 - (s.rd (DME_CH_ADDR k)).toNat % 64
  else if s.fixMode k = 0 then 64 - (s.rd (DME_CH_FIX k)).toNat % 64
  else 64

/-- The bytes that the next burst reads (R292). Where a boundary of one side lies within a unit of the other, the channel reads that
unit, or its part before the boundary, and holds what it cannot write yet; it reads nothing while a held part can be written. (DEDUCED, log 31) -/
def State.burstLen (s : State) (k : Nat) : Nat :=
  let rem := s.get (DME_CH_REM k) DME_CH_REM_REM
  let room := s.sideRoom k (!s.listDest k)
  let su := s.sideUnit k (!s.listDest k)
  let du := s.sideUnit k (s.listDest k)
  let n := min rem (min room (s.sideRoom k (s.listDest k)))
  let u := max su du
  match (s.dch k).part.length with
  | 0 => if u ≤ n then n / u * u else min rem (if du ≤ su then su else room)
  | p => if du ≤ p then 0 else min rem (min room (du - p))

/-- How many of the bytes held the next write takes: whole units, up to the boundary; of an element that ends within a word, the rest,
and from an address less than a word below the boundary the bytes before it: both of them the word region refuses (R292). -/
def State.writeLen (s : State) (k rem len : Nat) : Nat :=
  let du := s.sideUnit k (s.listDest k)
  let room := s.sideRoom k (s.listDest k)
  let n := min len room
  if rem = 0 ∧ n = len ∨ room < du then n else n / du * du

/-- The queue of a queue-port fixed side. -/
def queueOfFix (fix : Nat) : Nat := (fix - 0x50000000) / 256

/-- The source of a burst: bytes, the first error, and whether an EMPTY word was discarded. -/
def State.burstRead (s : State) (k n : Nat) : State × List Byte × Option (BusErr × Nat) × Bool :=
  let fix := (s.rd (DME_CH_FIX k)).toNat
  let plain := fun (r : State × List Byte × Option (BusErr × Nat)) => (r.1, r.2.1, r.2.2, false)
  if s.listDest k then
    match s.fixMode k with
    | 0 => plain (s.readBeats 80 fix (fix + n))
    | 1 => plain (s.readConst fix (n / 4))
    | _ =>
      let r := s.popItems (queueOfFix fix) (fieldOf (s.dcfg k) DME_CH_SCFG_QWAIT = 1) (n / 8)
      (r.1, r.2.1, none, r.2.2)
  else
    let a := (s.rd (DME_CH_ADDR k)).toNat
    plain (s.readBeats 80 a (a + n))

/-- The destination of a burst: how many bytes were written, and the first error. -/
def State.burstWrite (s : State) (k : Nat) (bs : List Byte) : State × Nat × Option (BusErr × Nat) :=
  let fix := (s.rd (DME_CH_FIX k)).toNat
  if s.listDest k then s.writeBeats 80 (s.rd (DME_CH_ADDR k)).toNat bs
  else
    match s.fixMode k with
    | 0 => s.writeBeats 80 fix bs
    | 1 => s.writeConst fix (bs.length / 4) bs
    | _ => (s.pushItems (queueOfFix fix) (bs.length / 8) bs, bs.length, none)

/-- An address register of a channel moved on. -/
def State.moveAddr (s : State) (a n : Nat) : State := s.wr a (s.rd a + BitVec.ofNat 32 n)

/-- The current element has issued its last read: the next one is requested, but none beyond an END (R295). -/
def State.requestNext (s : State) (k : Nat) : State :=
  s.modD k fun x => { x with fetch := x.cur.bind fun e => if e.fin then none else some ((e.addr + 8) % 2 ^ 32, 0) }

/-- The current element, whose bytes have all been issued, waits for its acknowledgements (R300). -/
def State.issued (s : State) (k : Nat) : State :=
  s.modD k fun x => { x with cur := none, done := x.done ++ x.cur.toList }

/-- A data element becomes the current one; one of no length completes as soon as those before it have (R294, R295). -/
def State.takeElement (s : State) (k addr : Nat) (w0 w1 : Nat) : State :=
  let len := bitsOf w1 0 24
  let fix := (s.rd (DME_CH_FIX k)).toNat
  let e : DmaEl := { addr := addr, len := len, mark := w1.testBit 24, fin := w1.testBit 31,
                     fixEnd := if s.fixMode k = 0 then (fix + len) % 2 ^ 32 else fix }
  let s := s.wr (DME_CH_LIST k) (BitVec.ofNat 32 addr)
  let s := (s.wr (DME_CH_ADDR k) (BitVec.ofNat 32 w0)).set (DME_CH_REM k) DME_CH_REM_REM len
  let s := s.modD k fun x => { x with cur := some e }
  if len = 0 then
    let s := (s.requestNext k).issued k
    s.flushZero k (s.dch k).done
  else s

/-- What has been fetched takes its turn: an element becomes the current one, an error stops the transfer (R296). -/
def State.takeFetched (s : State) (k : Nat) (f : DmaFetch) : State :=
  match f with
  | .element addr w0 w1 => s.takeElement k addr w0 w1
  | .bad e => s.modD k fun x => { x with err := some e }

/-- What a fetch has brought takes its turn at once, or behind the current element's bytes (R295, R296). (DEDUCED, log 31) -/
def State.comes (s : State) (k : Nat) (f : DmaFetch) : State :=
  if (s.dch k).cur.isSome then s.modD k fun x => { x with fetch := none, ahead := some f }
  else (s.modD k fun x => { x with fetch := none }).takeFetched k f

/-- The last byte of the current element has been issued; what was fetched in the meantime takes its turn (R295, R300). -/
def State.moveOn (s : State) (k : Nat) : State :=
  let s := s.issued k
  match (s.dch k).ahead with
  | some f => (s.modD k fun x => { x with ahead := none }).takeFetched k f
  | none => s

/-- A burst that reads `n` bytes: reads, writes, and the channel's registers (R290–R293, R301). The first error is recorded, and the channel
issues no more. (DEDUCED, log 31) -/
def State.burst (s : State) (k n : Nat) : State :=
  let el : Nat := match (s.dch k).cur with | some e => e.addr | none => 0
  let r := s.burstRead k n
  let got := r.2.1.length
  let rem := s.get (DME_CH_REM k) DME_CH_REM_REM - got
  let bs := (s.dch k).part ++ r.2.1
  let m := s.writeLen k rem bs.length
  let w := r.1.burstWrite k (bs.take m)
  let s := w.1.set (DME_CH_REM k) DME_CH_REM_REM rem
  let s := s.moveAddr (DME_CH_ADDR k) (if s.listDest k then m else got)
  let s := if s.fixMode k = 0 then s.moveAddr (DME_CH_FIX k) (if s.listDest k then got else m) else s
  let err : Option DmaErr := match w.2.2, r.2.2.1 with
    | some (e, a), _ => some { kind := kindOf e, write := true, addr := a, el := el }
    | none, some (e, a) => some { kind := kindOf e, addr := a, el := el }
    | none, none => none
  let s := s.modD k fun x =>
    { x with err := err, wait := r.2.2.2, part := bs.drop m
             cur := x.cur.map fun e => { e with out := e.out + w.2.1, fly := e.fly + if m = 0 then 0 else 1 } }
  let s := if err.isNone && rem = 0 && got != 0 then s.requestNext k else s
  if err.isNone && rem = 0 && (bs.drop m).isEmpty then s.moveOn k else s.settleDma k

/-- PRI of a channel's active configuration. -/
def State.dpri (s : State) (k : Nat) : Nat := fieldOf (s.dcfg k) DME_CH_SCFG_PRI

/-- The channel that the engine serves next (R299): the lowest PRI, round robin within the level. -/
def State.dmePick (s : State) : Option Nat :=
  let ready := (List.range 16).filter fun k => s.dready k
  let p := ready.foldl (fun m k => min m (s.dpri k)) 4
  let last : Nat := match tget s.dme.last none p with | some l => l | none => 15
  ((List.range 16).map fun i => (last + 1 + i) % 16).find? fun k => ready.contains k && s.dpri k = p

/-- DME_BURST (R299): the engine arbitrates and issues one burst. -/
def execDmeBurst (s : State) : Host.Outcome State Fault Refusal :=
  .next (if s.fabric then
    match s.dmePick with
    | none => s
    | some k => ({ s with dme := { s.dme with last := tset none s.dme.last (s.dpri k) (some k) } }).burst k (s.burstLen k)
  else s)

/-- QWAIT_RETRY (R291): the pop that returned EMPTY is repeated. -/
def execQwaitRetry (k : Dma) (s : State) : Host.Outcome State Fault Refusal :=
  .next (if s.fabric ∧ (s.dch k).wait then
    let s := s.modD k fun x => { x with wait := false }
    if s.dready k then s.burst k 8 else s
  else s)

/-! ## Element fetches (R294–R296) -/

/-- A fetch that stops the transfer (R296): LIST, or the bus error of the fetch with ERRLIST. -/
def State.fetchErr (s : State) (k addr kind : Nat) (list : Bool) : State := s.comes k (.bad { kind, addr, list, el := addr })

/-- Whether an element's length is one that R291 or R292 forbids. (DEDUCED, log 31) -/
def State.badLen (s : State) (k addr len : Nat) : Bool :=
  let u := if s.fixMode k = 2 then 8 else if s.fixMode k = 1 || wordRegion addr then 4 else 1
  len % u != 0


/-- An element arrives and is checked, followed, or stops the transfer (R294–R296). (DEDUCED, log 31) -/
def State.elementArrives (s : State) (k addr links : Nat) : State :=
  if addr % 8 ≠ 0 ∨ 0x100000 ≤ addr then s.fetchErr k addr 7 false
  else
    let r := s.busLoad .dme addr 8
    match r.2.2 with
    | some e => r.1.fetchErr k addr (kindOf e) true
    | none =>
      let s := r.1
      let w0 := r.2.1 % 2 ^ 32
      let w1 := r.2.1 / 2 ^ 32
      let link := w1.testBit 25
      if bitsOf w1 26 5 ≠ 0 || link && w1.testBit 31 || link && 16 ≤ links + 1 then s.fetchErr k addr 7 false
      else if link then s.modD k fun x => { x with fetch := some (w0, links + 1) }
      else if s.badLen k w0 (bitsOf w1 0 24) then s.fetchErr k addr 7 false
      else s.comes k (.element addr w0 w1)

/-- ELEMENT_FETCH (R294–R296). -/
def execElementFetch (k : Dma) (s : State) : Host.Outcome State Fault Refusal :=
  let x := s.dch k
  .next (match x.fetch with
    | none => s
    | some (addr, links) =>
      if s.fabric ∧ s.dbusy k ∧ x.err.isNone ∧ !x.aborting then s.elementArrives k addr links else s)

end Sys2Proof.Machine
end

