-- ==== Sys2Proof/Machine/Launch.lean ====
section
/-! DEFINITION. The execution of launch entries: which is next, what each action does, and late entries (R315, R317–R319,
R322). -/

namespace Sys2Proof.Machine

open Sys2Proof

/-- Launches are suspended, or the counter does not run (R320). -/
def State.launchesOff (s : State) : Bool := !s.pow.pllT || s.flag TIME_CTL TIME_CTL_HOLD

/-- The destinations of an entry's action (R318): FLT 0, TEU 1, FAB 2, CAER0 3, CAER1 4; none for an action of ACT. A message goes to
the link of its hub's direction, or, that unknown, to both (R361). -/
def State.dests (s : State) (e : LEnt) : List Nat :=
  match e.action / 4096 with
  | 4 | 5 => [0]
  | 6 | 7 => [1]
  | 8 | 9 => [2]
  | 10 => match s.dirOf (e.action % 16) with | some n => [3 + n] | none => [3, 4]
  | _ => []

/-- The tick on which an entry's action enters its destination (R318): its own, or the first later one on which the destination accepts
another action. (DESIGN CHOICE, log 34) -/
def State.tickSlot (s : State) (e : LEnt) : Nat :=
  (s.dests e).foldl (fun t d => max t ((tget s.tim.slot 0 d : Nat) + s.tim.adj).toNat) e.due

/-- The destinations of an action have accepted one on the present tick. (DESIGN CHOICE, log 34) -/
def State.takeTick (s : State) (e : LEnt) : State :=
  { s with tim := { s.tim with slot := (s.dests e).foldl (fun l d => tset 0 l d (s.raw + 1)) s.tim.slot } }

/-- One list of numbers comes before another of the same length. -/
def before : List Nat → List Nat → Bool
  | a :: l, b :: r => a < b || a == b && before l r
  | _, _ => false

/-- The first of some numbered entries by a list of numbers (R318, R319). -/
def firstBy (key : Nat × LEnt → List Nat) : List (Nat × LEnt) → Option (Nat × LEnt)
  | [] => none
  | p :: l => some (l.foldl (fun a b => if before (key b) (key a) then b else a) p)

/-- The armed entries that are late, or that are not. -/
def State.armedL (s : State) (late : Bool) : List (Nat × LEnt) := s.tim.table.filter fun p => p.2.st = .armed && p.2.late = late

/-- What orders the entries on time (R318): the tick on which they execute, the tick on which they fell due, and their index. -/
def State.launchKey (s : State) (p : Nat × LEnt) : List Nat := [s.tickSlot p.2, p.2.due, p.1]

/-- The late entry that is handled next: of those whose tick has passed by its scheduled time, then its index; else the one whose tick
passes next, unless an entry on time has an earlier one (R319). (DESIGN CHOICE, log 34) -/
def State.nextLate (s : State) : Option Nat :=
  if s.launchesOff then none
  else match firstBy (fun p => [p.2.ns, p.1]) ((s.armedL true).filter fun p => p.2.due ≤ s.time) with
  | some p => some p.1
  | none =>
    match firstBy (fun p => [p.2.due, p.2.ns, p.1]) (s.armedL true) with
    | some p => if (s.armedL false).any fun q => s.tickSlot q.2 < p.2.due then none else some p.1
    | none => none

/-- The entry that executes next on time: none while a late one comes first (R318, R319). (DESIGN CHOICE, log 34) -/
def State.nextOnTime (s : State) : Option Nat :=
  if s.launchesOff || s.nextLate.isSome then none else (firstBy s.launchKey (s.armedL false)).map (·.1)

/-- The AFE edge for an FLT action: the one that R126 and R129 name for its time, or for a late entry the first one after its
arrival (R319). (DEDUCED, log 17) -/
def State.actionEdge (s : State) (e : LEnt) (late : Bool) : Nat := if late then s.edgeNow + 1 else s.edgeAtOrAfter e.inst

/-- ACT set (R315). SAFE on the same tick overrides it (R329). -/
def State.runActSet (s : State) (e : LEnt) : State :=
  let n := e.action % 4096
  if n < s.nAct then
    (s.outCfgPut n (setField (setField (s.rd (ACT_OUT_CFG n)) ACT_OUT_CFG_MODE 0) ACT_OUT_CFG_LEVEL (e.w2.toNat % 2))).keepSafe n
  else s

/-- ACT duty (R315). -/
def State.runActDuty (s : State) (e : LEnt) : State :=
  let n := e.action % 4096
  if n < s.nAct then (s.wr (ACT_OUT_DUTY n) (BitVec.ofNat 32 (e.w2.toNat % 2 ^ 17))).dutyWritten n else s

/-- ACT mode (R315). SAFE on the same tick overrides it (R329). -/
def State.runActMode (s : State) (e : LEnt) : State := (s.outCfgStore (e.action % 4096) e.w2).keepSafe (e.action % 4096)

/-- FLT sync (R127). -/
def State.runFltSync (s : State) (e : LEnt) (late : Bool) : State :=
  if s.fabric then s.syncLaunch e.w2.toNat (s.actionEdge e late) else s

/-- FLT response change (R129). -/
def State.runFltResponse (s : State) (e : LEnt) (late : Bool) : State :=
  if s.fabric then s.responseLaunch e.w2.toNat (s.actionEdge e late) else s

/-- The last of some numbered entries by a list of numbers. -/
def lastBy (key : Nat × LEnt → List Nat) : List (Nat × LEnt) → Option (Nat × LEnt)
  | [] => none
  | p :: l => some (l.foldl (fun a b => if before (key a) (key b) then b else a) p)

/-- The bank-swap entries whose turn comes behind that of a step although they are scheduled no later than it, and that execute (R171,
R318, R319). Two times that fall on one tick count as one. (DEDUCED, log 35) -/
def State.swapsBefore (s : State) (e : LEnt) : List (Nat × LEnt) :=
  s.tim.table.filter fun p => s.lent p.1 = p.2 && p.2.st = .armed && p.2.action / 4096 = 7 && !p.2.given &&
    p.2.exec ≤ min e.exec s.time && !(p.2.late && p.2.policy = 0)

/-- Those bank swaps apply to the step (R171): the last in the order of their turns, late ones first, is the request pending at its latch. (DEDUCED, log 35) -/
def State.takeSwaps (s : State) (e : LEnt) : State :=
  match lastBy (fun p => [(!p.2.late).toNat, if p.2.late then p.2.ns else 0, p.1]) (s.swapsBefore e) with
  | none => s
  | some q => ((s.swapsBefore e).foldl (fun s p => s.setL p.1 { p.2 with given := true }) s).swapRequest (q.2.w2.toNat % 2)

/-- TEU step (R156, R164, R171, R256). (DEDUCED, log 35) -/
def State.runTeuStep (s : State) (e : LEnt) (late : Bool) : State :=
  if s.fabric then
    (if s.stepLatches then s.takeSwaps e else s).stepRequest (if late then instOfTick s.time else e.inst)
  else s

/-- TEU bank swap (R171, R256). One that a step has taken already has no further effect. (DEDUCED, log 35) -/
def State.runTeuSwap (s : State) (e : LEnt) : State :=
  if s.fabric && s.teuOn && !e.given then s.swapRequest (e.w2.toNat % 2) else s

/-- QM push (R315): the argument is the item's high word. What TIME sent to FAB before arrives first (R23). -/
def State.runQmPush (s : State) (e : LEnt) : State :=
  let t := e.action % 4096
  if s.fabric then ((s.eventsIn .time).push (t / 64) (e.w2 ++ s.rd (TIME_QLOW (t % 64)))).1 else s

/-- HIC raise (R245). What TIME sent to FAB before arrives first (R23). -/
def State.runHicRaise (s : State) (e : LEnt) : State := if s.fabric then (s.eventsIn .time).softRaise (e.w2.toNat % 256) else s

/-- Caer message (R367). -/
def State.runMessage (s : State) (e : LEnt) : State := if s.fabric then s.message (e.action % 16) e.w2 else s

/-- ACT safe (R330). -/
def State.runActSafe (s : State) (e : LEnt) : State := s.safe (e.w2.toNat * 2 ^ (32 * (e.action % 4096)))

/-- The action of an entry (R315). (DEDUCED, log 35) -/
def State.runAction (s : State) (e : LEnt) (late : Bool) : State :=
  match e.action / 4096 with
  | 1 => s.runActSet e
  | 2 => s.runActDuty e
  | 3 => s.runActMode e
  | 4 => s.runFltSync e late
  | 5 => s.runFltResponse e late
  | 6 => s.runTeuStep e late
  | 7 => s.runTeuSwap e
  | 8 => s.runQmPush e
  | 9 => s.runHicRaise e
  | 10 => s.runMessage e
  | 11 => s.runActSafe e
  | _ => s

/-- An entry is the next one on time and has an action of the class. -/
def State.onTime (s : State) (i cls : Nat) : Bool := s.nextOnTime = some i && (s.lent i).action / 4096 = cls

/-- The counter stands at the tick of an entry's action, and the destination takes it (R317, R318). -/
def State.atSlot (s : State) (e : LEnt) : State := (s.passTo (s.tickSlot e)).takeTick e

/-- An on-time entry executes on its tick, and is then free or moved on (R317, R318, R322). -/
def State.launch (s : State) (i : Nat) (run : State → LEnt → State) : State :=
  let e := s.lent i
  let s := run (s.atSlot e) e
  (s.doneRec i e 0).afterRun i

/-- An on-time FLT entry is dispatched 64 ticks before its time, and stays valid until then (R317, R321). -/
def State.dispatch (s : State) (i : Nat) (run : State → LEnt → State) : State :=
  let e := s.lent i
  let s := run (s.atSlot e) e
  (s.setL i { e with st := .dispatched }).freeDispatched s.time

/-- ACT set on its execution tick (R315, R318). -/
def execActSet (i : LIx) (s : State) : Host.Outcome State Fault Refusal :=
  .next (if s.onTime i 1 then s.launch i State.runActSet else s)

/-- ACT duty on its execution tick (R315, R318). -/
def execActDuty (i : LIx) (s : State) : Host.Outcome State Fault Refusal :=
  .next (if s.onTime i 2 then s.launch i State.runActDuty else s)

/-- ACT mode on its execution tick (R315, R318). -/
def execActMode (i : LIx) (s : State) : Host.Outcome State Fault Refusal :=
  .next (if s.onTime i 3 then s.launch i State.runActMode else s)

/-- FLT sync on its dispatch tick (R127, R317). -/
def execFltSync (i : LIx) (s : State) : Host.Outcome State Fault Refusal :=
  .next (if s.onTime i 4 then s.dispatch i fun s e => s.runFltSync e false else s)

/-- FLT response change on its dispatch tick (R129, R317). -/
def execFltResponseChange (i : LIx) (s : State) : Host.Outcome State Fault Refusal :=
  .next (if s.onTime i 5 then s.dispatch i fun s e => s.runFltResponse e false else s)

/-- TEU step on its execution tick (R164, R318). -/
def execTeuStep (i : LIx) (s : State) : Host.Outcome State Fault Refusal :=
  .next (if s.onTime i 6 then s.launch i fun s e => s.runTeuStep e false else s)

/-- TEU bank swap on its execution tick (R171, R318). -/
def execTeuBankSwap (i : LIx) (s : State) : Host.Outcome State Fault Refusal :=
  .next (if s.onTime i 7 then s.launch i State.runTeuSwap else s)

/-- QM push on its execution tick (R315, R318). -/
def execQmPush (i : LIx) (s : State) : Host.Outcome State Fault Refusal :=
  .next (if s.onTime i 8 then s.launch i State.runQmPush else s)

/-- HIC raise on its execution tick (R245, R318). -/
def execHicRaise (i : LIx) (s : State) : Host.Outcome State Fault Refusal :=
  .next (if s.onTime i 9 then s.launch i State.runHicRaise else s)

/-- Caer message on its execution tick (R318, R367). -/
def execCaerMessage (i : LIx) (s : State) : Host.Outcome State Fault Refusal :=
  .next (if s.onTime i 10 then s.launch i State.runMessage else s)

/-- ACT safe on its execution tick (R318, R330). -/
def execActSafe (i : LIx) (s : State) : Host.Outcome State Fault Refusal :=
  .next (if s.onTime i 11 then s.launch i State.runActSafe else s)

/-- TIME_LATEINFO of a late entry (R319): its index, the policy applied, and the whole microseconds since its execution tick. -/
def State.lateInfo (s : State) (i : Nat) (e : LEnt) : State :=
  let s := s.set TIME_LATEINFO TIME_LATEINFO_INDEX i
  let s := s.set TIME_LATEINFO TIME_LATEINFO_POLICY e.policy
  s.set TIME_LATEINFO TIME_LATEINFO_LATENESS (min 65535 ((s.time - e.exec) / 256))

/-- A late entry has been handled with an outcome (R318, R321): it is free or moved on, with its record; but an FLT entry that has been
dispatched before its execution tick stays valid until then. -/
def State.lateDone (s : State) (i : Nat) (e : LEnt) (how : Nat) : State :=
  if how != 3 && e.toFlt && s.time < e.exec then s.setL i { e with st := .dispatched, late := false, how := how }
  else (s.doneRec i e how).afterRun i

/-- A late entry is handled under LATE (R319): skipped, with SKIPPED and source 10, or executed at once, with source 8 or 9. Its
destination accepts one action per tick (R318). -/
def State.handleLate (s : State) (i : Nat) : State :=
  let e := s.lent i
  let s := if e.policy = 0 then s else s.atSlot e
  let s := s.lateInfo i e
  match e.policy with
  | 0 => ((s.set TIME_STATUS TIME_STATUS_SKIPPED 1).tRaise 10).lateDone i e 3
  | 1 => ((s.runAction e true).tRaise 8).lateDone i e 1
  | _ => ((s.runAction e true).tRaise 9).lateDone i e 2

/-- A late entry becomes executable, once its tick has passed, and is handled (R319). -/
def execLateEntryHandle (i : LIx) (s : State) : Host.Outcome State Fault Refusal :=
  .next (if s.nextLate = some i.val then (s.passTo (s.lent i).due).handleLate i else s)

end Sys2Proof.Machine
end

