-- ==== Sys2Proof/Machine/Usb.lean ====
section
/-! DEFINITION. The USB device (R463): its descriptors and the standard requests of USB 2.0 chapter 9 on endpoint 0. -/

namespace Sys2Proof.Machine

open Sys2Proof

/-! ## Descriptors (R463) -/

/-- The number that selects the device's one configuration: never 0 (USB 2.0 chapter 9). (DEDUCED, log 68) -/
def usbConfigValue : Nat := (Config.usbByte 0).toNat % 255 + 1

/-- A string index, not 0, which means that there is no string (USB 2.0 chapter 9), and none of those given out before. (DEDUCED, log 68) -/
def stringIx (used : List Nat) (b : Byte) : Nat :=
  let l := (List.range 256).filter fun i => i != 0 && !used.contains i
  l.getD (b.toNat % l.length) 0

/-- The index of the serial number's string. (DEDUCED, log 68) -/
def usbSerialIx : Nat := stringIx [] (Config.usbByte 9)

/-- The index of the manufacturer's string. -/
def usbMakerIx : Nat := stringIx [usbSerialIx] (Config.usbByte 7)

/-- The index of the product's string. -/
def usbProductIx : Nat := stringIx [usbSerialIx, usbMakerIx] (Config.usbByte 8)

/-- The device descriptor. (PRESUMED, log 74) -/
def State.deviceDescriptor (s : State) : List Byte :=
  [18, 1, 0x00, 0x02, Config.usbByte 1, Config.usbByte 2, Config.usbByte 3, Config.usbByte 4] ++
    bytesLE 2 s.fuse.vid.toNat ++ bytesLE 2 s.fuse.pid.toNat ++
    [Config.usbByte 5, Config.usbByte 6] ++ [usbMakerIx, usbProductIx, usbSerialIx, 1].map (BitVec.ofNat 8)

/-- The configuration descriptor with its interface and two bulk endpoints of 64 bytes: self-powered, no remote wake-up, vendor class. (PRESUMED, log 74) -/
def configDescriptor : List Byte :=
  [9, 2, 32, 0, 1, BitVec.ofNat 8 usbConfigValue, Config.usbByte 10, 0xC0, Config.usbByte 11] ++
    [9, 4, 0, 0, 2, 0xFF, Config.usbByte 12, Config.usbByte 13, Config.usbByte 14] ++
    [7, 5, 0x01, 2, 64, 0, 0] ++ [7, 5, 0x82, 2, 64, 0, 0]

/-- A string descriptor of UTF-16 text. (PRESUMED, log 74) -/
def stringDescriptor (l : List Byte) : List Byte :=
  let t := l.take 252
  [BitVec.ofNat 8 (t.length + 2), 3] ++ t

/-- A hexadecimal digit as a character. (DEDUCED, log 68) -/
def hexDigit (n : Nat) : Byte := BitVec.ofNat 8 (if n < 10 then 0x30 + n else (if Config.usbCapitals then 0x37 else 0x57) + n)

/-- The serial number: the 32 hexadecimal digits of the device ID, LCS_DEVID3 first. -/
def State.serialText (s : State) : List Byte :=
  (List.range 32).flatMap fun i => [hexDigit (bitsOf s.fuse.devid.toNat (4 * (31 - i)) 4), 0]

/-- The string descriptor of an index: 0 names the languages. (PRESUMED, log 74) -/
def State.stringOf (s : State) (i : Nat) : Option (List Byte) :=
  if i = 0 then some (stringDescriptor (Config.usbText 0))
  else if i = usbSerialIx then some (stringDescriptor s.serialText)
  else if i = usbMakerIx then some (stringDescriptor (Config.usbText 1))
  else if i = usbProductIx then some (stringDescriptor (Config.usbText 2))
  else none

/-- GET_DESCRIPTOR: the descriptor that wValue names. (PRESUMED, log 74) -/
def State.descriptor (s : State) (value : Nat) : Option (List Byte) :=
  match value / 256 with
  | 1 => some s.deviceDescriptor
  | 2 => if value % 256 = 0 then some configDescriptor else none
  | 3 => s.stringOf (value % 256)
  | _ => none

/-! ## Standard requests -/

/-- An endpoint that exists: endpoint 0, and the bulk endpoints of a configured device. -/
def UsbSt.hasEndpoint (u : UsbSt) (e : Nat) : Bool := e % 128 = 0 || u.configured && (e = 0x01 || e = 0x82)

/-- A halt set or cleared: endpoint 0 has none. -/
def UsbSt.setHalt (u : UsbSt) (e : Nat) (b : Bool) : UsbSt :=
  if e = 0x01 then { u with haltOut := b } else if e = 0x82 then { u with haltIn := b } else u

/-- An endpoint is halted. -/
def UsbSt.halted (u : UsbSt) (e : Nat) : Bool := e = 0x01 && u.haltOut || e = 0x82 && u.haltIn

/-- A standard request acts and answers, or is stalled (USB 2.0 chapter 9). (PRESUMED, log 74) -/
def State.usbRequest (s : State) (r : UsbRequest) : UsbSt × Option (List Byte) :=
  let u := s.lcs.usb
  let v := r.value.toNat
  let e := r.index.toNat
  let stall : UsbSt × Option (List Byte) := (u, none)
  match r.typ.toNat, r.req.toNat with
  | 0x80, 0 => (u, some [1, 0])
  | 0x81, 0 => if u.configured ∧ e = 0 then (u, some [0, 0]) else stall
  | 0x82, 0 => if u.hasEndpoint e then (u, some [BitVec.ofNat 8 (u.halted e).toNat, 0]) else stall
  | 0x02, 1 => if v = 0 ∧ u.hasEndpoint e then (u.setHalt e false, some []) else stall
  | 0x02, 3 => if v = 0 ∧ u.hasEndpoint e then (u.setHalt e true, some []) else stall
  | 0x00, 5 => if v < 128 ∧ !u.configured then ({ u with addr := v }, some []) else stall
  | 0x80, 6 => (u, s.descriptor v)
  | 0x80, 8 => (u, some [BitVec.ofNat 8 (if u.configured then usbConfigValue else 0)])
  | 0x00, 9 =>
    if v = 0 then ({ u with configured := false, late := [] }, some [])
    else if v = usbConfigValue then ({ u with configured := true, haltOut := false, haltIn := false, late := [] }, some [])
    else stall
  | 0x81, 10 => if u.configured ∧ e = 0 then (u, some [0]) else stall
  | 0x01, 11 => if u.configured ∧ e = 0 ∧ v = 0 then ({ u with haltOut := false, haltIn := false }, some []) else stall
  | _, _ => stall

/-- The responses that waited for endpoint 2 leave once it is not halted (R463, R465). (DEDUCED, log 68) -/
def LcsSt.sendLate (l : LcsSt) : LcsSt :=
  match l.usb.haltIn, l.usb.late.getLast? with
  | false, some r => { l with resp := some r, usb := { l.usb with late := [] } }
  | _, _ => l

/-- Endpoint 0 answers a standard request (R463), with at most wLength bytes. -/
def State.endpoint0 (s : State) (r : UsbRequest) : State :=
  let x := s.usbRequest r
  let l : LcsSt := { s.lcs with usb := { x.1 with answer := x.2.map (·.take r.length.toNat) } }
  { s with lcs := l.sendLate }

end Sys2Proof.Machine
end

