-- ==== Sys2Proof/Machine/Lcs.lean ====
section
/-! DEFINITION. The service port's commands, tokens, sessions, USB and the DAP (R451–R468). -/

namespace Sys2Proof.Machine

open Sys2Proof

/-! ## Frames (R463–R465) -/

/-- The path carries frames: the fabric runs, and over USB the device is attached and configured, and endpoint 1 not halted. -/
def State.pathUp (s : State) (f : UFrame) : Bool :=
  match f.path with
  | .usb => s.attached && s.lcs.usb.configured && !s.lcs.usb.haltOut
  | .dap => s.fabric

/-- The 8-byte header of a command and its payload (R465). -/
def frameBytes (f : UFrame) (cmd : Nat) : List Byte :=
  [f.magic, f.ver, BitVec.ofNat 8 cmd, f.tag] ++ bytesLE 2 f.len ++ [0, 0] ++ f.payload

/-- MAGIC, VER, LEN and CRC are right (R465). -/
def frameOk (f : UFrame) (cmd : Nat) : Bool :=
  f.magic = 0x55 && f.ver = 1 && f.len = f.payload.length && f.len ≤ 1024 && f.crc = crc32c (frameBytes f cmd)

/-- A frame is answered with BADFRAME and source 220 is raised (R465, R468). -/
def State.badFrame (s : State) (f : UFrame) (cmd : Nat) : State := (s.replyTo f cmd 1 0 0 []).raise 220

/-- A command is refused: DENIED, in LCS_STATUS and in the answer (R462). -/
def State.refuseCmd (s : State) (f : UFrame) (cmd : Nat) : State := (s.denied).replyTo f cmd 3 0 0 []

/-- A command arrives (R462, R464, R465): a wrong frame, a port that is busy, a closed DAP and a missing right answer first. (DEDUCED, log 66) -/
def State.command (s : State) (f : UFrame) (cmd : Nat) (good : Bool) (right : Bool) (run : State → State) : State :=
  if !s.pathUp f then s
  else if !(frameOk f cmd && good) then s.badFrame f cmd
  else if s.lcs.waiting.isSome then s.replyTo f cmd 5 0 0 []
  else if f.path = .dap && s.dapClosed && cmd != 1 then s.refuseCmd f cmd
  else if !right then s.refuseCmd f cmd
  else run s

/-- The port waits for something before it answers. -/
def State.waitFor (s : State) (w : Waiting) (f : UFrame) : State := { s with lcs := { s.lcs with waiting := some (w, f) } }

/-! ## Commands (R466) -/

/-- HELLO's answer: DEVID, LCS_STATE, SYS_UNITS, SYS_CAPS, BOOT_SEQ and BOOT_VER. -/
def State.helloBytes (s : State) : List Byte :=
  bytesLE 16 s.fuse.devid.toNat ++ wordBytes s.lcsStateWord ++ wordBytes s.units ++ wordBytes s.caps ++
    wordBytes (s.rd BOOT_SEQ) ++ wordBytes (s.rd BOOT_VER)

/-- HELLO. -/
def execHello (f : UFrame) (s : State) : Host.Outcome State Fault Refusal :=
  .next (s.command f 1 (f.len = 0) true fun s => s.respond f 1 0 0 s.helloBytes)

/-- Consecutive words read through the debug and service port, up to the first bus error. (DEDUCED, log 66) -/
def State.readWords (s : State) (a : Nat) : Nat → State × List Byte × Option BusErr
  | 0 => (s, [], none)
  | n + 1 =>
    let r := s.busLoad .dbg a 4
    match r.2.2 with
    | some e => (r.1, [], some e)
    | none =>
      let t := r.1.readWords ((a + 4) % 2 ^ 32) n
      (t.1, bytesLE 4 r.2.1 ++ t.2.1, t.2.2)

/-- READ32: the words, and at a bus error BUSERR with those before it. -/
def State.read32 (s : State) (f : UFrame) : State :=
  let r := s.readWords (leAt f.payload 0 4) (leAt f.payload 4 4)
  match r.2.2 with
  | some e => r.1.respond f 2 4 (kindOf e) r.2.1
  | none => r.1.respond f 2 0 0 r.2.1

/-- READ32. -/
def execRead32 (f : UFrame) (s : State) : Host.Outcome State Fault Refusal :=
  let n := leAt f.payload 4 4
  .next (s.command f 2 (f.len = 8 && 1 ≤ n && n ≤ 256) true (·.read32 f))

/-- How consecutive writes end: the words written, and a refusal, or a bus error. (DEDUCED, log 66) -/
def State.writeWords (s : State) (a : Nat) (l : List Byte) : Nat → State × Nat × Option (Option BusErr)
  | 0 => (s, 0, none)
  | n + 1 =>
    if !s.mayStore .dbg a then (s.denied, 0, some none)
    else
      let r := s.busStore .dbg a 4 (leAt l 0 4)
      match r.2 with
      | some e => (r.1, 0, some (some e))
      | none =>
        let t := r.1.writeWords ((a + 4) % 2 ^ 32) (l.drop 4) n
        (t.1, t.2.1 + 1, t.2.2)

/-- WRITE32: at a refusal DENIED, at a bus error BUSERR, with the words written in LEN. -/
def State.write32 (s : State) (f : UFrame) : State :=
  let r := s.writeWords (leAt f.payload 0 4) (f.payload.drop 4) (f.len / 4 - 1)
  match r.2.2 with
  | none => r.1.replyTo f 3 0 0 r.2.1 []
  | some none => r.1.replyTo f 3 3 0 r.2.1 []
  | some (some e) => r.1.replyTo f 3 4 (kindOf e) r.2.1 []

/-- WRITE32. -/
def execWrite32 (f : UFrame) (s : State) : Host.Outcome State Fault Refusal :=
  .next (s.command f 3 (f.len % 4 = 0 && 8 ≤ f.len) true (·.write32 f))

/-- JRNREAD: the line is read through JRN_RDCTL; the answer follows when the read has ended. -/
def State.jrnread (s : State) (f : UFrame) : State :=
  if s.jrn.reading.isSome then s.replyTo f 4 5 0 0 []
  else (s.waitFor .line f).rdctlStore (BitVec.ofNat 32 (2 ^ 31 + leAt f.payload 0 4 % 2 ^ 14))

/-- JRNREAD. -/
def execJrnread (f : UFrame) (s : State) : Host.Outcome State Fault Refusal :=
  .next (s.command f 4 (f.len = 4) true (·.jrnread f))

/-- A FLASHCMD payload is as long as its FLEN asks. -/
def flashLenOk (f : UFrame) : Bool :=
  let n := leAt f.payload 8 4
  let write := fieldOf (BitVec.ofNat 32 (leAt f.payload 0 4)) BOOT_FCMD_WRITE = 1
  12 ≤ f.len && n ≤ 256 && f.len = (if write then 12 + n else 12)

/-- FLASHCMD: its data goes to the last 256 bytes of shared data SRAM, and BOOT runs the command; the answer follows at its end. -/
def State.flashcmd (s : State) (f : UFrame) (answer : List Byte) : State :=
  if s.flag BOOT_FSTAT BOOT_FSTAT_BUSY then s.replyTo f 5 5 0 0 []
  else
    let s := (s.flashIn 0xFFF00 (f.payload.drop 12)).1
    let s := s.storeReg BOOT_FADDR (BitVec.ofNat 32 (leAt f.payload 4 4))
    let s := (s.storeReg BOOT_FLEN (BitVec.ofNat 32 (leAt f.payload 8 4))).storeReg BOOT_FBUF 0xFFF00
    (s.waitFor .flash f).fcmdStore (BitVec.ofNat 32 (leAt f.payload 0 4) ||| 0x80000000) answer

/-- FLASHCMD. -/
def execFlashcmd (f : UFrame) (answer : List Byte) (s : State) : Host.Outcome State Fault Refusal :=
  .next (s.command f 5 (flashLenOk f) (s.roleRight 3) (·.flashcmd f answer))

/-- NONCE (R457, R458): a new nonce, whose bits nothing constrains; none after 8 rejected tokens. (DEDUCED, log 66) -/
def State.newNonce (s : State) (f : UFrame) : State :=
  if 8 ≤ s.lcs.fails then s.replyTo f 6 3 0 0 []
  else
    let r := s.free64
    let n := BitVec.ofNat 64 r.2
    ({ r.1 with lcs := { r.1.lcs with nonce := some n, heldRet := false } }).respond f 6 0 0 (bytesLE 8 n.toNat)

/-- NONCE (R458). -/
def execNonce (f : UFrame) (s : State) : Host.Outcome State Fault Refusal :=
  .next (s.command f 6 (f.len = 0) true (·.newNonce f))

/-- TOKEN (R457): LCS checks it. -/
def execToken (f : UFrame) (s : State) : Host.Outcome State Fault Refusal :=
  .next (s.command f 7 (f.len = 192) true (·.waitFor .token f))

/-- ENDSVC (R459, R466). -/
def execEndsvc (f : UFrame) (s : State) : Host.Outcome State Fault Refusal :=
  .next (s.command f 8 (f.len = 0) true fun s => s.endService.respond f 8 0 0 [])

/-- RESET (R466): a WARM reset follows 1 ms after the response. -/
def execReset (f : UFrame) (s : State) : Host.Outcome State Fault Refusal :=
  .next (s.command f 9 (f.len = 0) (s.roleRight 1) fun s =>
    ({ s with lcs := { s.lcs with resetDue := true } }).respond f 9 0 0 [])

/-- 1 ms after the response to RESET (R466). -/
def execResetCommandDelayEnd (s : State) : Host.Outcome State Fault Refusal :=
  .next (if s.fabric ∧ s.lcs.resetDue then
    ({ s with lcs := { s.lcs with resetDue := false } }).warmCause SYS_RESETCAUSE_SOFT else s)

/-- LOCK (R452, R466): refused outside OPEN, without a usable slot, or with another word. (DEDUCED, log 66) -/
def State.lockFrame (s : State) (f : UFrame) : State :=
  if leAt f.payload 0 4 = 0x4C4F434B ∧ s.lockOk then (s.blow 3).respond f 0xA 0 0 [] else s.replyTo f 0xA 3 0 0 []

/-- LOCK (R452). -/
def execLock (f : UFrame) (s : State) : Host.Outcome State Fault Refusal :=
  .next (s.command f 0xA (f.len = 4) true (·.lockFrame f))

/-- The code of a vendor command; those of the two transitions the spec does not give (R452, R460). -/
def vendorCode : VendorOp → Nat
  | .toMaker => 0xF0 + (Config.vendorCode false).toNat
  | .toOpen => 0xF0 + (Config.vendorCode true).toNat
  | .other c => c.toNat

/-- A vendor command (R452): the two transitions, where their conditions hold. What another one does the spec does not say. (DESIGN CHOICE, log 65) -/
def State.vendor (s : State) (f : UFrame) (op : VendorOp) : State :=
  let yes := fun (s : State) => s.respond f (vendorCode op) 0 0 []
  let no := s.replyTo f (vendorCode op) 3 0 0 []
  match op with
  | .toMaker => if s.lcState = 0 then yes (s.blow 1) else no
  | .toOpen => if s.lcState = 1 ∧ s.fuse.devid ≠ 0 ∧ s.fuse.vendor.isSome then yes (s.blow 2) else no
  | .other _ => yes s

/-- A vendor command (R452, R460): in BLANK, MAKER and RETURN. A code below 0xF0 is one that R466 does not list, and answers UNKNOWN. -/
def execVendorCommand (f : UFrame) (op : VendorOp) (s : State) : Host.Outcome State Fault Refusal :=
  let code := vendorCode op
  .next (if code < 0xF0 then s.command f code true true (·.replyTo f code 2 0 0 [])
    else s.command f code true (s.lcState < 2 || s.lcState = 5) (·.vendor f op))

/-! ## Tokens (R456–R458) -/

/-- A token's fields (R456). -/
structure Token where
  typ : Nat
  slot : Nat
  minutes : Nat
  arg : Nat
  devid : Nat
  nonce : Nat
  deriving DecidableEq, Repr

/-- The fields of a token's bytes. -/
def tokenOf (l : List Byte) : Token :=
  { typ := leAt l 4 1, slot := leAt l 5 1, minutes := leAt l 6 2, arg := leAt l 8 4, devid := leAt l 0x10 16, nonce := leAt l 0x20 8 }

/-- MAGIC, TYPE, reserved bytes and value ranges (R456, R461). -/
def tokenFormOk (l : List Byte) : Bool :=
  let t := tokenOf l
  l.take 4 = [0x47, 0x4C, 0x54, 0x4B] && 1 ≤ t.typ && t.typ ≤ 4 && (t.slot ≤ 3 || t.slot = 0xFF) && zeroBytesAt l 0x0C 4 &&
    zeroBytesAt l 0x28 24 && (if t.typ = 1 then 1 ≤ t.minutes && t.minutes ≤ 456 else t.minutes = 0) &&
    (match t.typ with | 1 => t.arg < 32 | 4 => t.arg < 4 | _ => t.arg = 0)
where
  /-- `n` bytes from `a` on are 0. -/
  zeroBytesAt (l : List Byte) (a n : Nat) : Bool := (l.drop a |>.take n).all (· = 0)

/-- The key is valid and of the kind that TYPE requires (R455, R456). -/
def State.tokenKeyOk (s : State) (l : List Byte) : Bool :=
  let t := tokenOf l
  let h := some (sha256 (l.drop 0x40 |>.take 64))
  if t.typ = 3 then t.slot = 0xFF && s.fuse.vendor = h else s.usable t.slot && (s.slotOf t.slot).hash = h

/-- A REVOKE names neither the signing slot nor the last usable one (R457). -/
def State.revokeOk (s : State) (t : Token) : Bool :=
  t.typ != 4 || t.arg != t.slot && (List.range 4).any fun k => k != t.arg && s.usable k

/-- The reason for which a token is rejected, 0 for none (R457, R458). (DEDUCED, log 67) -/
def State.tokenReason (s : State) (l : List Byte) : Nat :=
  let t := tokenOf l
  if 8 ≤ s.lcs.fails then 4
  else if !tokenFormOk l then 1
  else if !(s.lcState = 3 || s.lcState = 4) then 2
  else if t.devid ≠ s.fuse.devid.toNat then 3
  else if s.lcs.nonce ≠ some (BitVec.ofNat 64 t.nonce) then 4
  else if !s.tokenKeyOk l then 5
  else if !ecdsaOk (l.drop 0x40 |>.take 64) (l.drop 0x80 |>.take 64) (l.take 0x80) then 6
  else if !s.revokeOk t then 7
  else 0


/-- SERVICE is entered or renewed (R457, R459, R467, R468). A renewal that takes the DEBUG role away closes the DAP. (DEDUCED, log 67) -/
def State.service (s : State) (t : Token) : State :=
  let entered := s.lcs.session.isNone
  let s := { s with lcs := { s.lcs with session := some { roles := t.arg, slot := t.slot, minutes := t.minutes, left := t.minutes } } }
  let s := s.lcsEvent 2 t.arg (t.minutes + t.slot * 2 ^ 16)
  if entered then s.lcsRaise 216 else s

/-- An accepted token acts (R457). (DEDUCED, log 67) -/
def State.accepted (s : State) (t : Token) : State :=
  match t.typ with
  | 1 => s.service t
  | 2 => { s with lcs := { s.lcs with heldRet := true } }
  | 3 => if s.lcs.heldRet then s.blow 4 else s
  | _ => s.revokeSlot t.arg

/-- The nonce is no longer current (R457). -/
def State.dropNonce (s : State) : State := { s with lcs := { s.lcs with nonce := none } }

/-- A rejected token (R457, R458, R467, R468). -/
def State.rejected (s : State) (f : UFrame) (why : Nat) : State :=
  let s := { s with lcs := { s.lcs with fails := s.lcs.fails + 1, heldRet := false } }
  ((s.dropNonce.lcsEvent 4 why (tokenOf f.payload).typ).raise 218).respond f 7 6 why []

/-- TOKEN_CHECK_DONE (R457). -/
def execTokenCheckDone (s : State) : Host.Outcome State Fault Refusal :=
  .next (match s.lcs.waiting with
    | some (.token, f) =>
      if s.fabric then
        let why := s.tokenReason f.payload
        let t := tokenOf f.payload
        if why = 0 then (if t.typ = 2 then s.accepted t else (s.accepted t).dropNonce).respond f 7 0 0 []
        else s.rejected f why
      else s
    | _ => s)

/-! ## LCS_CMD and the session -/

/-- LCS_CMD with LOCK = 1 (R452). -/
def execLcsLock (s : State) : Host.Outcome State Fault Refusal := .next (if s.fabric then s.lcsLockCmd else s)

/-- LCS_CMD with ENDSVC = 1 (R459). -/
def execLcsEndsvc (s : State) : Host.Outcome State Fault Refusal := .next (if s.fabric then s.endService else s)

/-- The SERVICE timer expires (R459, R467): DURATION has been used. -/
def execServiceExpiry (s : State) : Host.Outcome State Fault Refusal :=
  .next (match s.lcs.session with
    | some x => if s.pow.phase = .cold then s else s.endSession 0 x.minutes
    | none => s)

/-! ## USB and the DAP (R460, R463, R468) -/

/-- USB_VBUS crosses a threshold (R463, R468): the device keeps its pull-up down to 3.6 V. -/
def execVbusChange (level : VbusLevel) (s : State) : Host.Outcome State Fault Refusal :=
  .next (if s.lcs.vbus = level then s
    else
      let t := { s with lcs := { s.lcs with vbus := level, usb := { s.lcs.usb with kept := s.attached } } }
      (if t.attached then t else { t with lcs := { t.lcs with usb := {} } }).lcsRaise 219)

/-- A USB bus reset (R468): the device loses its address and its configuration (USB 2.0 chapter 9). (DEDUCED, log 68) -/
def execUsbBusReset (s : State) : Host.Outcome State Fault Refusal :=
  .next (if s.attached then ({ s with lcs := { s.lcs with usb := { kept := s.lcs.usb.kept } } }).raise 219 else s)

/-- A standard request on endpoint 0 (R463). (DEDUCED, log 68) -/
def execStandardRequest (r : UsbRequest) (s : State) : Host.Outcome State Fault Refusal :=
  .next (if s.attached then s.endpoint0 r else s)

/-- What a DAP debug command reads. -/
def CoreSt.debugRead (x : CoreSt) : DebugOp → Option Word
  | .readGather r => some (x.gr r)
  | .readSpecial k => some (x.special k)
  | .readSavedPc => some x.savedPc
  | .readSavedFlags => some (x.savedFlags.setWidth 32)
  | .readPc => some x.pc
  | .hold | .resume => none

/-- The number of a kind of debug command, for its code. -/
def debugKind : DebugOp → Nat
  | .hold => 0
  | .resume => 1
  | .readGather _ => 2
  | .readSpecial _ => 3
  | .readSavedPc => 4
  | .readSavedFlags => 5
  | .readPc => 6

/-- A DAP debug command on a core (R247, R459, R460). (DEDUCED, log 68) -/
def State.debug (s : State) (c : Core) (op : DebugOp) : State :=
  match op with
  | .hold => s.modCore c fun x => { x with held := true }
  | .resume => (s.modCore c fun x => { x with held := false }).settle
  | _ =>
    match (s.core c).debugRead op with
    | some w => { s with lcs := { s.lcs with dbg := w } }
    | none => s

/-- What a debug command answers: the word that it read. (DESIGN CHOICE, log 65) -/
def State.debugAnswer (s : State) (c : Core) (op : DebugOp) : List Byte := ((s.core c).debugRead op).elim [] wordBytes

/-- A debug command that its right allows runs, and is answered. An absent core is not there to be held or read. (DEDUCED, log 68) -/
def State.debugFrame (s : State) (f : UFrame) (c : Core) (op : DebugOp) : State :=
  let code := (Config.debugCode (debugKind op)).toNat
  if s.hasCore c then (s.debug c op).respond f code 0 0 (s.debugAnswer c op) else s.respond f code 0 0 []

/-- DEBUG_COMMAND (R460, R462, R464): on the DAP only, where the state or the DEBUG role opens it. (DEDUCED, log 68) -/
def execDebugCommand (f : UFrame) (c : Core) (op : DebugOp) (s : State) : Host.Outcome State Fault Refusal :=
  .next (s.command f (Config.debugCode (debugKind op)).toNat true (f.path = .dap && !s.dapClosed) (·.debugFrame f c op))

end Sys2Proof.Machine
end

