-- ==== Sys2Proof/Machine/Replay.lean ====
section
/-! DEFINITION. Replay after a WARM reset and cold resume (R431–R445). -/

namespace Sys2Proof.Machine

open Sys2Proof

/-! ## Cores (R434, R442) -/

/-- A core with its registers and its PC from a CKPT record (R421, R434); its watchdog's count, its event latch and what else is no
register stay as they are (R235, R237). -/
def CoreSt.ofCkpt (x : CoreSt) (r : Rec) : CoreSt :=
  let w := fun i => BitVec.ofNat 32 (r.body.getD i 0)
  let p := r.body.getD 12 0
  let x := { x with
    lr := w 8, crcv := w 9, crcp := w 10, pc := w 11, started := true
    flags := BitVec.ofNat 7 (bitsOf p 0 7), vbase := BitVec.ofNat 32 (bitsOf p 7 5 * 2 ^ 9), crcc := BitVec.ofNat 3 (bitsOf p 12 3) }
  (List.range 8).foldl (fun x i => x.setG i (w i)) x

/-- A core gets its checkpoint back, and its suppression list is formed (R434, R442). (DEDUCED, log 61) -/
def State.restoreCore (s : State) (c : Nat) : State :=
  match tget s.jrn.ckpts none c with
  | some (_, r :: _) =>
    let s := s.modCore c fun x => (x.ofCkpt r).want c
    (s.setSup c (tget s.jrn.since [] c)).setBit JRN_RSTAT c true
  | _ => s

/-- Every core that has a checkpoint. -/
def State.restoreCores (s : State) : State := (List.range s.nCore).foldl State.restoreCore s

/-! ## Queues (R435) -/

/-- A queue in RESTORE is released: it initialises as for an ordinary enable (R284, R288). -/
def State.releaseQ (s : State) (q : Nat) : State := if (s.qst q).restore then s.initQ q else s

/-- Every queue in RESTORE is released. -/
def State.releaseQs (s : State) : State := (List.range 64).foldl State.releaseQ s


/-! ## The end of a replay -/

/-- MODE of JRN_RSTAT, source 212, and the end of REPLAYING; BOOT then ends its load (R431, R432, R445). -/
def State.replayOver (s : State) (mode : Nat) : State :=
  let s := s.set JRN_RSTAT JRN_RSTAT_MODE mode
  let s := ({ s with jrn := { s.jrn with restored := false } }).set JRN_STATUS JRN_STATUS_REPLAYING 0
  (s.raise 212).bootFinish

/-- Replay is skipped (R431). -/
def State.replaySkip (s : State) (why : Nat) : State :=
  let s := (s.freeTable.releaseQs).newEpoch s.boot.run.seq
  let s := { s with jrn := { s.jrn with quick := 0, replayEnd := none } }
  ((s.setHOLD false).set JRN_RSTAT JRN_RSTAT_WHY why).replayOver 3

/-- WHY replay is skipped, 0 where it is not (R416, R431): another image than the one that ran before the reset, or RLIMIT. (DEDUCED, log 61) -/
def State.skipWhy (s : State) : Nat :=
  let l := s.get JRN_POLICY JRN_POLICY_RLIMIT
  if s.boot.ran ≠ s.boot.run.head then 1
  else if l ≠ 0 ∧ l ≤ s.jrn.quick then 2
  else 0

/-- The journal waits for nothing but this step: a load of the kind has applied its last section. -/
def State.replayDue (s : State) (l : Load) : Bool :=
  s.fabric && s.flag JRN_STATUS JRN_STATUS_REPLAYING && s.boot.applied && s.boot.load == some l && !s.jrn.restored

/-- REPLAY_RESTORE (R431, R432, R434, R435): steps 2 and 3, up to the queue scans, or the skip. (DEDUCED, log 61) -/
def execReplayRestore (s : State) : Host.Outcome State Fault Refusal :=
  .next (if s.replayDue .warm then
    let why := s.skipWhy
    if why ≠ 0 then s.replaySkip why
    else
      let s := (List.range 64).foldl State.restoreQ s.restoreCores
      { s with jrn := { s.jrn with restored := true } }
  else s)

/-! ## Channels and the TEU (R437, R438) -/

/-- A channel whose latest record is START or POINT is armed again at its next element (R437). -/
def State.resumeDma (s : State) (k : Nat) : State :=
  match tget s.jrn.dmas none k with
  | some (_, r) =>
    if r.argd % 4 < 2 then
      let w := fun i => BitVec.ofNat 32 (r.body.getD i 0)
      let s := ((s.shadowStore k .scfg (w 3)).shadowStore k .slist (w 0)).shadowStore k .sfix (w 1)
      (s.dctlStore k 3).setBit JRN_RDMA k true
    else s
  | none => s

/-- The states of a snapshot (R421). -/
def snapStates (n : Nat) (parts : List Rec) : List Nat :=
  (parts.flatMap fun r => (List.range 13).map fun i => r.body.getD i 0).take n

/-- The TEU is restored from the latest snapshot, with catch-up steps for a WARM replay, and warm-up begins anew (R161, R174, R438,
R445). -/
def State.restoreTeu (s : State) (catchUps : Bool) : State :=
  match s.jrn.snap with
  | some (_, h :: parts) =>
    let n := h.argd % 1024
    let b := h.argd / 1024 % 2
    if s.hasTeu && s.bankValid b && s.nStates b = n then
      let xs := snapStates n parts
      let s := ((List.range n).zip xs).foldl (fun s p => s.putX p.1 (BitVec.ofNat 32 p.2)) s
      let s := (s.set TEU_STATUS TEU_STATUS_ABANK b).wr TEU_STEPCNT (BitVec.ofNat 32 (h.body.getD 0 0))
      let s := (s.set JRN_RSTAT JRN_RSTAT_TEU 1).setWarm (s.get TEU_CFG TEU_CFG_WARMUP)
      let k := s.jrn.stepsSince
      if !catchUps then s
      else if 8 < k then s.set JRN_RSTAT JRN_RSTAT_TEUOLD 1
      else
        let steps := s.jrn.stepIn.drop (s.jrn.stepIn.length - k)
        let r := s.catchUps steps
        r.1.set JRN_RSTAT JRN_RSTAT_CATCHUP r.2
    else s.set JRN_RSTAT JRN_RSTAT_TEUFAIL 1
  | _ => s

/-- No queue scan runs any more. -/
def State.scansDone (s : State) : Bool := (List.range 64).all fun q => (s.qst q).scan.isNone

/-- REPLAY_FINISH (R432, R437, R438): steps 4 to 6. -/
def execReplayFinish (s : State) : Host.Outcome State Fault Refusal :=
  .next (if s.fabric && s.jrn.restored && s.scansDone then
    let s := ((List.range 16).foldl State.resumeDma s).restoreTeu true
    let s := { s.setHOLD false with jrn := { s.jrn with replayEnd := some s.raw } }
    s.replayOver 1
  else s)

/-! ## Cold resume (R445) -/

/-- The words of payload that a record of a kind names (R421), of those that its size has room for. -/
def payloadWords (kind room : Nat) : Nat :=
  match kind with
  | 1 | 7 => min 5 room
  | 4 => min 4 room
  | _ => room

/-- A record read back from the store: its JSEQ, its MORE bit, and what it holds (R420, R421). -/
def recordOf (b : List Byte) : Nat × Bool × Rec :=
  let h := leAt b 4 4
  (leAt b 0 4, h.testBit 5,
    { kind := h % 16, src := bitsOf h 8 8, argd := bitsOf h 16 16
      body := (List.range (payloadWords (h % 16) ((b.length - 12) / 4))).map fun i => leAt b (8 + 4 * i) 4 })

/-- The records of a line that have a good CRC (R425): one of 64 bytes, or 16-byte ones. -/
def lineRecords (l : List Byte) : List (Nat × Bool × Rec) :=
  if leAt l 4 1 / 16 % 2 = 1 && recordOk l then [recordOf l]
  else ((List.range 4).map fun i => l.drop (16 * i) |>.take 16).filterMap fun b =>
    if recordOk b && leAt b 4 1 / 16 % 2 = 0 then some (recordOf b) else none

/-- A scan in progress: the last record's JSEQ and MORE, the group that is open, and the complete groups, newest first. -/
structure Scan where
  last : Option (Nat × Bool) := none
  grp : Option (Nat × List Rec) := none
  out : List (Nat × List Rec) := []
  deriving DecidableEq, Repr

/-- A record behind a gap of the sequence begins a group only where its kind says so: a QMARK or a part of a snapshot may belong to
a group whose first record is lost (R422). -/
def Rec.begins (r : Rec) : Bool := r.kind != 3 && !(r.kind = 6 && r.src = 1)

/-- The scan takes a record (R422). (DEDUCED, log 62) -/
def Scan.take (first : Nat) (z : Scan) (p : Nat × Bool × Rec) : Scan :=
  let n := p.1
  let more := p.2.1
  let r := p.2.2
  let grp := match z.last with
    | some (l, m) =>
      if n = (l + 1) % 2 ^ 32 then (if m then z.grp.map fun g => (g.1, g.2 ++ [r]) else some (n, [r]))
      else if r.begins then some (n, [r]) else none
    | none => if n = first || r.begins then some (n, [r]) else none
  if more then { z with last := some (n, more), grp := grp }
  else { last := some (n, more), grp := none, out := grp.toList ++ z.out }

/-- The complete groups of the epoch that the own ring holds, oldest first (R445); a bad line is not used (R425). (DEDUCED, log 62) -/
def State.ringGroups (s : State) : List (Nat × List Rec) :=
  let first : Nat := match s.jrn.epoch with | some e => e.2 | none => 0
  let ls := s.jrn.written.filter fun l => !s.jrn.bad.contains l
  let rs := (ls.flatMap fun l => lineRecords (s.lineAt l)).filter fun p => (p.1 + 2 ^ 32 - first) % 2 ^ 32 < 2 ^ 31
  (rs.foldl (Scan.take first) {}).out.reverse

/-- The LAUNCH-COMMITs that no final LAUNCH-DONE follows, by entry (R421, R445). (DEDUCED, log 62) -/
def liveCommits (gs : List (Nat × List Rec)) : Tab (Option Rec) :=
  (gs.flatMap (·.2)).foldl (fun t r =>
    if r.kind = 1 then tset none t (r.argd % 1024) (some r)
    else if r.kind = 2 then
      let i := r.argd % 1024
      match tget t none i with
      | some e =>
        let oneShot := bitsOf (e.body.getD 4 0) 24 3 = 0
        if e.body.getD 0 0 = r.body.getD 0 0 && (oneShot || r.argd / 1024 % 8 = 4) then tset none t i none else t
      | none => t
    else t) []

/-- An entry is re-entered at its index with its words and its number, armed without a record (R445). (DEDUCED, log 62) -/
def State.reenter (s : State) (i : Nat) (r : Rec) : State :=
  let w := fun k => BitVec.ofNat 32 (r.body.getD k 0)
  let e : LEnt := { w0 := w 1, w1 := w 2, w2 := w 3, w3 := w 4 &&& 0x7FF8FFFF, seq := w 0, st := .armed }
  s.setL i { e with late := e.exec < s.time + e.lead }

/-- TIME_SEQ after the highest launch sequence number found (R445). (DEDUCED, log 62) -/
def State.resumeSeq (s : State) (gs : List (Nat × List Rec)) : State :=
  match ((gs.flatMap (·.2)).filter fun r => r.kind = 1 || r.kind = 2).map fun r => r.body.getD 0 0 with
  | [] => s
  | l => s.wr TIME_SEQ (BitVec.ofNat 32 (l.foldl max 0 + 1))

/-- The number that follows the newest record of the epoch. (DEDUCED, log 62) -/
def State.resumeJseq (s : State) (gs : List (Nat × List Rec)) : State :=
  match gs.getLast? with
  | some g => s.wr JRN_JSEQ (BitVec.ofNat 32 (g.1 + g.2.length))
  | none => s

/-- The index rebuilt from the groups of the ring (R445). -/
def State.rebuild (s : State) (gs : List (Nat × List Rec)) : State :=
  { s with jrn := gs.foldl (fun j g => j.index g.1 g.2) s.jrn.noIndex }

/-- COLD_RESUME (R445). (DEDUCED, log 62) -/
def execColdResume (s : State) : Host.Outcome State Fault Refusal :=
  .next (if s.replayDue .cold then
    let gs := s.ringGroups
    let s := ((s.rebuild gs).resumeJseq gs).restoreCores.restoreTeu false
    let s := (liveCommits gs).foldl (fun s e => match e.2 with | some r => s.reenter e.1 r | none => s) s
    let s := (s.resumeSeq gs).setHOLD true
    ({ s with jrn := { s.jrn with coldHold := true } }.releaseQs).replayOver 2
  else s)

end Sys2Proof.Machine
end

