-- ==== Sys2Proof/Machine/Dispatch.lean ====
section
/-! DEFINITION. The dispatch: each command to its meaning. -/

namespace Sys2Proof.Machine

open Sys2Proof

/-- What a command does to everything but the queue of commands. (DESIGN CHOICE, log 9) (DESIGN CHOICE, log 10) -/
def exec (i : Instr) (s : State) : Host.Outcome State Fault Refusal :=
  match i with
  | .registerWrite by_ addr v => Sys2Proof.Machine.execRegisterWrite by_ addr v s
  | .porstNAssert => Sys2Proof.Machine.execPorstNAssert s
  | .vaoBrownOut => Sys2Proof.Machine.execVaoBrownOut s
  | .porstNRelease => Sys2Proof.Machine.execPorstNRelease s
  | .vcoreRise => Sys2Proof.Machine.execVcoreRise s
  | .pllFLock => Sys2Proof.Machine.execPllFLock s
  | .pllTLock => Sys2Proof.Machine.execPllTLock s
  | .vcoreWarn => Sys2Proof.Machine.execVcoreWarn s
  | .vcoreBrownOut => Sys2Proof.Machine.execVcoreBrownOut s
  | .vio33Low low => Sys2Proof.Machine.execVio33Low low s
  | .avddLow low => Sys2Proof.Machine.execAvddLow low s
  | .resetNAssert => Sys2Proof.Machine.execResetNAssert s
  | .warmResetRelease addr => Sys2Proof.Machine.execWarmResetRelease addr s
  | .softWarmReset => Sys2Proof.Machine.execSoftWarmReset s
  | .softAoReset => Sys2Proof.Machine.execSoftAoReset s
  | .pfailNFall => Sys2Proof.Machine.execPfailNFall s
  | .flushComplete => Sys2Proof.Machine.execFlushComplete s
  | .refLoss => Sys2Proof.Machine.execRefLoss s
  | .refReturn => Sys2Proof.Machine.execRefReturn s
  | .xt32Ok => Sys2Proof.Machine.execXt32Ok s
  | .xt32Stop => Sys2Proof.Machine.execXt32Stop s
  | .pwrto => Sys2Proof.Machine.execPwrto s
  | .tempConversion t0 t1 t2 t3 => Sys2Proof.Machine.execTempConversion t0 t1 t2 t3 s
  | .eccClear => Sys2Proof.Machine.execEccClear s
  | .gpioSet v => Sys2Proof.Machine.execGpioSet v s
  | .gpioClr v => Sys2Proof.Machine.execGpioClr v s
  | .gpioDirWrite v => Sys2Proof.Machine.execGpioDirWrite v s
  | .gpioInputChange n level => Sys2Proof.Machine.execGpioInputChange n level s
  | .afeChCfgWrite n v => Sys2Proof.Machine.execAfeChCfgWrite n v s
  | .channelRestartEnd n => Sys2Proof.Machine.execChannelRestartEnd n s
  | .overload n => Sys2Proof.Machine.execOverload n s
  | .integratorClear n => Sys2Proof.Machine.execIntegratorClear n s
  | .refrdy => Sys2Proof.Machine.execRefrdy s
  | .testStart v => Sys2Proof.Machine.execTestStart v s
  | .testAbort => Sys2Proof.Machine.execTestAbort s
  | .testPhaseEnd => Sys2Proof.Machine.execTestPhaseEnd s
  | .testDwellEnd results => Sys2Proof.Machine.execTestDwellEnd results s
  | .watchResult w bits => Sys2Proof.Machine.execWatchResult w bits s
  | .sampleItem n bits => Sys2Proof.Machine.execSampleItem n bits s
  | .syncInEdge at_ => Sys2Proof.Machine.execSyncInEdge at_ s
  | .syncApply => Sys2Proof.Machine.execSyncApply s
  | .fltChCfgWrite n v => Sys2Proof.Machine.execFltChCfgWrite n v s
  | .fltProfileWrite p isB v => Sys2Proof.Machine.execFltProfileWrite p isB v s
  | .evtConfigWrite r u v => Sys2Proof.Machine.execEvtConfigWrite r u v s
  | .teuSoftwareStep => Sys2Proof.Machine.execTeuSoftwareStep s
  | .teuStepComplete => Sys2Proof.Machine.execTeuStepComplete s
  | .teuSwapWrite v => Sys2Proof.Machine.execTeuSwapWrite v s
  | .validate val0 val1 => Sys2Proof.Machine.execValidate val0 val1 s
  | .validationDone => Sys2Proof.Machine.execValidationDone s
  | .teuEntryLowStore by_ b i0 v => Sys2Proof.Machine.execTeuEntryLowStore by_ b i0 v s
  | .teuEntryHighStore by_ b i0 v => Sys2Proof.Machine.execTeuEntryHighStore by_ b i0 v s
  | .teuStateStore i0 v => Sys2Proof.Machine.execTeuStateStore i0 v s
  | .teuEnable => Sys2Proof.Machine.execTeuEnable s
  | .nop c e => Sys2Proof.Machine.execNop c e s
  | .add c e d r0 => Sys2Proof.Machine.execAdd c e d r0 s
  | .sub c e d r0 => Sys2Proof.Machine.execSub c e d r0 s
  | .adc c e d r0 => Sys2Proof.Machine.execAdc c e d r0 s
  | .sbc c e d r0 => Sys2Proof.Machine.execSbc c e d r0 s
  | .and c e d r0 => Sys2Proof.Machine.execAnd c e d r0 s
  | .or c e d r0 => Sys2Proof.Machine.execOr c e d r0 s
  | .xor c e d r0 => Sys2Proof.Machine.execXor c e d r0 s
  | .mov c e d r0 => Sys2Proof.Machine.execMov c e d r0 s
  | .movFromSpecial c e d k => Sys2Proof.Machine.execMovFromSpecial c e d k s
  | .movToSpecial c e k r0 => Sys2Proof.Machine.execMovToSpecial c e k r0 s
  | .cmp c e d r0 => Sys2Proof.Machine.execCmp c e d r0 s
  | .tst c e d r0 => Sys2Proof.Machine.execTst c e d r0 s
  | .neg c e d => Sys2Proof.Machine.execNeg c e d s
  | .not c e d => Sys2Proof.Machine.execNot c e d s
  | .mul c e d r0 => Sys2Proof.Machine.execMul c e d r0 s
  | .mulh c e d r0 => Sys2Proof.Machine.execMulh c e d r0 s
  | .mulhu c e d r0 => Sys2Proof.Machine.execMulhu c e d r0 s
  | .div c e d r0 => Sys2Proof.Machine.execDiv c e d r0 s
  | .divu c e d r0 => Sys2Proof.Machine.execDivu c e d r0 s
  | .rem c e d r0 => Sys2Proof.Machine.execRem c e d r0 s
  | .remu c e d r0 => Sys2Proof.Machine.execRemu c e d r0 s
  | .shl c e d r0 => Sys2Proof.Machine.execShl c e d r0 s
  | .shr c e d r0 => Sys2Proof.Machine.execShr c e d r0 s
  | .sar c e d r0 => Sys2Proof.Machine.execSar c e d r0 s
  | .ror c e d r0 => Sys2Proof.Machine.execRor c e d r0 s
  | .addi c e d imm => Sys2Proof.Machine.execAddi c e d imm s
  | .movi c e d imm => Sys2Proof.Machine.execMovi c e d imm s
  | .ld c e d r0 disp => Sys2Proof.Machine.execLd c e d r0 disp s
  | .ldh c e d r0 disp => Sys2Proof.Machine.execLdh c e d r0 disp s
  | .ldb c e d r0 disp => Sys2Proof.Machine.execLdb c e d r0 disp s
  | .st c e d r0 disp => Sys2Proof.Machine.execSt c e d r0 disp s
  | .sth c e d r0 disp => Sys2Proof.Machine.execSth c e d r0 disp s
  | .stb c e d r0 disp => Sys2Proof.Machine.execStb c e d r0 disp s
  | .br c e off => Sys2Proof.Machine.execBr c e off s
  | .call c e off => Sys2Proof.Machine.execCall c e off s
  | .callReg c e r0 => Sys2Proof.Machine.execCallReg c e r0 s
  | .ret c e => Sys2Proof.Machine.execRet c e s
  | .jr c e r0 => Sys2Proof.Machine.execJr c e r0 s
  | .reti c e => Sys2Proof.Machine.execReti c e s
  | .sleep c e => Sys2Proof.Machine.execSleep c e s
  | .waitev c e => Sys2Proof.Machine.execWaitev c e s
  | .waitevResume c => Sys2Proof.Machine.execWaitevResume c s
  | .ckpt c e => Sys2Proof.Machine.execCkpt c e s
  | .ckptAck c => Sys2Proof.Machine.execCkptAck c s
  | .par c e d => Sys2Proof.Machine.execPar c e d s
  | .brev c e d => Sys2Proof.Machine.execBrev c e d s
  | .brevb c e d => Sys2Proof.Machine.execBrevb c e d s
  | .crcb c e r0 => Sys2Proof.Machine.execCrcb c e r0 s
  | .crcw c e r0 => Sys2Proof.Machine.execCrcw c e r0 s
  | .xcpy c e => Sys2Proof.Machine.execXcpy c e s
  | .xfil c e => Sys2Proof.Machine.execXfil c e s
  | .xcmp c e => Sys2Proof.Machine.execXcmp c e s
  | .xfnd c e => Sys2Proof.Machine.execXfnd c e s
  | .xcrc c e => Sys2Proof.Machine.execXcrc c e s
  | .xcpyRun c e => Sys2Proof.Machine.execXcpyRun c e s
  | .xfilRun c e => Sys2Proof.Machine.execXfilRun c e s
  | .xcmpRun c e => Sys2Proof.Machine.execXcmpRun c e s
  | .xfndRun c e => Sys2Proof.Machine.execXfndRun c e s
  | .xcrcRun c e => Sys2Proof.Machine.execXcrcRun c e s
  | .tstc c e t => Sys2Proof.Machine.execTstc c e t s
  | .fetchBlockArrival c block => Sys2Proof.Machine.execFetchBlockArrival c block s
  | .loadResponse c => Sys2Proof.Machine.execLoadResponse c s
  | .storeDrain c => Sys2Proof.Machine.execStoreDrain c s
  | .coreRun c run => Sys2Proof.Machine.execCoreRun c run s
  | .coreClrflt c => Sys2Proof.Machine.execCoreClrflt c s
  | .coreDiv c div => Sys2Proof.Machine.execCoreDiv c div s
  | .faultEscalation => Sys2Proof.Machine.execFaultEscalation s
  | .programWindowStore by_ c w v => Sys2Proof.Machine.execProgramWindowStore by_ c w v s
  | .watchdogEnable c => Sys2Proof.Machine.execWatchdogEnable c s
  | .watchdogKick c v => Sys2Proof.Machine.execWatchdogKick c v s
  | .watchdogAdvance ao => Sys2Proof.Machine.execWatchdogAdvance ao s
  | .watchdogBite c => Sys2Proof.Machine.execWatchdogBite c s
  | .oasisWatchdogBite => Sys2Proof.Machine.execOasisWatchdogBite s
  | .doorbellRing v => Sys2Proof.Machine.execDoorbellRing v s
  | .doorbellClear v => Sys2Proof.Machine.execDoorbellClear v s
  | .eventSet v => Sys2Proof.Machine.execEventSet v s
  | .sourceEvent r0 => Sys2Proof.Machine.execSourceEvent r0 s
  | .coalesceTimeout r0 => Sys2Proof.Machine.execCoalesceTimeout r0 s
  | .levelChange r0 => Sys2Proof.Machine.execLevelChange r0 s
  | .interruptAccept c => Sys2Proof.Machine.execInterruptAccept c s
  | .interruptGrant c => Sys2Proof.Machine.execInterruptGrant c s
  | .vectorEntry c => Sys2Proof.Machine.execVectorEntry c s
  | .claimComplete c => Sys2Proof.Machine.execClaimComplete c s
  | .softwareRaise v => Sys2Proof.Machine.execSoftwareRaise v s
  | .pendClear j v => Sys2Proof.Machine.execPendClear j v s
  | .sourceConfigWrite r0 v => Sys2Proof.Machine.execSourceConfigWrite r0 v s
  | .powerRequest v => Sys2Proof.Machine.execPowerRequest v s
  | .powerEntryComplete => Sys2Proof.Machine.execPowerEntryComplete s
  | .wakeTimer => Sys2Proof.Machine.execWakeTimer s
  | .dapWake => Sys2Proof.Machine.execDapWake s
  | .oasisWatchAssert => Sys2Proof.Machine.execOasisWatchAssert s
  | .wakeComplete => Sys2Proof.Machine.execWakeComplete s
  | .pushl by_ q v => Sys2Proof.Machine.execPushl by_ q v s
  | .pushh by_ q v => Sys2Proof.Machine.execPushh by_ q v s
  | .push u q item => Sys2Proof.Machine.execPush u q item s
  | .popl by_ q => Sys2Proof.Machine.execPopl by_ q s
  | .held by_ q => Sys2Proof.Machine.execHeld by_ q s
  | .peekl by_ q => Sys2Proof.Machine.execPeekl by_ q s
  | .pop q => Sys2Proof.Machine.execPop q s
  | .commit q => Sys2Proof.Machine.execCommit q s
  | .rewind q => Sys2Proof.Machine.execRewind q s
  | .flush q => Sys2Proof.Machine.execFlush q s
  | .commitAck q => Sys2Proof.Machine.execCommitAck q s
  | .queueConfigWrite q v => Sys2Proof.Machine.execQueueConfigWrite q v s
  | .restoreScanEnd q => Sys2Proof.Machine.execRestoreScanEnd q s
  | .qmDropsRead q => Sys2Proof.Machine.execQmDropsRead q s
  | .dmeArm k => Sys2Proof.Machine.execDmeArm k s
  | .dmeEnable k => Sys2Proof.Machine.execDmeEnable k s
  | .dmeAbort k => Sys2Proof.Machine.execDmeAbort k s
  | .dmeShadowWrite k r v => Sys2Proof.Machine.execDmeShadowWrite k r v s
  | .shadowCopy k => Sys2Proof.Machine.execShadowCopy k s
  | .elementFetch k => Sys2Proof.Machine.execElementFetch k s
  | .dmeBurst => Sys2Proof.Machine.execDmeBurst s
  | .elementComplete k => Sys2Proof.Machine.execElementComplete k s
  | .dmeBusError k => Sys2Proof.Machine.execDmeBusError k s
  | .abortComplete k => Sys2Proof.Machine.execAbortComplete k s
  | .qwaitRetry k => Sys2Proof.Machine.execQwaitRetry k s
  | .timeCapture by_ => Sys2Proof.Machine.execTimeCapture by_ s
  | .counterSet => Sys2Proof.Machine.execCounterSet s
  | .holdWrite hold => Sys2Proof.Machine.execHoldWrite hold s
  | .counterStep v => Sys2Proof.Machine.execCounterStep v s
  | .servoSample frm o => Sys2Proof.Machine.execServoSample frm o s
  | .servoFreqLoad v => Sys2Proof.Machine.execServoFreqLoad v s
  | .holdoverTimeout => Sys2Proof.Machine.execHoldoverTimeout s
  | .secondBoundary => Sys2Proof.Machine.execSecondBoundary s
  | .launchWordStore by_ i0 w v => Sys2Proof.Machine.execLaunchWordStore by_ i0 w v s
  | .launchCommit by_ i0 v => Sys2Proof.Machine.execLaunchCommit by_ i0 v s
  | .launchCancel by_ i0 v => Sys2Proof.Machine.execLaunchCancel by_ i0 v s
  | .launchArm i0 => Sys2Proof.Machine.execLaunchArm i0 s
  | .lateEntryHandle i0 => Sys2Proof.Machine.execLateEntryHandle i0 s
  | .actSet i0 => Sys2Proof.Machine.execActSet i0 s
  | .actDuty i0 => Sys2Proof.Machine.execActDuty i0 s
  | .actMode i0 => Sys2Proof.Machine.execActMode i0 s
  | .fltSync i0 => Sys2Proof.Machine.execFltSync i0 s
  | .fltResponseChange i0 => Sys2Proof.Machine.execFltResponseChange i0 s
  | .teuStep i0 => Sys2Proof.Machine.execTeuStep i0 s
  | .teuBankSwap i0 => Sys2Proof.Machine.execTeuBankSwap i0 s
  | .qmPush i0 => Sys2Proof.Machine.execQmPush i0 s
  | .hicRaise i0 => Sys2Proof.Machine.execHicRaise i0 s
  | .caerMessage i0 => Sys2Proof.Machine.execCaerMessage i0 s
  | .actSafe i0 => Sys2Proof.Machine.execActSafe i0 s
  | .pwmCycleStart k => Sys2Proof.Machine.execPwmCycleStart k s
  | .pwmDutyEnd n => Sys2Proof.Machine.execPwmDutyEnd n s
  | .genWrite k v => Sys2Proof.Machine.execGenWrite k v s
  | .zxDecision n => Sys2Proof.Machine.execZxDecision n s
  | .halfDecision n positive => Sys2Proof.Machine.execHalfDecision n positive s
  | .mainsEdge p at_ => Sys2Proof.Machine.execMainsEdge p at_ s
  | .mainsLostTimeout p => Sys2Proof.Machine.execMainsLostTimeout p s
  | .predictedCrossing p => Sys2Proof.Machine.execPredictedCrossing p s
  | .mainsConfigWrite p v => Sys2Proof.Machine.execMainsConfigWrite p v s
  | .safeCommand j v => Sys2Proof.Machine.execSafeCommand j v s
  | .outputConfigWrite n v => Sys2Proof.Machine.execOutputConfigWrite n v s
  | .outputDutyWrite n v => Sys2Proof.Machine.execOutputDutyWrite n v s
  | .frameReceive n bytes fcsOk => Sys2Proof.Machine.execFrameReceive n bytes fcsOk s
  | .frameForward n => Sys2Proof.Machine.execFrameForward n s
  | .txTailWrite v => Sys2Proof.Machine.execTxTailWrite v s
  | .txSlot => Sys2Proof.Machine.execTxSlot s
  | .txFrameDone => Sys2Proof.Machine.execTxFrameDone s
  | .ringEnable v => Sys2Proof.Machine.execRingEnable v s
  | .mdioStart v => Sys2Proof.Machine.execMdioStart v s
  | .mdioDone data noAck => Sys2Proof.Machine.execMdioDone data noAck s
  | .ethCounterRead n k => Sys2Proof.Machine.execEthCounterRead n k s
  | .linkEnable n v => Sys2Proof.Machine.execLinkEnable n v s
  | .identTimer n => Sys2Proof.Machine.execIdentTimer n s
  | .linkFail n => Sys2Proof.Machine.execLinkFail n s
  | .ident n hub upEnd pen variant partner => Sys2Proof.Machine.execIdent n hub upEnd pen variant partner s
  | .ack n h => Sys2Proof.Machine.execAck n h s
  | .time n h t1 xn t2 t3 => Sys2Proof.Machine.execTime n h t1 xn t2 t3 s
  | .dreq n h t3 xn t4 => Sys2Proof.Machine.execDreq n h t3 xn t4 s
  | .dresp n h t4 xn => Sys2Proof.Machine.execDresp n h t4 xn s
  | .launch n h time arg action flags => Sys2Proof.Machine.execLaunch n h time arg action flags s
  | .msg n h word => Sys2Proof.Machine.execMsg n h word s
  | .peer n h idx value => Sys2Proof.Machine.execPeer n h idx value s
  | .cmd n h code => Sys2Proof.Machine.execCmd n h code s
  | .heart n h jseq => Sys2Proof.Machine.execHeart n h jseq s
  | .jrnl n h record => Sys2Proof.Machine.execJrnl n h record s
  | .qitems n h items => Sys2Proof.Machine.execQitems n h items s
  | .resendTimeout n => Sys2Proof.Machine.execResendTimeout n s
  | .ackTimer n => Sys2Proof.Machine.execAckTimer n s
  | .exchangeStart n t1 => Sys2Proof.Machine.execExchangeStart n t1 s
  | .exchangeTimeout n => Sys2Proof.Machine.execExchangeTimeout n s
  | .messageSend v => Sys2Proof.Machine.execMessageSend v s
  | .peerExportTick => Sys2Proof.Machine.execPeerExportTick s
  | .qfwdSend j => Sys2Proof.Machine.execQfwdSend j s
  | .lineCommand v => Sys2Proof.Machine.execLineCommand v s
  | .caerErrRead n => Sys2Proof.Machine.execCaerErrRead n s
  | .pairEnable v => Sys2Proof.Machine.execPairEnable v s
  | .pairEnter => Sys2Proof.Machine.execPairEnter s
  | .pairTimeout => Sys2Proof.Machine.execPairTimeout s
  | .retry => Sys2Proof.Machine.execRetry s
  | .take => Sys2Proof.Machine.execTake s
  | .release => Sys2Proof.Machine.execRelease s
  | .heartTimer => Sys2Proof.Machine.execHeartTimer s
  | .partnerSilence => Sys2Proof.Machine.execPartnerSilence s
  | .pairOkLow => Sys2Proof.Machine.execPairOkLow s
  | .takeoverDelayEnd => Sys2Proof.Machine.execTakeoverDelayEnd s
  | .takeoverSeen => Sys2Proof.Machine.execTakeoverSeen s
  | .targetAddress p addr read => Sys2Proof.Machine.execTargetAddress p addr read s
  | .targetByteReceived p b => Sys2Proof.Machine.execTargetByteReceived p b s
  | .targetByteSent p => Sys2Proof.Machine.execTargetByteSent p s
  | .targetStop p => Sys2Proof.Machine.execTargetStop p s
  | .targetTimeout p => Sys2Proof.Machine.execTargetTimeout p s
  | .targetPointerWrite p v => Sys2Proof.Machine.execTargetPointerWrite p v s
  | .go p v => Sys2Proof.Machine.execGo p v s
  | .abort p => Sys2Proof.Machine.execAbort p s
  | .recover p => Sys2Proof.Machine.execRecover p s
  | .busFree p => Sys2Proof.Machine.execBusFree p s
  | .controllerEnd p r sent received => Sys2Proof.Machine.execControllerEnd p r sent received s
  | .controllerTimeout x => Sys2Proof.Machine.execControllerTimeout x s
  | .bootStart => Sys2Proof.Machine.execBootStart s
  | .signatureVerifyDone => Sys2Proof.Machine.execSignatureVerifyDone s
  | .sectionEnd body => Sys2Proof.Machine.execSectionEnd body s
  | .retainedCopyDone => Sys2Proof.Machine.execRetainedCopyDone s
  | .imageCommit v => Sys2Proof.Machine.execImageCommit v s
  | .updateRequest v => Sys2Proof.Machine.execUpdateRequest v s
  | .flashCommand v answer => Sys2Proof.Machine.execFlashCommand v answer s
  | .flashStatusPoll sr => Sys2Proof.Machine.execFlashStatusPoll sr s
  | .flashPollTimeout => Sys2Proof.Machine.execFlashPollTimeout s
  | .recordSubmit => Sys2Proof.Machine.execRecordSubmit s
  | .recordAck => Sys2Proof.Machine.execRecordAck s
  | .lineWrite => Sys2Proof.Machine.execLineWrite s
  | .flushIdleTimeout => Sys2Proof.Machine.execFlushIdleTimeout s
  | .lineWriteDone ok => Sys2Proof.Machine.execLineWriteDone ok s
  | .replayRestore => Sys2Proof.Machine.execReplayRestore s
  | .replayFinish => Sys2Proof.Machine.execReplayFinish s
  | .coldResume => Sys2Proof.Machine.execColdResume s
  | .lineRead v => Sys2Proof.Machine.execLineRead v s
  | .lineReadDone crcOk => Sys2Proof.Machine.execLineReadDone crcOk s
  | .partnerRingConfig v => Sys2Proof.Machine.execPartnerRingConfig v s
  | .baselineStart => Sys2Proof.Machine.execBaselineStart s
  | .hello f => Sys2Proof.Machine.execHello f s
  | .read32 f => Sys2Proof.Machine.execRead32 f s
  | .write32 f => Sys2Proof.Machine.execWrite32 f s
  | .jrnread f => Sys2Proof.Machine.execJrnread f s
  | .flashcmd f answer => Sys2Proof.Machine.execFlashcmd f answer s
  | .nonce f => Sys2Proof.Machine.execNonce f s
  | .token f => Sys2Proof.Machine.execToken f s
  | .tokenCheckDone => Sys2Proof.Machine.execTokenCheckDone s
  | .endsvc f => Sys2Proof.Machine.execEndsvc f s
  | .reset f => Sys2Proof.Machine.execReset f s
  | .lock f => Sys2Proof.Machine.execLock f s
  | .vendorCommand f op => Sys2Proof.Machine.execVendorCommand f op s
  | .lcsLock => Sys2Proof.Machine.execLcsLock s
  | .lcsEndsvc => Sys2Proof.Machine.execLcsEndsvc s
  | .serviceExpiry => Sys2Proof.Machine.execServiceExpiry s
  | .vbusChange level => Sys2Proof.Machine.execVbusChange level s
  | .usbBusReset => Sys2Proof.Machine.execUsbBusReset s
  | .vcoreRecovery warnOnly => Sys2Proof.Machine.execVcoreRecovery warnOnly s
  | .vaoRecovery => Sys2Proof.Machine.execVaoRecovery s
  | .resetNRelease => Sys2Proof.Machine.execResetNRelease s
  | .pfailNRise => Sys2Proof.Machine.execPfailNRise s
  | .frameCrcError n => Sys2Proof.Machine.execFrameCrcError n s
  | .takeoverReleased => Sys2Proof.Machine.execTakeoverReleased s
  | .headersRead sfdp a b => Sys2Proof.Machine.execHeadersRead sfdp a b s
  | .resetCommandDelayEnd => Sys2Proof.Machine.execResetCommandDelayEnd s
  | .syncOutPulseEnd => Sys2Proof.Machine.execSyncOutPulseEnd s
  | .standardRequest r => Sys2Proof.Machine.execStandardRequest r s
  | .debugCommand f c op => Sys2Proof.Machine.execDebugCommand f c op s
  | .rowWordStore b sect row v => Sys2Proof.Machine.execRowWordStore b sect row v s
  | .reservedEncoding c breaking => Sys2Proof.Machine.execReservedEncoding c breaking s

end Sys2Proof.Machine
end

