-- ==== Sys2Proof/Machine/Step.lean ====
section
/-! DEFINITION. One step of the hub: the command at the front of the queue, or a tick of TIME where none waits. -/

namespace Sys2Proof.Machine

open Sys2Proof

/-- One step. The command at the front of the queue runs on the state with the queue's rest. With no command waiting, TIME
counts one tick once PLL_T has locked, and otherwise nothing changes. (DESIGN CHOICE, log 1) (DESIGN CHOICE, log 12) (DESIGN CHOICE, log 69) -/
def step (s : State) : Host.Outcome State Fault Refusal :=
  match s.pending with
  | [] => .next s.tick
  | c :: rest => exec c { s with pending := rest }

/-- The state with the command that a word spells put at the front of its queue: no row of the table gives bits. (DESIGN CHOICE, log 2) -/
def State.withFetchWord (s : State) (nbits w : Nat) : State :=
  match decodeTableWord nbits w with
  | some c => { s with pending := c :: s.pending }
  | none => s

end Sys2Proof.Machine
end

