-- ==== Sys2Proof/Machine/CaerFrame.lean ====
section
/-! DEFINITION. A Caer frame on its lane: the bytes of header, payload and CRC, how a received frame is read, and the 8b/10b code groups
(R354, R357). -/

namespace Sys2Proof.Machine

open Sys2Proof

/-! ## Bytes (R357) -/

/-- The eight bytes of a frame's header. -/
def CFrame.header (f : CFrame) : List Byte :=
  let ack := f.ackseq.getD 0
  [f.typ % 16 * 16 + f.hops % 16, f.src % 16 * 16 + f.dst % 16,
    f.bc.toNat * 128 + f.ackseq.isSome.toNat * 64 + f.payload.length / 8 % 64, f.dstq % 64,
    f.lseq % 256, f.lseq / 256 % 16, ack % 256, ack / 256 % 16].map (BitVec.ofNat 8)

/-- A frame between its delimiters: header, payload, and the CRC-32C over both. -/
def CFrame.bytes (f : CFrame) : List Byte :=
  let b := f.header ++ f.payload
  b ++ bytesLE 4 (crc32c b).toNat

/-- The header fields of a received frame. -/
def readHdr (l : List Byte) : CaerHdr :=
  let at_ := fun i => l.getD i 0
  { hops := (at_ 0).extractLsb' 0 4, src := (at_ 1).extractLsb' 4 4, dst := (at_ 1).extractLsb' 0 4, bc := (at_ 2).getLsbD 7,
    ackv := (at_ 2).getLsbD 6, dstq := (at_ 3).extractLsb' 0 6, lseq := BitVec.ofNat 12 (ofBytesLE (l.drop 4 |>.take 2)),
    ackseq := BitVec.ofNat 12 (ofBytesLE (l.drop 6 |>.take 2)) }

/-- A received frame is intact: LEN gives its length and is at most 32, its CRC holds, and its TYPE is not a reserved one (R357, R358). -/
def frameIntact (l : List Byte) : Bool :=
  let n := (l.getD 2 0).toNat % 64
  n ≤ 32 && l.length = 12 + 8 * n && ofBytesLE (l.drop (8 + 8 * n)) = (crc32c (l.take (8 + 8 * n))).toNat &&
    (l.getD 0 0).toNat / 16 < 12

/-- A received frame read: its header, its TYPE and its payload. One that is not intact reads as nothing, and is what FRAME_CRC_ERROR
reports. -/
def readFrame (l : List Byte) : Option (CaerHdr × Nat × List Byte) :=
  if frameIntact l then some (readHdr l, (l.getD 0 0).toNat / 16, (l.drop 8).dropLast.dropLast.dropLast.dropLast) else none

/-! ## Code groups (R354) -/

/-- What a lane carries: data bytes and the control characters that the hub uses. -/
inductive LaneSym where
  | data (b : Byte)
  | k28_5 | k27_7 | k29_7
  deriving DecidableEq, Repr

/-- Idle (R354): /K28.5/D16.2/. -/
def laneIdle : List LaneSym := [.k28_5, .data 0x50]

/-- A frame on its lane (R354, R357). -/
def CFrame.lane (f : CFrame) : List LaneSym := .k27_7 :: f.bytes.map LaneSym.data ++ [.k29_7]

/-- The byte and the control flag of a symbol: Kx.y is y in bits 7–5 and x in bits 4–0. -/
def LaneSym.code : LaneSym → Bool × Nat
  | .data b => (false, b.toNat)
  | .k28_5 => (true, 0xBC)
  | .k27_7 => (true, 0xFB)
  | .k29_7 => (true, 0xFD)

/-- The sub-blocks abcdei of D.0–D.31 at negative running disparity, first bit highest. (PRESUMED, log 73) -/
def sixTable : List Nat :=
  [0b100111, 0b011101, 0b101101, 0b110001, 0b110101, 0b101001, 0b011001, 0b111000,
   0b111001, 0b100101, 0b010101, 0b110100, 0b001101, 0b101100, 0b011100, 0b010111] ++
  [0b011011, 0b100011, 0b010011, 0b110010, 0b001011, 0b101010, 0b011010, 0b111010,
   0b110011, 0b100110, 0b010110, 0b110110, 0b001110, 0b101110, 0b011110, 0b101011]

/-- The sub-blocks fghj of y = 0–7 at negative running disparity. (PRESUMED, log 73) -/
def fourTable : List Nat := [0b1011, 0b1001, 0b0101, 0b1100, 0b1101, 0b1010, 0b0110, 0b1110]

/-- The sub-blocks fghj of a control character at negative running disparity. (PRESUMED, log 73) -/
def fourControl : List Nat := [0b1011, 0b0110, 0b1010, 0b1100, 0b1101, 0b0101, 0b1001, 0b0111]

/-- The ones of a sub-block. -/
def groupOnes (v : Nat) : Nat := ((List.range 6).filter v.testBit).length

/-- A sub-block of `w` bits at a running disparity, and the disparity after it: an unbalanced one, and a balanced one that has two forms,
is inverted at positive disparity. (PRESUMED, log 73) -/
def subBlock (w v : Nat) (two pos : Bool) : Nat × Bool :=
  let even := groupOnes v * 2 = w
  let v' := if pos && (two || !even) then 2 ^ w - 1 - v else v
  (v', if even then pos else !pos)

/-- A code group as abcdei fghj, first bit highest, and the running disparity after it; `pos` says that it is positive. (PRESUMED, log 73) -/
def codeGroup (pos : Bool) (y : LaneSym) : Nat × Bool :=
  let c := y.code
  let x := c.2 % 32
  let n := c.2 / 32
  let six := if c.1 && x = 28 then 0b001111 else sixTable.getD x 0
  let a := subBlock 6 six (x = 7) pos
  let alt := !c.1 && n = 7 && (if a.2 then x = 11 || x = 13 || x = 14 else x = 17 || x = 18 || x = 20)
  let four := if c.1 then fourControl.getD n 0 else if alt then 0b0111 else fourTable.getD n 0
  let b := subBlock 4 four (c.1 || n = 3) a.2
  (a.1 * 16 + b.1, b.2)

/-- Symbols as code groups, from a running disparity on. -/
def laneCode : Bool → List LaneSym → List Nat
  | _, [] => []
  | pos, y :: r => (codeGroup pos y).1 :: laneCode (codeGroup pos y).2 r

/-- The symbols that a code group can stand for. -/
def laneSyms : List LaneSym := [.k28_5, .k27_7, .k29_7] ++ (List.range 256).map fun n => .data (BitVec.ofNat 8 n)

/-- A received code group at a running disparity: the symbol, or none for one that is not valid or that the hub does not use, such as
K30.7: it invalidates the frame in which it falls (R354). -/
def readGroup (pos : Bool) (g : Nat) : Option LaneSym := laneSyms.find? fun y => (codeGroup pos y).1 = g

/-- A received lane: the symbols, or none where a code group is not valid. -/
def readLane : Bool → List Nat → Option (List LaneSym)
  | _, [] => some []
  | pos, g :: r =>
    match readGroup pos g with
    | none => none
    | some y => (readLane (codeGroup pos y).2 r).map (y :: ·)

/-! ## The port (R353, R355) -/

/-- The drivers of a port are on (R355). -/
def State.laneOn (s : State) (n : Nat) : Bool := s.fabric && n < s.nCaer && s.flag (CAER_LINK_CFG n) CAER_LINK_CFG_EN

/-- The frames that have left a port, as symbols; idle fills the time between them (R354, R355). -/
def State.laneSent (s : State) (n : Nat) : List (List LaneSym) := (s.link n).wire.map CFrame.lane

end Sys2Proof.Machine
end

