-- ==== Sys2Proof/Machine/Pins.lean ====
section
/-! DEFINITION. The balls as an observer outside the hub sees them (R47–R49, R52, R54): how each one stands, computed from the registers,
the latches and the power phase. -/

namespace Sys2Proof.Machine

open Sys2Proof

/-! ## The table of R47 -/

/-- The balls of R47 but for the passive ones, those of a bus one by one where they differ; of a channel the P ball and the N ball. -/
inductive Ball where
  | ain (n : Chan) (pos : Bool)
  | exc (k : Fin 16)
  | refOut
  | act (n : Out)
  | flow (f : Fin 8)
  | syncOut
  | ethTx (n : Port)
  | mdc | mdio
  | caerTx (n : Port)
  | twp (p : TPort)
  | qspiCs | qspiSck | qspiIo | qspiRst
  | usbDp
  | hostIrq (n : Fin 2)
  | pwrEn | takeover | pairOk
  | gpio (n : Fin 15)
  | clkout
  | dapIo | dapTrc | dapCk | dapSel | dapWake
  | xtal | xtal32
  | refIn | usbVbus | mainsSense (p : Phase) | syncIn | addrPin (i : Fin 3)
  | ethRx (n : Port)
  | caerRx (n : Port)
  | pfailN | resetN | porstN
  deriving DecidableEq, Repr

/-- How a ball stands. An output is driven low or high, or released with no pull, a pull-up or a pull-down inside the hub; an input is
ignored or sensed; XIN and XOUT oscillate or have stopped; an AIN ball may be clamped to AGND (R104); or the ball is under its unit's
function, whose course only the unit's commands show. (DESIGN CHOICE, log 13) -/
inductive Drive where
  | low | high | released | pullUp | pullDown | function | ignored | sensed | oscillating | stopped | clamped
  deriving DecidableEq, Repr

/-- The column of R47's table: of the three it has, or the function outside them (R48). A COLD reset lasts to the lock of PLL_F (R472). -/
inductive Column where
  | cold | warm | oasis | on
  deriving DecidableEq, Repr

/-- The column that applies. A hub that wakes from OASIS keeps it until its fabric runs (R49). -/
def State.column (s : State) : Column :=
  match s.pow.phase with
  | .cold | .vcore | .lock => .cold
  | .warm => .warm
  | .oasis => .oasis
  | .up => .on

/-- The ball is connected in this variant (R54). -/
def State.hasBall (s : State) : Ball → Bool
  | .ain n _ => n.val < s.nCh
  | .act n => n.val < s.nAct
  | .ethTx n | .ethRx n => n.val < s.nEth
  | .mdc | .mdio => s.nEth != 0
  | .caerTx n | .caerRx n => n.val < s.nCaer
  | .takeover | .pairOk => s.mirrors
  | _ => true

/-- A level as a push-pull output drives it. -/
def driven (b : Bool) : Drive := if b then .high else .low

/-- An open-drain output: pulled low, or released. -/
def openDrain (pulls : Bool) : Drive := if pulls then .low else .released

/-- A ball that stands as its function or is released. -/
def functionIf (b : Bool) : Drive := if b then .function else .released

/-- An input: sensed, or ignored. -/
def input (used : Bool) : Drive := if used then .sensed else .ignored

/-- The configuration of a current source that is on or in RETURN, `none` where it is off (R97): a source is off while its channel is
under test (R103), and in NAP and OASIS where that channel is not watched (R48, R108, R109). -/
def State.source (s : State) (k : Nat) : Option Word :=
  let on := fun (w : Word) => if fieldOf w AFE_EXC_CFG_CUR = 0 then none else some w
  let w := s.rd (AFE_EXC_CFG k)
  let ch := fieldOf w AFE_EXC_CFG_CH
  match s.column with
  | .on => if s.underTest ch || s.pstate == 2 && !s.watched ch then none else on w
  | .oasis => on (tget s.afe.aoExc 0 k)
  | .cold | .warm => none

/-- A current source drives its own ball (R99). -/
def State.excOn (s : State) (k : Nat) : Bool := (s.source k).any fun w => fieldOf w AFE_EXC_CFG_DEST = 0

/-- A current source drives a ball of a channel (R99). (DESIGN CHOICE, log 13) -/
def State.injected (s : State) (n : Nat) (pos : Bool) : Bool :=
  (List.range 16).any fun k => (s.source k).any fun w =>
    fieldOf w AFE_EXC_CFG_CH = n && fieldOf w AFE_EXC_CFG_DEST = (if pos then 1 else 2)

/-- A channel's inputs are in use: its bits flow, or the AO copy watches it (R47, R48). -/
def State.ainOn (s : State) (n : Nat) : Bool :=
  match s.column with
  | .on => s.flag (AFE_CH_CFG n) AFE_CH_CFG_EN && !s.napped n || s.underTest n
  | .oasis => fieldOf (tget s.afe.aoWatch 0 n) AFE_WATCH_CFG_EN = 1
  | .cold | .warm => false

/-- A sequential LEAK test clamps every masked channel that it is not testing to AGND (R104). (DESIGN CHOICE, log 13) -/
def State.clamps (s : State) (n : Nat) : Bool :=
  s.column = .on && s.afe.test.any fun t => !t.loop && t.seq && s.masked.contains n && !t.now.contains n

/-- A ball of a channel: clamped, in use, driven by a source, or released (R47, R99, R104). (DESIGN CHOICE, log 13) -/
def State.ainDrive (s : State) (n : Nat) (pos : Bool) : Drive :=
  if s.clamps n then .clamped else functionIf (s.ainOn n || s.injected n pos)

/-- REF_OUT: the reference, in a COLD reset once AVDD is valid; a low AVDD has no other effect on it (R47, R74). (DESIGN CHOICE, log 16) -/
def State.refOutDrive (s : State) : Drive :=
  functionIf (s.refOn && !(s.column = .cold && s.flag SYS_STATUS SYS_STATUS_AVDDLOW))

/-- A GPIO ball (R47, R87): an input, or an output that drives its level; the pads hold through OASIS and after it. -/
def State.gpioDrive (s : State) (n : Nat) : Drive :=
  let out := if s.column = .oasis || s.flag SYS_GPIO_IN SYS_GPIO_IN_FROZEN then s.pow.padDir.toNat.testBit n
    else bitAt (s.rd SYS_GPIO_DIR) n
  match s.column with
  | .cold | .warm => .released
  | .oasis => if out then driven (s.pow.padOut.toNat.testBit n) else .released
  | .on => if out then driven (s.gpioLevel n) else .released

/-- How a ball stands that is not of the AO island, once the fabric runs (R48). -/
def State.onDrive (s : State) : Ball → Drive
  | .flow f => driven (s.flowHigh f)
  | .syncOut => driven s.flt.syncOut.isSome
  | .caerTx n => functionIf (s.flag (CAER_LINK_CFG n) CAER_LINK_CFG_EN)
  | .twp p => functionIf (s.twOn p)
  | .qspiRst => .high
  | .usbDp => if s.attached then .pullUp else .released
  | .hostIrq n => openDrain (s.hostIrqLow n)
  | .clkout => if s.get SYS_CLKOUT SYS_CLKOUT_SEL = 0 then .low else .function
  | .xtal => .oscillating
  | .usbVbus | .pfailN | .resetN | .porstN | .dapWake => .sensed
  | .mainsSense p => input (s.flag (ACT_MAINS_CFG p) ACT_MAINS_CFG_EN)
  | .addrPin _ => .ignored
  | _ => .function

/-- REF_IN is in use: in OASIS by a watch channel that selects it, else by a channel that does (R47, R95). -/
def State.refInUsed (s : State) : Bool :=
  match s.column with
  | .on => (List.range s.nCh).any fun n => s.ainOn n && s.flag (AFE_CH_CFG n) AFE_CH_CFG_REF
  | .oasis => (List.range 8).any fun n => s.ainOn n && fieldOf (tget s.afe.aoWatch 0 n) AFE_WATCH_CFG_REF = 1
  | .cold | .warm => false


/-- How a ball stands in the three columns of R47, where that depends on nothing else. The table says nothing of DAP_CK and DAP_SEL in
OASIS: they keep their pull-down. Nor has it a word for PORST_N in a COLD reset and RESET_N in a WARM one, which cause them: they are
sensed. ADDR is sampled at the release. (DESIGN CHOICE, log 13) -/
def columnDrive (c : Column) : Ball → Drive
  | .flow _ | .syncOut | .clkout => .low
  | .ethTx _ | .mdc | .qspiSck | .qspiIo | .dapTrc => .pullDown
  | .mdio | .qspiCs | .dapIo => .pullUp
  | .qspiRst => match c with | .cold => .low | .warm => .high | .oasis | .on => .pullUp
  | .dapCk | .dapSel => .pullDown
  | .dapWake => if c = .oasis then .sensed else .pullDown
  | .xtal => if c = .oasis then .stopped else .oscillating
  | .usbVbus | .addrPin _ => input (c != .oasis)
  | .pfailN | .resetN => input (c != .cold)
  | .porstN => .sensed
  | .mainsSense _ | .syncIn | .ethRx _ | .caerRx _ => .ignored
  | _ => .released

/-- HOW A BALL STANDS (R47, R48); `none` for one that the variant leaves unconnected. (DESIGN CHOICE, log 13) -/
def State.ball (s : State) (b : Ball) : Option Drive :=
  if !s.hasBall b then none
  else some (match b with
    | .ain n pos => s.ainDrive n pos
    | .exc k => functionIf (s.excOn k)
    | .refOut => s.refOutDrive
    | .act n => driven (s.latchOf n)
    | .pwrEn => driven s.pow.pwrEn
    | .takeover => openDrain s.caer.takeLow
    | .pairOk => openDrain s.caer.pairOkLow
    | .gpio n => s.gpioDrive n
    | .xtal32 => .oscillating
    | .refIn => input s.refInUsed
    | b => if s.column = .on then s.onDrive b else columnDrive s.column b)

/-! ## The nets that more than one device drives -/

/-- HOST_IRQn is released (R47, R253). (DESIGN CHOICE, log 13) -/
def State.hostIrqBall (s : State) (n : Fin 2) : Bool := !s.hostIrqLow n

/-- The level of the TAKEOVER net: low while either hub pulls it low (R52, R375). (DESIGN CHOICE, log 13) -/
def State.takeoverBall (s : State) : Bool := !s.takeoverLow

/-- The level of the PAIR_OK net: high only while both hubs release it (R52). (DESIGN CHOICE, log 13) -/
def State.pairOkBall (s : State) : Bool := !(s.caer.pairOkLow || s.caer.partnerPairOkLow)

end Sys2Proof.Machine
end

