-- ==== Sys2Proof/Safety.lean ====
section
/-! DEFINITION. What a safe run is, in the terms that statements use: what every step keeps, what a completed instruction leaves in
its core, and what stands beside a command's effect. -/

namespace Sys2Proof.Machine

open Sys2Proof

/-- The listed numbers of a table rise. -/
def Tab.sorted {α : Type} (t : Tab α) : Prop := t.Pairwise fun x y => x.1 < y.1

/-- The state's canonical form: memory has it. -/
def State.Inv (s : State) : Prop := Memory.wf s.mem = true

/-- No fuse of `f` is unblown in `g` (R451, R453–R455, R462): the counter's rows and the floor do not fall, a revoked slot stays
revoked, and what production blew, the device ID, the key hashes and the USB identifiers, stays as it is. -/
def FuseSt.keeps (f g : FuseSt) : Prop :=
  f.rowA ≤ g.rowA ∧ f.rowB ≤ g.rowB ∧ f.floor ≤ g.floor ∧
    g.devid = f.devid ∧ g.vendor = f.vendor ∧ g.vid = f.vid ∧ g.pid = f.pid ∧
    ∀ k, (tget g.slots {} k).hash = (tget f.slots {} k).hash ∧
      ((tget f.slots {} k).revoked = true → (tget g.slots {} k).revoked = true)

/-- The registers outside a list are as before. -/
def State.sameRegs (s t : State) (l : List Nat) : Prop := ∀ a, a ∉ l → t.rd a = s.rd a

/-- Registers, memory and events aside, the state is as before. -/
def State.onlyRegs (s t : State) : Prop := t = { s with regs := t.regs }

/-! ## Dexgar instructions -/

/-- A core stands at an instruction that it can execute, and its condition holds (R183, R184). -/
def State.stands (s : State) (c : Core) (e : Enc) (i : Instr) : Prop :=
  s.ready c = true ∧ s.fetchOf c = .op i ∧ holds (s.core c).flags e.cond = true

/-- What an instruction does to FLAGS (R181): `none` for a flag that it leaves; SAT follows V and is sticky. -/
structure NewFlags where
  z : Option Bool := none
  n : Option Bool := none
  c : Option Bool := none
  v : Option Bool := none
  t : Option Bool := none
  dz : Option Bool := none
  deriving DecidableEq, Repr

/-- FLAGS `new` follow from `old`; with NOFLAGS they are `old` (R217). -/
def NewFlags.hold (k : NewFlags) (e : Enc) (old new : Flags) : Prop :=
  if e.noFlags then new = old
  else
    flagAt new 0 = k.z.getD (flagAt old 0) ∧ flagAt new 1 = k.n.getD (flagAt old 1) ∧ flagAt new 2 = k.c.getD (flagAt old 2) ∧
    flagAt new 3 = k.v.getD (flagAt old 3) ∧ flagAt new 4 = k.t.getD (flagAt old 4) ∧ flagAt new 5 = k.dz.getD (flagAt old 5) ∧
    flagAt new 6 = (k.v.getD false || flagAt old 6)

/-- Beside one core's state nothing has changed. -/
def State.onlyCore (s t : State) (c : Core) : Prop :=
  t = { s with cores := t.cores } ∧ ∀ d : Nat, d ≠ c.val → t.core d = s.core d

/-- The instruction completes on its core: register `d` (none where there is no destination) holds `r`, FLAGS follow `k`, PC is at
the next instruction, and nothing else changes but what the fetch does (`State.began`) and the blocks that the core requests. -/
def State.completes (s : State) (c : Core) (e : Enc) (i : Instr) (d : Option GReg) (r : Word) (k : NewFlags) : Prop :=
  ∃ t, exec i s = .next t ∧ (s.began c e.len).onlyCore t c ∧
    (∀ q : GReg, (t.core c).gr q = if d = some q then r else (s.core c).gr q) ∧
    k.hold e (s.core c).flags (t.core c).flags ∧
    (t.core c).pc = nextPc (s.core c).pc e.len ∧
    t.core c = { ((s.began c e.len).core c) with
      g := (t.core c).g, flags := (t.core c).flags, pc := (t.core c).pc, requested := (t.core c).requested }

/-- The command answers a next state, which satisfies `P`. -/
def State.does (s : State) (i : Instr) (P : State → Prop) : Prop := ∃ t, exec i s = .next t ∧ P t

/-- A core has taken a precise fault (R230, R231, R421, R443): its fault registers hold the cause, the PC and the address, it is stopped,
JRN has been handed the FAULT record with what CORE_ESC says now, and its suppression list has ended. Nothing else has changed: no core's
state and no memory. -/
def State.trapped (s t : State) (c : Core) (cause kind addr : Nat) : Prop :=
  let pc := (s.core c).pc
  let u := ((s.wr (CORE_FAULT c) (BitVec.ofNat 32 (cause + 256 * kind))).wr (CORE_FLTPC c) pc).wr (CORE_FLTADDR c) (BitVec.ofNat 32 addr)
  let g : Group := {
    frm := .fault c (c.val != 8 && bitAt (s.rd CORE_ESC) c)
    recs := [{ kind := 7, src := c, argd := cause + 256 * kind, body := [pc.toNat, addr] ++ nowWords s.time }] }
  let v := if s.fabric = true then { u with jrn := { u.jrn with handed := u.jrn.handed ++ [g] } } else u
  t.rd (CORE_FAULT c) = BitVec.ofNat 32 (cause + 256 * kind) ∧ t.rd (CORE_FLTPC c) = pc ∧
  t.rd (CORE_FLTADDR c) = BitVec.ofNat 32 addr ∧ t.faulted c = true ∧ t.mem = s.mem ∧ (∀ d, t.core d = s.core d) ∧
  t = if c.val = 8 then v else v.dropList c

/-- Beside one core, in which only PC, requested blocks and what `x` holds are new, nothing has changed. -/
def State.coreIs (s t : State) (c : Core) (pc : Word) (x : CoreSt) : Prop :=
  s.onlyCore t c ∧ t.core c = { x with pc := pc, requested := (t.core c).requested }

/-- Z and N follow a result (R181). -/
def znOf (r : Word) : NewFlags := { z := some (decide (r = 0)), n := some r.msb }

/-- Z and N follow a result, C and V are given. -/
def zncvOf (r : Word) (c v : Bool) : NewFlags := { z := some (decide (r = 0)), n := some r.msb, c := some c, v := some v }

/-- A signed number does not fit in 32 bits. -/
def outOfRange (x : Int) : Bool := decide (x < -2 ^ 31) || decide (2 ^ 31 ≤ x)

/-- The core and the encoding of an instruction whose condition is a gate (R184); the run forms are not (R209). -/
def gatedForm : Instr → Option (Core × Enc)
  | .nop c e | .add c e _ _ | .sub c e _ _ | .adc c e _ _ | .sbc c e _ _ | .and c e _ _ | .or c e _ _ | .xor c e _ _
  | .mov c e _ _ | .movFromSpecial c e _ _ | .movToSpecial c e _ _ | .cmp c e _ _ | .tst c e _ _ | .neg c e _ | .not c e _
  | .mul c e _ _ | .mulh c e _ _ | .mulhu c e _ _ | .div c e _ _ | .divu c e _ _ | .rem c e _ _ | .remu c e _ _ | .shl c e _ _
  | .shr c e _ _ | .sar c e _ _ | .ror c e _ _ | .addi c e _ _ | .movi c e _ _ | .ld c e _ _ _ | .ldh c e _ _ _ | .ldb c e _ _ _
  | .st c e _ _ _ | .sth c e _ _ _ | .stb c e _ _ _ | .br c e _ | .call c e _ | .callReg c e _ | .ret c e | .jr c e _
  | .reti c e | .sleep c e | .waitev c e | .ckpt c e | .par c e _ | .brev c e _ | .brevb c e _ | .crcb c e _ | .crcw c e _
  | .xcpy c e | .xfil c e | .xcmp c e | .xfnd c e | .xcrc c e | .tstc c e _ => some (c, e)
  | _ => none

/-- The core and the encoding of a block instruction in its run form (R207). -/
def runOf : Instr → Option (Core × Enc)
  | .xcpyRun c e | .xfilRun c e | .xcmpRun c e | .xfndRun c e | .xcrcRun c e => some (c, e)
  | _ => none

/-! ## What a Caer link sends -/

/-- A sequenced frame can leave on a link at once (R359, R360). -/
def State.roomOn (s : State) (n : Nat) : Prop :=
  s.linkUp n = true ∧ (s.link n).unacked.length < 16 ∧ (s.link n).waiting = []

/-- A sequenced frame has left on a link with the next LSEQ, and is kept until it is acknowledged (R360). -/
def State.sentSeq (s t : State) (n : Nat) (f : CFrame) : Prop :=
  let x := s.link n
  let g := { f with src := s.hub, lseq := x.nextSeq }
  (t.link n).unacked = x.unacked ++ [g] ∧ (t.link n).nextSeq = (x.nextSeq + 1) % 4096 ∧
    (t.link n).wire = x.wire ++ [{ g with ackseq := some ((x.expSeq + 4095) % 4096) }]

/-- A frame that is not sequenced has left on a link (R360). -/
def State.sentNow (s t : State) (n : Nat) (f : CFrame) : Prop :=
  (t.link n).wire = (s.link n).wire ++ [{ f with ackseq := some (((s.link n).expSeq + 4095) % 4096) }]

end Sys2Proof.Machine
end

