-- ==== Sys2Proof/Certificates/Slice0/Obligations.lean ====
section
/-! DEFINITION. The statements for the provers. -/

open Sys2Proof Sys2Proof.Machine

/-! ## The Dexgar cores (chapters 7 and 8) -/

/-- R183, R184, R204: with a false condition a gated instruction changes nothing except PC, which moves past it (beside it stands what
the fetch itself does, `State.began`, and the blocks that the core requests); TSTC writes its condition, tested on the current FLAGS, to
T and changes no other flag. -/
def Obligations.Conditions : Prop :=
  (∀ (i : Instr) (c : Core) (e : Enc) (s : State), gatedForm i = some (c, e) → s.ready c = true → s.fetchOf c = .op i →
    holds (s.core c).flags e.cond = false →
    ∃ t, exec i s = .next t ∧ (s.began c e.len).onlyCore t c ∧ (t.core c).pc = nextPc (s.core c).pc e.len ∧
      t.core c = { ((s.began c e.len).core c) with pc := (t.core c).pc, requested := (t.core c).requested }) ∧
  ∀ (s : State) (c : Core) (e : Enc) (t : Cond), s.stands c e (.tstc c e t) →
    let f := (s.core c).flags
    s.completes c e (.tstc c e t) none 0 { t := some (match t with
      | .al => true | .eq => flagAt f 0 | .ne => !flagAt f 0 | .cs => flagAt f 2 | .cc => !flagAt f 2 | .mi => flagAt f 1
      | .ge => flagAt f 1 == flagAt f 3 | .ts => flagAt f 4) }

/-- R188: additions and subtractions write the sum modulo 2^32, with Z and N from it, C the carry (no borrow for a subtraction)
and V the signed overflow, and leave the other registers and flags; CMP writes no register. -/
def Obligations.AdditionsAndSubtractions : Prop :=
  ∀ (s : State) (c : Core) (e : Enc) (d r : GReg) (imm : Word),
    let a := (s.core c).gr d
    let b := (s.core c).gr r
    let k := flagAt (s.core c).flags 2
    let up := fun (x y : Word) (cin : Bool) => zncvOf (x + y + BitVec.ofNat 32 cin.toNat)
      (decide (2 ^ 32 ≤ x.toNat + y.toNat + cin.toNat)) (outOfRange (x.toInt + y.toInt + cin.toNat))
    let down := fun (x y : Word) (cin : Bool) => zncvOf (x - y - BitVec.ofNat 32 (!cin).toNat)
      (decide (y.toNat + (!cin).toNat ≤ x.toNat)) (outOfRange (x.toInt - y.toInt - (!cin).toNat))
    (s.stands c e (.add c e d r) → s.completes c e (.add c e d r) (some d) (a + b) (up a b false)) ∧
    (s.stands c e (.adc c e d r) →
      s.completes c e (.adc c e d r) (some d) (a + b + BitVec.ofNat 32 k.toNat) (up a b k)) ∧
    (s.stands c e (.addi c e d imm) → s.completes c e (.addi c e d imm) (some d) (a + imm) (up a imm false)) ∧
    (s.stands c e (.sub c e d r) → s.completes c e (.sub c e d r) (some d) (a - b) (down a b true)) ∧
    (s.stands c e (.sbc c e d r) →
      s.completes c e (.sbc c e d r) (some d) (a - b - BitVec.ofNat 32 (!k).toNat) (down a b k)) ∧
    (s.stands c e (.cmp c e d r) → s.completes c e (.cmp c e d r) none 0 (down a b true)) ∧
    (s.stands c e (.neg c e d) → s.completes c e (.neg c e d) (some d) (-a) (down 0 a true))

/-- R185, R191, R192, R212: the logical instructions set Z and N from their result and leave C and V; MOV and MOVI change no flag; shifts and
the rotate go by the amount gs[5:0]: Z and N follow the result, C is the last bit shifted out and stays for an amount of 0, and V never
changes. -/
def Obligations.LogicMovesAndShifts : Prop :=
  ∀ (s : State) (c : Core) (e : Enc) (d r : GReg) (imm : Word),
    let a := (s.core c).gr d
    let b := (s.core c).gr r
    let n := ((s.core c).gr r).toNat % 64
    let k := fun (y : Word) (cy : Bool) => { znOf y with c := if n = 0 then none else some cy }
    (s.stands c e (.and c e d r) → s.completes c e (.and c e d r) (some d) (a &&& b) (znOf (a &&& b))) ∧
    (s.stands c e (.or c e d r) → s.completes c e (.or c e d r) (some d) (a ||| b) (znOf (a ||| b))) ∧
    (s.stands c e (.xor c e d r) → s.completes c e (.xor c e d r) (some d) (a ^^^ b) (znOf (a ^^^ b))) ∧
    (s.stands c e (.not c e d) → s.completes c e (.not c e d) (some d) (~~~a) (znOf (~~~a))) ∧
    (s.stands c e (.tst c e d r) → s.completes c e (.tst c e d r) none 0 (znOf (a &&& b))) ∧
    (s.stands c e (.mov c e d r) → s.completes c e (.mov c e d r) (some d) b {}) ∧
    (s.stands c e (.movi c e d imm) → s.completes c e (.movi c e d imm) (some d) imm {}) ∧
    (s.stands c e (.nop c e) → s.completes c e (.nop c e) none 0 {}) ∧
    (∀ y : Word, (∀ k, k < 32 → y.getLsbD k = a.getLsbD (31 - k)) →
      s.stands c e (.brev c e d) → s.completes c e (.brev c e d) (some d) y (znOf y)) ∧
    (∀ y : Word, (∀ k, k < 32 → y.getLsbD k = a.getLsbD (k / 8 * 8 + (7 - k % 8))) →
      s.stands c e (.brevb c e d) → s.completes c e (.brevb c e d) (some d) y (znOf y)) ∧
    (∀ y : Word, y = BitVec.ofNat 32 (((List.range 32).filter fun k => a.getLsbD k).length % 2) →
      s.stands c e (.par c e d) → s.completes c e (.par c e d) (some d) y (znOf y)) ∧
    (s.stands c e (.shl c e d r) →
      s.completes c e (.shl c e d r) (some d) (a <<< n) (k (a <<< n) (decide (n ≤ 32) && a.getLsbD (32 - n)))) ∧
    (s.stands c e (.shr c e d r) →
      s.completes c e (.shr c e d r) (some d) (a >>> n) (k (a >>> n) (a.getLsbD (n - 1)))) ∧
    (s.stands c e (.sar c e d r) →
      s.completes c e (.sar c e d r) (some d) (a.sshiftRight n)
        (k (a.sshiftRight n) (if n ≤ 32 then a.getLsbD (n - 1) else a.msb))) ∧
    (s.stands c e (.ror c e d r) →
      s.completes c e (.ror c e d r) (some d) (a.rotateRight (n % 32))
        (k (a.rotateRight (n % 32)) (a.rotateRight (n % 32)).msb))

/-- R189, R190: products and quotients with their flags; a division by 0 and the signed overflow write what the table gives, and
DZ is sticky. -/
def Obligations.ProductsAndQuotients : Prop :=
  ∀ (s : State) (c : Core) (e : Enc) (d r : GReg),
    let a := (s.core c).gr d
    let b := (s.core c).gr r
    let ovf := a = 0x80000000 ∧ b = 0xFFFFFFFF
    let k := fun (y : Word) (v z : Bool) =>
      { zncvOf y false v with dz := if z then some true else none }
    (s.stands c e (.mul c e d r) → s.completes c e (.mul c e d r) (some d) (a * b)
      (zncvOf (a * b) (decide (2 ^ 32 ≤ a.toNat * b.toNat)) (outOfRange (a.toInt * b.toInt)))) ∧
    (s.stands c e (.mulhu c e d r) → s.completes c e (.mulhu c e d r) (some d) (BitVec.ofNat 32 (a.toNat * b.toNat / 2 ^ 32))
      (znOf (BitVec.ofNat 32 (a.toNat * b.toNat / 2 ^ 32)))) ∧
    (s.stands c e (.mulh c e d r) →
      s.completes c e (.mulh c e d r) (some d) (BitVec.ofInt 32 ((a.toInt * b.toInt).fdiv (2 ^ 32)))
      (znOf (BitVec.ofInt 32 ((a.toInt * b.toInt).fdiv (2 ^ 32))))) ∧
    (s.stands c e (.div c e d r) →
      (b = 0 → s.completes c e (.div c e d r) (some d) 0xFFFFFFFF (k 0xFFFFFFFF false true)) ∧
      (ovf → s.completes c e (.div c e d r) (some d) 0x80000000 (k 0x80000000 true false)) ∧
      (b ≠ 0 → ¬ovf → s.completes c e (.div c e d r) (some d) (BitVec.ofInt 32 (a.toInt.tdiv b.toInt))
        (k (BitVec.ofInt 32 (a.toInt.tdiv b.toInt)) false false))) ∧
    (s.stands c e (.rem c e d r) →
      (b = 0 → s.completes c e (.rem c e d r) (some d) a (k a false true)) ∧
      (ovf → s.completes c e (.rem c e d r) (some d) 0 (k 0 true false)) ∧
      (b ≠ 0 → ¬ovf → s.completes c e (.rem c e d r) (some d) (BitVec.ofInt 32 (a.toInt.tmod b.toInt))
        (k (BitVec.ofInt 32 (a.toInt.tmod b.toInt)) false false))) ∧
    (s.stands c e (.divu c e d r) →
      (b = 0 → s.completes c e (.divu c e d r) (some d) 0xFFFFFFFF (k 0xFFFFFFFF false true)) ∧
      (b ≠ 0 → s.completes c e (.divu c e d r) (some d) (BitVec.ofNat 32 (a.toNat / b.toNat))
        (k (BitVec.ofNat 32 (a.toNat / b.toNat)) false false))) ∧
    (s.stands c e (.remu c e d r) →
      (b = 0 → s.completes c e (.remu c e d r) (some d) a (k a false true)) ∧
      (b ≠ 0 → s.completes c e (.remu c e d r) (some d) (BitVec.ofNat 32 (a.toNat % b.toNat))
        (k (BitVec.ofNat 32 (a.toNat % b.toNat)) false false)))

/-- R205, R180, R210: MOV reads a special register into a gather register; MOV to one replaces the part that the register has, and
the reserved WIDTH leaves CRCC and sets CFGERR. -/
def Obligations.SpecialRegisterMoves : Prop :=
  ∀ (s : State) (c : Core) (e : Enc) (d r : GReg) (k : Special),
    let x := s.core c
    let u := s.began c e.len
    let v := x.gr r
    let resv : Prop := k = .crcc ∧ v.toNat % 4 = 3
    (s.stands c e (.movFromSpecial c e d k) → s.completes c e (.movFromSpecial c e d k) (some d)
      (match k with
        | .lr => x.lr | .flags => x.flags.setWidth 32 | .vbase => x.vbase | .crcv => x.crcv | .crcp => x.crcp
        | .crcc => x.crcc.setWidth 32 | .pcView => x.pc) {}) ∧
    (s.stands c e (.movToSpecial c e k r) → s.does (.movToSpecial c e k r) fun t =>
      (resv → (u.set (if c.val = 8 then OAS_STATUS else CORE_STATUS) ⟨31, 1⟩ 1).onlyCore t c) ∧ (¬resv → u.onlyCore t c) ∧
      (t.core c).pc = nextPc x.pc e.len ∧
      t.core c = { (u.core c) with
        lr := if k = .lr then v else x.lr
        flags := if k = .flags then v.setWidth 7 else x.flags
        vbase := if k = .vbase then v &&& 0x3E00 else x.vbase
        crcv := if k = .crcv then v else x.crcv
        crcp := if k = .crcp then v else x.crcp
        crcc := if k = .crcc ∧ v.toNat % 4 ≠ 3 then v.setWidth 3 else x.crcc
        pc := (t.core c).pc
        requested := (t.core c).requested })

/-- R211: CRCB makes one CRC step, CRCW four, by the width, the polynomial and the direction of the core's CRC registers; `q` is the
reflected polynomial. -/
def Obligations.CrcSteps : Prop :=
  ∀ (s : State) (c : Core) (e : Enc) (r : GReg) (w q : Nat),
    let x := s.core c
    let p := x.crcp.toNat % 2 ^ w
    let one := fun (v b : Nat) =>
      if x.crcc.toNat.testBit 2 then Nat.repeat (fun y => if y % 2 = 1 then (y / 2) ^^^ q else y / 2) 8 ((v % 2 ^ w) ^^^ b)
      else Nat.repeat (fun y => if y.testBit (w - 1) then ((2 * y) ^^^ p) % 2 ^ w else 2 * y % 2 ^ w) 8
        ((v % 2 ^ w) ^^^ (b * 2 ^ (w - 8)))
    let g := (x.gr r).toNat
    let after := fun (i : Instr) (v : Nat) => s.does i fun t => (s.began c e.len).coreIs t c (nextPc x.pc e.len)
      { (s.began c e.len).core c with crcv := BitVec.ofNat 32 v }
    w = (match x.crcc.toNat % 4 with | 0 => 32 | 1 => 16 | _ => 8) → q < 2 ^ w →
    (∀ k, k < w → q.testBit k = p.testBit (w - 1 - k)) →
    (s.stands c e (.crcb c e r) → after (.crcb c e r) (one x.crcv.toNat (g % 256))) ∧
    (s.stands c e (.crcw c e r) → after (.crcw c e r)
      (one (one (one (one x.crcv.toNat (g % 256)) (g / 2 ^ 8 % 256)) (g / 2 ^ 16 % 256)) (g / 2 ^ 24)))

/-- R196, R197, R220: BR and the relative CALL go to next + off, JR, CALL gs and RET to the target in a register, in the form that
bit 31 names; a CALL leaves next in LR. Where the target can be fetched intact, nothing else changes but the fetch buffer. A byte-form
target of BR at 2^31 or above lies in no region: the fault falls on it, and FLTADDR shows it whole. -/
def Obligations.ControlTransfer : Prop :=
  ∀ (s : State) (c : Core) (e : Enc) (r : GReg) (off : Word),
    let x := s.core c
    let u := s.began c e.len
    let next := nextPc x.pc e.len
    let rel := if next.msb then BitVec.ofNat 32 (2 ^ 31 + (next + off).toNat % 2 ^ 31)
      else BitVec.ofNat 32 ((next.toNat + off.toNat) % 16384)
    let far := (next.toNat % 2 ^ 31 + off.toNat) % 2 ^ 32
    let abs := fun (v : Word) => if v.msb then v else BitVec.ofNat 32 (v.toNat % 16384)
    let goes := fun (i : Instr) (pc lr : Word) => s.stands c e i → s.does i fun t =>
      (t.core c).pc = pc ∧
      t.core c = { (u.core c) with
        pc := pc, lr := lr, requested := (t.core c).requested, fetched := (t.core c).fetched } ∧
      (t.faulted c = false → u.onlyCore t c)
    goes (.br c e off) rel x.lr ∧ goes (.call c e off) rel next ∧ goes (.callReg c e r) (abs (x.gr r)) next ∧
      goes (.ret c e) (abs x.lr) x.lr ∧ goes (.jr c e r) (abs (x.gr r)) x.lr ∧
      (next.msb = true → 2 ^ 31 ≤ far → s.stands c e (.br c e off) → s.does (.br c e off) fun t =>
        t.rd (CORE_FAULT c) = BitVec.ofNat 32 (3 + 256 * kindRegion) ∧ t.rd (CORE_FLTPC c) = rel ∧
        t.rd (CORE_FLTADDR c) = BitVec.ofNat 32 far)

/-- R200, R201, R202: RETI in a handler restores PC and FLAGS, leaves the handler state and sends the completion of the claim; SLEEP
outside a handler stops the core until an interrupt; WAITEV with a set latch clears it and goes on, else it waits, and the latch
that is set later ends the wait. RETI outside a handler and SLEEP inside one raise ILLEGAL (R214). -/
def Obligations.HandlersAndWaits : Prop :=
  ∀ (s : State) (c : Core) (e : Enc),
    let x := s.core c
    let u := s.began c e.len
    (s.stands c e (.reti c e) → x.inHandler = true → s.does (.reti c e) fun t =>
      (t.core c).pc = x.savedPc ∧ (t.core c).flags = x.savedFlags ∧ (t.core c).inHandler = false ∧ (t.hc c).done = true ∧
      t.core c = { (u.core c) with
        pc := x.savedPc, flags := x.savedFlags, inHandler := false, requested := (t.core c).requested } ∧
      (t.faulted c = false → ({ u with hic := t.hic } : State).onlyCore t c)) ∧
    (s.stands c e (.reti c e) → x.inHandler = false → s.does (.reti c e) fun t => u.trapped t c 1 0 0) ∧
    (s.stands c e (.sleep c e) → x.inHandler = true → s.does (.sleep c e) fun t => u.trapped t c 1 0 0) ∧
    (s.stands c e (.sleep c e) → x.inHandler = false → s.does (.sleep c e) fun t => u.onlyCore t c ∧
      t.core c = { (u.core c) with mode := .sleep, next := nextPc x.pc e.len }) ∧
    (s.stands c e (.waitev c e) → x.latch = true → s.does (.waitev c e) fun t =>
      u.coreIs t c (nextPc x.pc e.len) { (u.core c) with latch := false }) ∧
    (s.stands c e (.waitev c e) → x.latch = false → s.does (.waitev c e) fun t => u.onlyCore t c ∧
      t.core c = { (u.core c) with mode := .waitev, next := nextPc x.pc e.len }) ∧
    (s.awake c = true → x.mode = .waitev → x.latch = true → s.does (.waitevResume c) fun t =>
      s.coreIs t c x.next { x with latch := false, mode := .run })

/-- R233, R234, R240, R436: CKPT hands JRN the CKPT record and waits; in a handler it captures nothing and sets CKPTSKIP; on C8 it
only moves on. An acknowledgement raises CKCNT, a refusal sets CKPTFAIL, and the core continues after the CKPT. -/
def Obligations.Checkpoints : Prop :=
  ∀ (s : State) (c : Core) (e : Enc),
    let x := s.core c
    let u := s.began c e.len
    let next := nextPc x.pc e.len
    (s.stands c e (.ckpt c e) → c.val = 8 → s.does (.ckpt c e) fun t => u.coreIs t c next (u.core c)) ∧
    (s.stands c e (.ckpt c e) → c.val ≠ 8 → x.inHandler = true → s.does (.ckpt c e) fun t =>
      (u.set (CORE_INFO c) CORE_INFO_CKPTSKIP 1).coreIs t c next (u.core c)) ∧
    (s.stands c e (.ckpt c e) → c.val ≠ 8 → x.inHandler = false → s.does (.ckpt c e) fun t =>
      t.core c = { (u.core c) with mode := .ckpt, next := next } ∧ (∀ d : Nat, d ≠ c.val → t.core d = s.core d) ∧
      t.jrn.handed = s.jrn.handed ++ [{ frm := .ckpt c, recs := [{
        kind := 5, src := c, argd := (s.get (CORE_INFO c) CORE_INFO_CKCNT + 1) % 2 ^ 16
        body := (List.range 8).map (fun r => (x.gr r).toNat) ++
          [x.lr.toNat, x.crcv.toNat, x.crcp.toNat, next.toNat,
            x.flags.toNat + bitsOf x.vbase.toNat 9 5 * 2 ^ 7 + x.crcc.toNat * 2 ^ 12] }] }]) ∧
    (∀ (g : Group) (ok : Bool) (l : List (Group × Bool)), s.jrn.acked = (g, ok) :: l → g.frm = .ckpt c → x.mode = .ckpt →
      s.does (.ckptAck c) fun t => (t.core c).mode = .run ∧ (t.core c).pc = x.next ∧ t.jrn.acked = l ∧
        (ok = true → t.get (CORE_INFO c) CORE_INFO_CKCNT = (s.get (CORE_INFO c) CORE_INFO_CKCNT + 1) % 2 ^ 16) ∧
        (ok = false → t.get (CORE_INFO c) CORE_INFO_CKPTFAIL = 1))

/-- R194, R195, R225: a load whose address the core may not use raises BUS; one outside the core's own memory waits for its answer;
one from the own memory, and the answer, read behind the core's own earlier stores and write the zero-extended value to the
register, or raise BUS where memory reports an error. That all earlier stores take effect before any load of the core reads, and that
the address is checked again when the answer arrives, is the model's choice (log 24). -/
def Obligations.Loads : Prop :=
  ∀ (s : State) (c : Core) (e : Enc) (d r : GReg) (disp : Word),
    let x := s.core c
    let u := s.began c e.len
    let a := (x.gr r + disp).toNat
    let code := fun (b : BusErr) => match b with | .absent => 1 | .decode => 2 | .width => 3 | .ecc => 4
    let answers := fun (v t : State) (l : LoadWait) =>
      let m := (v.drainAll c).busLoad (.core c) l.addr l.width
      (m.2.2 = none → m.1.onlyCore t c ∧ (∀ q : GReg, (t.core c).gr q = if l.dest = q then BitVec.ofNat 32 m.2.1 else (m.1.core c).gr q) ∧
        t.core c = { (m.1.core c) with
          g := (t.core c).g, pc := nextPc (m.1.core c).pc l.len, requested := (t.core c).requested }) ∧
      (∀ b, m.2.2 = some b → m.1.trapped t c 2 (code b) l.addr)
    let form := fun (i : Instr) (k : Nat) => s.stands c e i →
      (∀ b, u.busErr (.core c) a k false = some b → s.does i fun t => (u.errRaise b).trapped t c 2 (code b) a) ∧
      (u.busErr (.core c) a k false = none → ownMemory c a = false → s.does i fun t => u.onlyCore t c ∧
        t.core c = { (u.core c) with load := some { addr := a, width := k, dest := d, len := e.len } }) ∧
      (u.busErr (.core c) a k false = none → ownMemory c a = true →
        s.does i fun t => answers u t { addr := a, width := k, dest := d, len := e.len })
    form (.ld c e d r disp) 4 ∧ form (.ldh c e d r disp) 2 ∧ form (.ldb c e d r disp) 1 ∧
    (∀ l : LoadWait, s.onBus (.core c) = true → x.load = some l →
      s.does (.loadResponse c) fun t => answers (s.modCore c fun x => { x with load := none }) t l)

/-- R194, R195, R226, R273: a store whose address the core may not use raises BUS; any other enters the store buffer, from which the
oldest entry takes effect first where four wait already. STORE_DRAIN lets the oldest take effect at its target, with the held words of the
code that made it. That a full buffer drains its oldest entry before the new one enters is the model's choice (log 24). -/
def Obligations.Stores : Prop :=
  ∀ (s : State) (c : Core) (e : Enc) (d r : GReg) (disp : Word),
    let x := s.core c
    let u := s.began c e.len
    let a := (x.gr r + disp).toNat
    let code := fun (b : BusErr) => match b with | .absent => 1 | .decode => 2 | .width => 3 | .ecc => 4
    let drain := fun (v : State) (p : Posted) (rest : List Posted) =>
      ((v.modCore c fun y => { y with stores := rest }).busStoreHeld (.core c) (heldOf c p.handler) p.addr p.width p.val).1
    let form := fun (i : Instr) (k : Nat) => s.stands c e i →
      (∀ b, u.busErr (.core c) a k true = some b → s.does i fun t => (u.errRaise b).trapped t c 2 (code b) a) ∧
      (u.busErr (.core c) a k true = none →
        let p : Posted := { addr := a, width := k, val := (x.gr d).toNat % 2 ^ (8 * k), handler := x.inHandler }
        (x.stores.length < 4 → s.does i fun t =>
          u.coreIs t c (nextPc x.pc e.len) { (u.core c) with stores := x.stores ++ [p] }) ∧
        (∀ p0 rest, x.stores = p0 :: rest → 4 ≤ x.stores.length → s.does i fun t =>
          let v := drain u p0 rest
          v.coreIs t c (nextPc (v.core c).pc e.len) { (v.core c) with stores := (v.core c).stores ++ [p] }))
    form (.st c e d r disp) 4 ∧ form (.sth c e d r disp) 2 ∧ form (.stb c e d r disp) 1 ∧
    (∀ p rest, s.onBus (.core c) = true → x.stores = p :: rest →
      s.does (.storeDrain c) fun t => t = drain s p rest)

/-- R6, R28, R29, R31: in shared SRAM, the core's scratch and the Oasis data memory, where the words hold no error, an aligned load of
1, 2 or 4 bytes returns them least significant first and changes nothing; an aligned store writes them, and nothing else. -/
def Obligations.MemoryHoldsWhatIsStored : Prop :=
  ∀ (s : State) (c : Core) (a k v : Nat),
    let here := regionOf a = .sram ∨ regionOf a = .ownScratch ∨ regionOf a = .oasisData
    let p := physAddr (.core c) a
    here → k = 1 ∨ k = 2 ∨ k = 4 → s.busErr (.core c) a k false = none → (∀ w, tget s.flips 0 w = 0) →
    s.busLoad (.core c) a k = (s, ofBytesLE ((List.range k).map fun n => mget s.mem (p + n)), none) ∧
    ∃ t, s.busStore (.core c) a k v = (t, none) ∧ t = { s with mem := t.mem, flips := t.flips } ∧ (∀ w, tget t.flips 0 w = 0) ∧
      (∀ n, n < k → mget t.mem (p + n) = BitVec.ofNat 8 (v / 256 ^ n)) ∧
      (∀ b, b < p ∨ p + k ≤ b → mget t.mem b = mget s.mem b)

/-- R206–R209: an element of a block instruction, in the single form, which then moves on, and in a run, which stays at its word until
the length is used up or the stop condition holds on the flags that the element set. `w` is the state after the bytes are read. That
one command performs one element, whose store is posted, is the model's choice (log 23). -/
def Obligations.BlockElements : Prop :=
  ∀ (s w1 w : State) (c : Core) (e : Enc) (b4 b5 : Nat),
    let u := s.began c e.len
    let g := fun (v : State) (q : Nat) => (v.core c).gr q
    let gets := fun (v v' : State) (q b : Nat) => v.byteAt c (g v q).toNat = (v', b, none)
    let cmp := fun (x y : Nat) => ({
      z := some (decide (x = y)), n := some (decide (x < y)), c := some (decide (y ≤ x)), v := some false } : NewFlags)
    let element := fun (t : State) (p5 : Bool) (p4 : Bool) (st : List Posted) (k : NewFlags) (crc : Word) =>
      w.onlyCore t c ∧
      (∀ q : GReg, (t.core c).gr q = if q = 6 then g w 6 - 1 else if q = 5 ∧ p5 = true then g w 5 + 1
        else if q = 4 ∧ p4 = true then g w 4 + 1 else g w q) ∧
      k.hold e (w.core c).flags (t.core c).flags ∧
      t.core c = { (w.core c) with
        g := (t.core c).g, flags := (t.core c).flags, pc := (t.core c).pc, requested := (t.core c).requested
        stores := (w.core c).stores ++ st, crcv := crc }
    let both := fun (one run : Instr) (compares : Bool) (P : State → Prop) =>
      (s.stands c e one → s.does one fun t => P t ∧ (t.core c).pc = nextPc (w.core c).pc e.len) ∧
      (s.ready c = true → s.fetchOf c = .op run → g u 6 ≠ 0 → s.does run fun t => P t ∧
        (t.core c).pc = if g w 6 = 1 ∨ (compares = true ∧ e.cond ≠ .al ∧ holds (t.core c).flags e.cond = true)
          then nextPc (w.core c).pc e.len else (w.core c).pc) ∧
      (s.ready c = true → s.fetchOf c = .op run → g u 6 = 0 → s.does run fun t => u.coreIs t c (nextPc (s.core c).pc e.len) (u.core c))
    let writes := w.busErr (.core c) (g w 5).toNat 1 true = none ∧ (w.core c).stores.length < 4
    let low := (g u 0).toNat % 256
    e.noFlags = false → b4 < 256 → b5 < 256 →
    (gets u w 4 b4 → writes → both (.xcpy c e) (.xcpyRun c e) false fun t =>
      element t true true [{ addr := (g w 5).toNat, width := 1, val := b4, handler := (w.core c).inHandler }] {} (w.core c).crcv) ∧
    (u = w → writes → both (.xfil c e) (.xfilRun c e) false fun t =>
      element t true false [{ addr := (g w 5).toNat, width := 1, val := low, handler := (w.core c).inHandler }] {} (w.core c).crcv) ∧
    (gets u w1 4 b4 → gets w1 w 5 b5 → both (.xcmp c e) (.xcmpRun c e) true fun t =>
      element t true true [] (cmp b4 b5) (w.core c).crcv) ∧
    (gets u w 4 b4 → both (.xfnd c e) (.xfndRun c e) true fun t => element t false true [] (cmp b4 low) (w.core c).crcv) ∧
    (gets u w 4 b4 → both (.xcrc c e) (.xcrcRun c e) false fun t =>
      element t false true [] {} (crcStep (w.core c).crcc (w.core c).crcp (w.core c).crcv (BitVec.ofNat 8 b4)))

/-- R214, R221, R229, R230, R208: a reserved encoding raises ILLEGAL; a word or byte that cannot be fetched intact raises FETCH in place
of any instruction; an element whose write cursor's store, or one of whose reads, ends with a bus error raises BUS. Each stops the core,
fills its fault registers, hands JRN the FAULT record, ends the core's suppression list and changes nothing else (`State.trapped`) but the
error record that the memory or the fabric makes. That FETCH is taken when the instruction's command comes is the model's choice (log 22),
and so is that an element reads its bytes before its store is checked (log 23). -/
def Obligations.PreciseFaults : Prop :=
  ∀ (s w w1 : State) (c : Core) (e : Enc) (b : BusErr) (b4 b5 : Nat),
    let u := s.began c e.len
    let g4 := ((u.core c).gr 4).toNat
    let g5 := fun (v : State) => ((v.core c).gr 5).toNat
    let code := match b with | .absent => 1 | .decode => 2 | .width => 3 | .ecc => 4
    let faults := fun (one run : Instr) (P : State → Prop) =>
      (s.stands c e one → s.does one P) ∧ (s.ready c = true → s.fetchOf c = .op run → (u.core c).gr 6 ≠ 0 → s.does run P)
    let writes := fun (t : State) => (w.errRaise b).trapped t c 2 code (g5 w)
    let reads := fun (a : Nat) (t : State) => w.trapped t c 2 code a
    (∀ n, s.ready c = true → s.fetchOf c = .illegal n → s.does (.reservedEncoding c n) fun t => s.trapped t c 1 0 0) ∧
    (∀ i kind addr, gatedForm i = some (c, e) ∨ runOf i = some (c, e) → s.ready c = true → s.fetchOf c = .fault kind addr →
      let v := if kind = 5 then (s.check (progAddr c addr)).1 else if c.val = 8 ∧ kind = 4 then (s.check addr).1 else s
      s.does i fun t => v.trapped t c 3 kind addr) ∧
    (w.busErr (.core c) (g5 w) 1 true = some b →
      (u = w → faults (.xfil c e) (.xfilRun c e) writes) ∧
      (u.byteAt c g4 = (w, b4, none) → faults (.xcpy c e) (.xcpyRun c e) writes)) ∧
    (u.byteAt c g4 = (w, b4, some b) → faults (.xcpy c e) (.xcpyRun c e) (reads g4) ∧ faults (.xcmp c e) (.xcmpRun c e) (reads g4) ∧
      faults (.xfnd c e) (.xfndRun c e) (reads g4) ∧ faults (.xcrc c e) (.xcrcRun c e) (reads g4)) ∧
    (u.byteAt c g4 = (w1, b4, none) → w1.byteAt c (g5 w1) = (w, b5, some b) →
      faults (.xcmp c e) (.xcmpRun c e) (reads (g5 w1)))

/-! ## The core cluster (chapter 8) -/

/-- R224, R228: a requested block enters the fetch buffer in place of the least recently executed one; a store through a program-memory
load window writes the 14-bit word while the core does not run, and sets PMWR while it runs. When a block is requested and dropped is
the model's reading (log 25), and that one which has come counts as executed last is its choice (log 77). -/
def Obligations.CodeReachesTheCores : Prop :=
  ∀ (s : State) (c : Core) (b : Word) (r : Req) (w : BitVec 14) (v : Word),
    let bytes := (List.range 8).map fun n => mget s.mem (b.toNat + n)
    let held := (s.core c).fetched.filter fun p => p.1 != b.toNat
    (s.fabric = true → b.toNat ∈ (s.core c).requested → (∀ a, tget s.flips 0 a = 0) →
      s.does (.fetchBlockArrival c b) fun t =>
        (t.core c).fetched = (if 4 ≤ held.length then held.drop 1 else held) ++ [(b.toNat, bytes)] ∧
        t.core c = { s.core c with
          fetched := (t.core c).fetched, requested := (t.core c).requested } ∧
        t.mem = s.mem ∧ (t.faulted c = false → s.onlyCore t c)) ∧
    (s.hasCore c = true → s.fabric = true ∨ c.val = 8 → s.mayStore r (progAddr c w.toNat) = true →
      (s.running c = true → s.does (.programWindowStore r c w v) fun t =>
        t.get CORE_STATUS CORE_STATUS_PMWR = 1 ∧ s.onlyRegs t ∧ s.sameRegs t [CORE_STATUS]) ∧
      (s.running c = false → s.does (.programWindowStore r c w v) fun t =>
        t.progWord c w.toNat = some (v.toNat % 2 ^ 14) ∧ t = { s with mem := t.mem, flips := t.flips } ∧
        ∀ a, a < progAddr c w.toNat ∨ progAddr c w.toNat + 4 ≤ a → mget t.mem a = mget s.mem a))

/-- R238, R232, R239, R242: RUN starts a core that has not started since its reset at CORE_START, and a core stopped in SLEEP or WAITEV
executes that word again; CLRFLT clears the fault, the handler state and the claim and loads PC from CORE_START; DIV takes 24 to
240 and any other value sets CFGERR. What else CLRFLT leaves as it is, is the model's reading (log 26). -/
def Obligations.RunningACore : Prop :=
  ∀ (s : State) (c : Core) (k : Fin 8) (div : Byte),
    let x := s.core c
    let start := let v := s.rd (CORE_START c); if v.msb then v else BitVec.ofNat 32 (v.toNat % 16384)
    s.hasCore c = true → s.fabric = true ∨ c.val = 8 →
    (s.does (.coreRun c true) fun t => t.get (CORE_CTL c) CORE_CTL_RUN = 1 ∧ (t.core c).started = true ∧
      t.core c = (if x.started then x else { x with pc := start, started := true, requested := (t.core c).requested }) ∧
      t = { s with regs := t.regs, cores := t.cores, hic := t.hic, pow := t.pow }) ∧
    (s.does (.coreRun c false) fun t => t.get (CORE_CTL c) CORE_CTL_RUN = 0 ∧
      t.core c = (if x.mode = .sleep ∨ x.mode = .waitev then { x with mode := .run } else x) ∧
      t = { s with regs := t.regs, cores := t.cores } ∧ s.sameRegs t [CORE_CTL c]) ∧
    (s.faulted c = true → s.does (.coreClrflt c) fun t => t.rd (CORE_FAULT c) = 0 ∧ (t.hc c).claim = 0x3FE ∧ (t.hc c).inh = false ∧
      t.core c = { x with pc := start, inHandler := false, mode := .run, load := none, requested := (t.core c).requested } ∧
      t = { s with regs := t.regs, cores := t.cores, hic := t.hic, pow := t.pow }) ∧
    (s.fabric = true → s.hasCore k = true →
      (24 ≤ div.toNat → div.toNat ≤ 240 → s.does (.coreDiv k div) fun t =>
        t.get (CORE_CTL k) CORE_CTL_DIV = div.toNat ∧ s.onlyRegs t ∧ s.sameRegs t [CORE_CTL k]) ∧
      (div.toNat < 24 ∨ 240 < div.toNat → s.does (.coreDiv k div) fun t =>
        bitAt (t.rd CORE_STATUS) 31 = true ∧ s.onlyRegs t ∧ s.sameRegs t [CORE_STATUS]))

/-- R235–R237, R240: EN starts a watchdog from 0; the key restarts it and another word sets WDBADKEY; each strobe raises every running count,
unless the debug port holds the core, and half of TIMEOUT sets WDWARN; a count of C0–C7 that reaches TIMEOUT causes the WARM reset, one
of C8 the AO reset. A ring sets its doorbells and the event latches of the cores that their masks name, a clear clears the doorbells
named, and CORE_EVSET sets the latches of the cores named. That the reset comes with the strobe that brings the count to TIMEOUT is the model's reading (log 26). -/
def Obligations.WatchdogsDoorbellsAndLatches : Prop :=
  ∀ (s : State) (c : Core) (v : Word),
    let moves := fun (k : Nat) => s.wdOn k && !(s.core k).held
    let bites := fun (k : Nat) => moves k = true ∧ s.wdTimeout k ≤ (s.core k).wd + 1
    let counts := fun (k : Nat) (t : State) =>
      (t.core k).wd = (if moves k then (s.core k).wd + 1 else (s.core k).wd) ∧
      (moves k = true → (s.core k).wd + 1 = s.wdTimeout k / 2 → t.get (CORE_INFO k) CORE_INFO_WDWARN = 1)
    (s.hasCore c = true → s.fabric = true ∨ c.val = 8 →
      (s.wdOn c = false → s.does (.watchdogEnable c) fun t => t.wdOn c = true ∧ (t.core c).wd = 0 ∧
        t = { s with regs := t.regs, cores := t.cores }) ∧
      (s.wdOn c = true → v.toNat % 2 ^ 16 = 0x7E1A → s.does (.watchdogKick c v) fun t => (t.core c).wd = 0 ∧
        t = { s with regs := t.regs, cores := t.cores }) ∧
      (v.toNat % 2 ^ 16 ≠ 0x7E1A → s.does (.watchdogKick c v) fun t => t.get (CORE_INFO c) CORE_INFO_WDBADKEY = 1 ∧
        s.onlyRegs t ∧ s.sameRegs t [CORE_INFO c])) ∧
    (s.pow.phase ≠ .cold → ¬bites 8 → s.does (.watchdogAdvance true) fun t =>
      counts 8 t ∧ t = { s with regs := t.regs, cores := t.cores }) ∧
    (s.fabric = true → bites 8 → s.does (.watchdogAdvance true) fun t =>
      t.get SYS_RESETCAUSE SYS_RESETCAUSE_OASWDOG = 1 ∧ t.core 8 = {} ∧ ∀ k, k < 8 → t.core k = s.core k) ∧
    (s.fabric = true → s.pow.pllT = true → s.pstate < 2 → (∀ k, k < 8 → ¬bites k) → s.does (.watchdogAdvance false) fun t =>
      (∀ k, k < 8 → counts k t) ∧ t = { s with regs := t.regs, cores := t.cores }) ∧
    (s.fabric = true → s.pow.pllT = true → s.pstate < 2 → (∃ k, k < 8 ∧ bites k) → s.does (.watchdogAdvance false) fun t =>
      t.get SYS_RESETCAUSE SYS_RESETCAUSE_WDOG = 1 ∧ t.pow.phase = .warm) ∧
    (s.fabric = true →
      (s.does (.doorbellRing v) fun t =>
        (∀ d, d < 16 → bitAt (t.rd CORE_DBELL_SET) d = (bitAt (s.rd CORE_DBELL_SET) d || bitAt v d)) ∧
        (∀ c, c < 9 → s.hasCore c = true → (t.core c).latch = ((s.core c).latch ||
          (List.range 16).any fun d => bitAt v d && (s.get (CORE_DBELL_EVMASK d) CORE_DBELL_EVMASK_CORES).testBit c)) ∧
        t = { s with regs := t.regs, cores := t.cores } ∧ s.sameRegs t [CORE_DBELL_SET]) ∧
      (s.does (.doorbellClear v) fun t =>
        (∀ d, d < 16 → bitAt (t.rd CORE_DBELL_SET) d = (bitAt (s.rd CORE_DBELL_SET) d && !bitAt v d)) ∧
        s.onlyRegs t ∧ s.sameRegs t [CORE_DBELL_SET]) ∧
      (s.does (.eventSet v) fun t =>
        (∀ c, c < 9 → s.hasCore c = true → (t.core c).latch = ((s.core c).latch || bitAt v c)) ∧
        t = { s with cores := t.cores }))

/-! ## Interrupts and power states (chapter 9) -/

/-- R23, R244–R246: an edge event of an enabled edge source, the first under way from its island, adds to the pending count, or to the held
count until it reaches CCOUNT or CTIME elapses, and then the source pends with the held events; a disabled source ignores it; a level
source that changes pends while it is asserted and enabled, unless a core holds it. That an event while the source is pending adds to
its count, as the held events do at CTIME, is the model's reading (log 28), and so is which island an event comes from. The requests of the
rule units cross from FLT too: their changes arrive in the order in which FLT sent them, and an event that has arrived is one fewer ahead
of the groups of records that its island has handed to JRN (log 11). -/
def Obligations.EventsReachTheController : Prop :=
  ∀ (s : State) (n : Src) (u : Nat) (l : List Nat),
    let held := fun (t : State) => tget t.hic.held 0 n.val
    let cfg := fun (f : Fld) => s.get (HIC_SRC_CFG n.val) f
    let en := cfg HIC_SRC_CFG_EN = 1 ∧ n.val < 255
    s.fabric = true →
    (s.nextFrom (islandOf n) = some n.val → s.does (.sourceEvent n) fun t => t.hic.inflight = s.hic.inflight.erase n.val ∧
      t.jrn = { s.jrn with handed := s.jrn.handed.map fun g =>
        if g.frm.island = islandOf n then { g with events := g.events - 1 } else g } ∧
      (¬en ∨ cfg HIC_SRC_CFG_KIND = 1 → t.pend n.val = s.pend n.val ∧ held t = held s) ∧
      (en → cfg HIC_SRC_CFG_KIND = 0 →
        (s.pend n.val ≠ 0 → t.pend n.val = min 255 (s.pend n.val + 1) ∧ held t = held s) ∧
        (s.pend n.val = 0 → cfg HIC_SRC_CFG_CCOUNT ≤ min 255 (held s + 1) →
          t.pend n.val = min 255 (held s + 1) ∧ held t = 0) ∧
        (s.pend n.val = 0 → min 255 (held s + 1) < cfg HIC_SRC_CFG_CCOUNT → t.pend n.val = 0 ∧ held t = min 255 (held s + 1)))) ∧
    (held s ≠ 0 → s.get (HIC_SRC_CTIME n.val) HIC_SRC_CTIME_CTIME ≠ 0 → s.does (.coalesceTimeout n) fun t =>
      t.pend n.val = min 255 (s.pend n.val + held s) ∧ held t = 0) ∧
    (n.val < 255 → cfg HIC_SRC_CFG_KIND = 1 → n.val < 32 ∨ 128 ≤ n.val → s.levelOf n.val ≠ tget s.hic.lvl false n.val →
      s.does (.levelChange n) fun t => tget t.hic.lvl false n.val = s.levelOf n.val ∧
      t.pend n.val = if s.inService n.val then s.pend n.val else if s.levelOf n.val = true ∧ en then 1 else 0) ∧
    (s.hic.asks = u :: l → u < 96 → n.val = 32 + u → s.does (.levelChange n) fun t =>
      t.hic.asks = l ∧ tget t.hic.lvl false n.val = !tget s.hic.lvl false n.val ∧
      t.pend n.val = if s.inService n.val then s.pend n.val else if tget s.hic.lvl false n.val = false ∧ en then 1 else 0)

/-- R245, R252, R474: a software raise rings a doorbell, or makes an enabled source pend at once, or for source 255 sets CFGERR; a clear
returns edge sources to idle; a write to HIC_SRC_CFG keeps KIND and POL of the sources below 240, drops the targets of absent
cores, and with EN = 0 returns the source to idle. That a software raise of a pending edge source adds to its count, leaving what the
coalescer holds, and that EN = 0 discards the held count, is the model's reading (log 28). -/
def Obligations.SourcesUnderSoftware : Prop :=
  ∀ (s : State) (v : Word) (j : Fin 8) (n : Fin 255),
    let src := v.toNat % 256
    let cfg := fun (t : State) (f : Fld) => t.get (HIC_SRC_CFG n.val) f
    s.fabric = true →
    (s.does (.softwareRaise v) fun t =>
      (src < 224 ∨ 240 ≤ src → src ≠ 255 → t.pend src = if s.srcEn src = true
        then (if s.isLevel src then 1 else min 255 (s.pend src + 1)) else s.pend src) ∧
      (224 ≤ src → src < 240 →
        (∀ d, d < 16 → bitAt (t.rd CORE_DBELL_SET) d = (bitAt (s.rd CORE_DBELL_SET) d || d == src - 224)) ∧
        (∀ c, c < 9 → s.hasCore c = true → (t.core c).latch =
          ((s.core c).latch || (s.get (CORE_DBELL_EVMASK (src - 224)) CORE_DBELL_EVMASK_CORES).testBit c)) ∧
        t = { s with regs := t.regs, cores := t.cores } ∧ s.sameRegs t [CORE_DBELL_SET]) ∧
      (src = 255 → bitAt (t.rd HIC_STATUS) 31 = true ∧ s.onlyRegs t ∧ s.sameRegs t [HIC_STATUS])) ∧
    (s.does (.pendClear j v) fun t => ∀ i, i < 32 → 32 * j.val + i < 255 →
      t.pend (32 * j.val + i) = (if bitAt v i = true ∧ s.isLevel (32 * j.val + i) = false then 0 else s.pend (32 * j.val + i)) ∧
      (bitAt v i = true → s.isLevel (32 * j.val + i) = false → tget t.hic.held 0 (32 * j.val + i) = 0)) ∧
    (s.does (.sourceConfigWrite n v) fun t =>
      cfg t HIC_SRC_CFG_EN = fieldOf v HIC_SRC_CFG_EN ∧ cfg t HIC_SRC_CFG_HOST = fieldOf v HIC_SRC_CFG_HOST ∧
      cfg t HIC_SRC_CFG_TGT = fieldOf v HIC_SRC_CFG_TGT &&& (2 ^ 8 + (2 ^ s.nCore - 1)) ∧
      (fieldOf v HIC_SRC_CFG_CCOUNT ≠ 0 → cfg t HIC_SRC_CFG_CCOUNT = fieldOf v HIC_SRC_CFG_CCOUNT) ∧
      (fieldOf v HIC_SRC_CFG_CCOUNT = 0 → cfg t HIC_SRC_CFG_CCOUNT = cfg s HIC_SRC_CFG_CCOUNT ∧ bitAt (t.rd HIC_STATUS) 31 = true) ∧
      (n.val < 240 → cfg t HIC_SRC_CFG_KIND = cfg s HIC_SRC_CFG_KIND ∧ cfg t HIC_SRC_CFG_POL = cfg s HIC_SRC_CFG_POL) ∧
      (240 ≤ n.val → cfg t HIC_SRC_CFG_KIND = fieldOf v HIC_SRC_CFG_KIND ∧ cfg t HIC_SRC_CFG_POL = fieldOf v HIC_SRC_CFG_POL) ∧
      (fieldOf v HIC_SRC_CFG_EN = 0 → t.pend n.val = 0 ∧ tget t.hic.held 0 n.val = 0))

/-- R248–R251, R199: the offered core saves its return target and FLAGS and enters handler state; the grant takes the source of the lowest
number that can be granted, or is spurious; the core goes on at the vector; and its RETI ends the claim. R260: a core with reserved sources
is granted only one of them or one of higher priority than they all, and its reservations end. That a source which a wake has reserved is
kept from the other cores (`State.candidates`), and what several reservations of one core let through, is the model's reading (log 28). -/
def Obligations.InterruptDelivery : Prop :=
  ∀ (s : State) (c : Core),
    let x := s.core c
    let may := fun (q : Nat) => q ∈ (s.hc c).resv ∨ ∀ r, r ∈ (s.hc c).resv → q ≤ r
    (s.awake c = true → (s.hc c).offer = true → x.load = none → x.inHandler = false →
      x.mode = .run ∨ x.mode = .sleep ∨ x.mode = .waitev → s.does (.interruptAccept c) fun t =>
        t.core c = { x with
          savedPc := if x.mode = .sleep then x.next else x.pc, savedFlags := x.flags, inHandler := true, mode := .accepted } ∧
        t.hc c = { s.hc c with offer := false, accept := true } ∧ t = { s with cores := t.cores, hic := t.hic }) ∧
    (s.fabric = true → (s.hc c).accept = true → s.does (.interruptGrant c) fun t =>
      (t.hc c).accept = false ∧ (s.pstate = 0 → (t.hc c).resv = []) ∧
      (∀ src, src ∈ s.candidates c → may src → (∀ q, q ∈ s.candidates c → may q → src ≤ q) →
        (t.hc c).grant = some src ∧ (t.hc c).claim = src ∧ t.pend src = 0 ∧
        (t.hc c).events = if s.isLevel src then 1 else s.pend src) ∧
      ((∀ q, q ∈ s.candidates c → ¬may q) → (t.hc c).grant = some 0x3FF ∧ (t.hc c).claim = 0x3FF ∧
        t.get HIC_STATUS HIC_STATUS_SPURCNT = (s.get HIC_STATUS HIC_STATUS_SPURCNT + 1) % 2 ^ HIC_STATUS_SPURCNT.w)) ∧
    (∀ (src d : Nat), d < 9 → d ≠ c.val → src ∈ (s.hc d).resv → src ∉ s.candidates c) ∧
    (∀ g, s.awake c = true → x.mode = .accepted → (s.hc c).grant = some g → g < 256 ∨ g = 0x3FF → s.does (.vectorEntry c) fun t =>
      t.core c = { x with
        pc := BitVec.ofNat 32 ((x.vbase.toNat + if g = 0x3FF then 0x100 else g) % 16384), mode := .run } ∧
      t.hc c = { s.hc c with grant := none, inh := true } ∧ t = { s with cores := t.cores, hic := t.hic }) ∧
    ((s.hc c).done = true → s.does (.claimComplete c) fun t =>
      (t.hc c).claim = 0x3FE ∧ (t.hc c).inh = false ∧ (t.hc c).done = false ∧ (t.hc c).events = 0 ∧ t.cores = s.cores ∧
      ((s.hc c).claim < 255 → s.isLevel (s.hc c).claim = true →
        tget t.hic.lvl false (s.hc c).claim =
          if 32 ≤ (s.hc c).claim ∧ (s.hc c).claim < 128 then tget s.hic.lvl false (s.hc c).claim else s.levelOf (s.hc c).claim))

/-- R257–R259, R261–R263, R67: a request that the table allows starts an entry; the entry ends in its state once the cores have stopped, and
in OASIS PWR_EN falls; a wake cause ends an entry or starts a wake, which ends in RUN, from OASIS once VCORE has risen; PWRTO gives
a wake up. The model's choices: while a wake runs a request for another state that the table allows is ignored with REQIGN and one for RUN
has no effect, and the wake timer counts only while STATE is not RUN (log 27); the watcher acts at OASIS_WATCH_ASSERT, and offers C8 a source only outside a handler (log 29); an entry waits for
what `State.entryReady` names, and PWRTO ends the wake with PWR_EN low (log 64). -/
def Obligations.PowerStates : Prop :=
  ∀ (s : State) (v : Word) (k : Nat),
    let st := s.pstate
    let ao := s.aoOn = true
    let idle := s.pow.entry = none ∧ st ≠ 0 ∧ s.pow.waking = none
    let cause := fun (n : Nat) (t : State) => t.rd OAS_WAKECAUSE = BitVec.ofNat 32 (2 ^ 31 + 2 ^ 8 * n)
    let woken := fun (n : Nat) (t : State) => cause n t ∧ t.pow.waking = some st ∧ t.pow.pwrEn = true
    let ended := fun (n : Nat) (t : State) => cause n t ∧ t.get OAS_STATUS OAS_STATUS_ENTRYABRT = 1 ∧ t.pow.entry = none ∧
      t.get OAS_PWRSTATE OAS_PWRSTATE_TRANS = 0 ∧ t.pow.waking = if st = 0 then none else some st
    (ao → v.toNat / 2 ^ 16 = 0xA5D0 → v.toNat % 8 = k →
      (k ≠ 0 → (st, k) ∈ [(0, 1), (0, 2), (0, 3), (1, 2), (1, 3), (2, 3)] → s.pow.entry = none → s.pow.waking = none →
        s.does (.powerRequest v) fun t => t.pow.entry = some k ∧ t.get OAS_PWRSTATE OAS_PWRSTATE_TRANS = 1 ∧ t.pstate = st) ∧
      (k = 0 → idle → st < 4 → s.does (.powerRequest v) (woken 4)) ∧
      (k < 4 → s.pow.entry.isSome = true ∨ (st, k) ∈ [(2, 1), (3, 1), (3, 2)] ∨
          s.pow.waking.isSome = true ∧ (st, k) ∈ [(1, 2), (1, 3), (2, 3)] → s.does (.powerRequest v) fun t =>
        t.get OAS_STATUS OAS_STATUS_REQIGN = 1 ∧ t.pow = s.pow ∧ s.onlyRegs t ∧ s.sameRegs t [OAS_STATUS]) ∧
      (s.pow.entry = none → k < 4 → k = st ∨ k = 0 ∧ st < 4 ∧ s.pow.waking.isSome = true → s.does (.powerRequest v) fun t => t = s)) ∧
    (ao → v.toNat / 2 ^ 16 ≠ 0xA5D0 → s.does (.powerRequest v) fun t => t = s) ∧
    (s.pow.entry = some k → s.fabric = true → s.entryReady k = true → s.wakeSources = [] → k = 1 ∨ k = 2 ∨ k = 3 →
      s.does .powerEntryComplete fun t => t.pstate = k ∧ t.get OAS_PWRSTATE OAS_PWRSTATE_TRANS = 0 ∧ t.pow.entry = none ∧
        (k = 3 → t.pow.phase = .oasis ∧ t.pow.pwrEn = false)) ∧
    (st ≠ 0 → s.get SYS_STATUS SYS_STATUS_XT32OK = 1 → s.get OAS_WAKETMR OAS_WAKETMR_TICKS ≠ 0 → s.does .wakeTimer fun t =>
      t.get OAS_WAKETMR OAS_WAKETMR_TICKS = 0 ∧ (idle → woken 2 t) ∧ (s.pow.entry.isSome = true → ended 2 t)) ∧
    (s.fabric = true ∨ s.pow.phase = .oasis → s.does .dapWake fun t => (idle → woken 3 t) ∧ (s.pow.entry.isSome = true → ended 3 t)) ∧
    (∀ src rest, s.pow.phase = .oasis → idle → s.watchWakes = src :: rest → s.does .oasisWatchAssert fun t =>
      t.rd OAS_WAKECAUSE = BitVec.ofNat 32 (2 ^ 31 + 2 ^ 8 + src) ∧ t.pow.waking = some st ∧ t.pow.pwrEn = true) ∧
    (∀ src rest, s.pow.phase = .oasis → s.watchWakes = [] → s.watchForC8 = src :: rest → (s.core 8).inHandler = false →
      (s.hc 8).done = false → s.does .oasisWatchAssert fun t => t = { s with pow := { s.pow with watchOffer := true } }) ∧
    (∀ w, s.pow.waking = some w → w ≠ 3 ∨ s.pow.vcoreUp = true → s.does .wakeComplete fun t =>
      t.pstate = 0 ∧ t.pow.waking = none ∧ (w = 3 → t.pow.phase = .up)) ∧
    (s.pow.phase = .oasis → s.pow.waking.isSome = true → s.pow.vcoreUp = false → s.does .pwrto fun t =>
      t.pow = { s.pow with pwrEn := false, waking := none } ∧ t.get SYS_STATUS SYS_STATUS_PWRTO = 1 ∧
      t = { s with pow := t.pow, regs := t.regs } ∧ s.sameRegs t [SYS_STATUS])

/-! ## Queues (chapter 10) -/

/-- R271, R276, R272, R273: what a push does, whether a fabric unit makes it or PUSHH completes one: an EMPTY item sets BADPUSH; a queue
that is not enabled, or in RESTORE, drops and counts it; an item goes to slot WR while two slots are free; into the last slot goes
a cullet; a full queue counts in its live cullet, or sets LOST. PUSHL holds the low word in the requester's set of held words, for its
queue. A unit's push finds the state in which what its island sent to the interrupt controller before has arrived (R23): `State.eventsIn`,
whose islands are the model's reading (log 11). -/
def Obligations.Pushes : Prop :=
  ∀ (s : State) (u : Pusher) (r : Req) (q : QIx) (item : Item) (lo v : Word),
    let h := s.heldIx r
    let size := s.qsize q
    let landed := match u with
      | .flt => s.eventsIn .flt | .teu => s.eventsIn .teu | .time => s.eventsIn .time | .caer _ => s.eventsIn .caer | .dme _ => s
    let drops := fun (t : State) => t.get (QM_Q_DROPS q) QM_Q_DROPS_DROPS
    let dropped := fun (t : State) => drops t = min (2 ^ QM_Q_DROPS_DROPS.w - 1) (drops s + 1)
    let pushed := fun (v : State) (y : Item) (t : State) =>
      let x := s.qst q
      let moves := fun (t : State) (wr : Nat) => (t.qst q).wr = wr ∧ (t.qst q).rd = x.rd ∧ (t.qst q).mark = x.mark
      (y = emptyItem → t.get QM_STATUS QM_STATUS_BADPUSH = 1 ∧ t.qst q = x ∧ t.mem = s.mem ∧ v.sameRegs t [QM_STATUS]) ∧
      (y ≠ emptyItem → s.qlive q = false → dropped t ∧ t.qst q = x ∧ t.mem = s.mem ∧ v.sameRegs t [QM_Q_DROPS q]) ∧
      (y ≠ emptyItem → s.qlive q = true →
        (s.occ q + 2 ≤ size →
          t.getSlot q x.wr = (y, 0) ∧ t.getSlot q (x.wr + 1) = (emptyItem, 0) ∧ moves t (x.wr + 1) ∧ (t.qst q).live = false) ∧
        (s.occ q + 1 = size → x.live = false →
          t.getSlot q x.wr = (BitVec.ofNat 64 (y.toNat % 2 ^ 32 * 2 ^ 32 + 0x71 * 2 ^ 25 + 1), 0) ∧ moves t (x.wr + 1) ∧
          (t.qst q).live = true ∧ dropped t) ∧
        (size ≤ s.occ q + 1 → x.live = true → dropped t ∧ moves t x.wr ∧ (t.qst q).live = true ∧
          (t.getSlot q (x.wr - 1)).1.toNat % 2 ^ 24 = min (2 ^ 24 - 1) ((s.getSlot q (x.wr - 1)).1.toNat % 2 ^ 24 + 1)) ∧
        (size ≤ s.occ q → x.live = false → dropped t ∧ t.get (QM_Q_FLAGS q) QM_Q_FLAGS_LOST = 1 ∧ moves t x.wr ∧ t.mem = s.mem))
    s.fabric = true →
    (s.does (.push u q item) (pushed landed item)) ∧
    (s.mayStore r (0x50000000 + 256 * q.val) = true → s.does (.pushl r q v) fun t =>
      t.heldSet h = { s.heldSet h with push := some (q.val, v) } ∧ t = { s with qm := t.qm } ∧ t.qm.q = s.qm.q) ∧
    (s.mayStore r (0x50000004 + 256 * q.val) = true →
      ((s.heldSet h).push = some (q.val, lo) → s.does (.pushh r q v) fun t => pushed s (v ++ lo) t ∧ (t.heldSet h).push = none) ∧
      ((∀ w, (s.heldSet h).push ≠ some (q.val, w)) → s.does (.pushh r q v) fun t =>
        t.get (QM_Q_FLAGS q) QM_Q_FLAGS_SEQERR = 1 ∧ s.onlyRegs t ∧ s.sameRegs t [QM_Q_FLAGS q]))

/-- R278, R272: a pop returns the item at RD and moves RD; with nothing available it returns EMPTY and changes no position; a slot that
fails parity gives the DAMAGED item and sets PARERR. POPL returns the low word and holds the high one, PEEKL does so and keeps the
item, HELD returns the word held for its queue, or all ones with SEQERR. MARK follows RD while MEN = 0. A read of QM_Q_DROPS returns and
clears it (R10). -/
def Obligations.Pops : Prop :=
  ∀ (s : State) (r : Req) (q : QIx) (hi : Word),
    let x := s.qst q
    let h := s.heldIx r
    let there := s.qlive q = true ∧ s.avail q ≠ 0
    let slot := s.getSlot q x.rd
    let item : Item := if ¬there then emptyItem else if slot.2 = 0 then slot.1 else BitVec.ofNat 64 (0x72 * 2 ^ 25 + x.rd % s.qsize q)
    let parity := fun (t : State) => there → slot.2 ≠ 0 →
      t.get (QM_Q_FLAGS q) QM_Q_FLAGS_PARERR = 1 ∧ t.get QM_STATUS QM_STATUS_PARERR = 1
    let taken := fun (t : State) => (t.qst q).rd = (if there then x.rd + 1 else x.rd) ∧ (t.qst q).wr = x.wr ∧
      (t.qst q).mark = if there ∧ s.get (QM_Q_CFG q) QM_Q_CFG_MEN = 0 then x.rd + 1 else x.mark
    let low := fun (t : State) => t.rdata = BitVec.ofNat 64 (item.toNat % 2 ^ 32) ∧ t.rerr = none ∧
      t.heldSet h = { s.heldSet h with pop := some (q.val, BitVec.ofNat 32 (item.toNat / 2 ^ 32)) }
    s.fabric = true →
    (s.does (.pop q) fun t => t.rdata = item ∧ t.rerr = none ∧ taken t ∧ parity t) ∧
    (s.does (.popl r q) fun t => low t ∧ taken t ∧ parity t) ∧
    (s.does (.peekl r q) fun t => low t ∧ t.qst q = x ∧ t.mem = s.mem ∧ parity t) ∧
    ((s.heldSet h).pop = some (q.val, hi) → s.does (.held r q) fun t =>
      t = { s with rdata := BitVec.ofNat 64 hi.toNat, rerr := none }) ∧
    ((∀ w, (s.heldSet h).pop ≠ some (q.val, w)) → s.does (.held r q) fun t =>
      t.rdata = 0xFFFFFFFF ∧ t.get (QM_Q_FLAGS q) QM_Q_FLAGS_SEQERR = 1 ∧ s.sameRegs t [QM_Q_FLAGS q] ∧ t.qm = s.qm) ∧
    (s.does (.qmDropsRead q) fun t =>
      t.rdata = BitVec.ofNat 64 (s.get (QM_Q_DROPS q) QM_Q_DROPS_DROPS) ∧ t.get (QM_Q_DROPS q) QM_Q_DROPS_DROPS = 0 ∧
      s.sameRegs t [QM_Q_DROPS q] ∧ t = { s with regs := t.regs, rdata := t.rdata, rerr := none })

/-- R281, R283: on an enabled queue, COMMIT with MEN = 1 moves MARK to RD, or with JRNEN = 1 hands JRN a QMARK record and waits, one commit
at a time; REWIND moves RD back to MARK; FLUSH moves RD to WR, and MARK with it where MEN = 0. JRN's acknowledgement moves the mark, its
refusal sets QMFAIL. -/
def Obligations.QueueCommands : Prop :=
  ∀ (s : State) (q : QIx) (p : Nat) (ok : Bool) (g : Group) (l : List (Group × Bool)),
    let x := s.qst q
    let men := s.get (QM_Q_CFG q) QM_Q_CFG_MEN = 1
    let jrn := s.get (QM_Q_CFG q) QM_Q_CFG_JRNEN = 1
    let at_ := fun (t : State) (rd wr mark : Nat) => (t.qst q).rd = rd ∧ (t.qst q).wr = wr ∧ (t.qst q).mark = mark
    (s.fabric = true → s.qlive q = true →
      (men → ¬jrn → s.does (.commit q) fun t => at_ t x.rd x.wr x.rd) ∧
      (men → jrn → x.busy = none → s.does (.commit q) fun t => at_ t x.rd x.wr x.mark ∧ (t.qst q).busy = some x.rd ∧
        t.jrn.handed = s.jrn.handed ++ [{ frm := .qmark q, recs := [{
          kind := 3, src := q, argd := x.rd % s.qsize q, body := [(s.rd (QM_Q_CFG q)).toNat % 2 ^ 20] }] }]) ∧
      (men → jrn → x.busy.isSome = true → s.does (.commit q) fun t => t.qst q = { x with again := true } ∧ t = { s with qm := t.qm }) ∧
      (men → s.does (.rewind q) fun t => at_ t x.mark x.wr x.mark) ∧
      (¬men → (s.does (.commit q) fun t => t = s) ∧ (s.does (.rewind q) fun t => t = s)) ∧
      (s.does (.flush q) fun t => at_ t x.wr x.wr (if men ∧ jrn then x.mark else x.wr) ∧ (t.qst q).live = false)) ∧
    (s.jrn.acked = (g, ok) :: l → g.frm = .qmark q → x.busy = some p → x.again = false → s.does (.commitAck q) fun t =>
      t.jrn.acked = l ∧ (t.qst q).busy = none ∧
      (ok = true → s.qlive q = true → x.mark ≤ p → (t.qst q).mark = p ∧ (t.qst q).rd = max x.rd p) ∧
      (ok = false → t.get (QM_Q_FLAGS q) QM_Q_FLAGS_QMFAIL = 1 ∧ (t.qst q).mark = x.mark ∧ (t.qst q).rd = x.rd))

/-- R288, R284, R266: a write to QM_Q_CFG that enables a queue takes BASE and LOG2SIZE and starts it empty, or in RESTORE while a replay
after a WARM reset runs and JRNEN = 1; a BASE that is no multiple of the size leaves the register and sets CFGERR. The end of the
restore scan finds the items from MARK on. The model's choices (log 30): a disable ends RESTORE; a queue that enters RESTORE after step 3 of
the replay is restored at once, to the MARK of its latest QMARK if that has the same layout, or released. -/
def Obligations.QueueEnableAndRestore : Prop :=
  ∀ (s : State) (q : QIx) (v : Word) (m : Nat),
    let cfg := fun (t : State) (f : Fld) => t.get (QM_Q_CFG q) f
    let lg := fieldOf v QM_Q_CFG_LOG2SIZE
    let aligned := fieldOf v QM_Q_CFG_BASE % (if lg = 0 then 65536 else 2 ^ lg) = 0
    (s.fabric = true → cfg s QM_Q_CFG_EN = 0 → lg = 0 ∨ 4 ≤ lg → fieldOf v QM_Q_CFG_JRNEN = 0 ∨ fieldOf v QM_Q_CFG_MEN = 1 →
      (aligned → fieldOf v QM_Q_CFG_EN = 1 → s.does (.queueConfigWrite q v) fun t =>
        cfg t QM_Q_CFG_EN = 1 ∧ cfg t QM_Q_CFG_BASE = fieldOf v QM_Q_CFG_BASE ∧ cfg t QM_Q_CFG_LOG2SIZE = lg ∧
        cfg t QM_Q_CFG_MEN = fieldOf v QM_Q_CFG_MEN ∧ cfg t QM_Q_CFG_JRNEN = fieldOf v QM_Q_CFG_JRNEN ∧
        let window := fieldOf v QM_Q_CFG_JRNEN = 1 ∧ s.get JRN_STATUS JRN_STATUS_REPLAYING = 1 ∧ s.boot.load ≠ some .cold
        let mark := (tget s.jrn.qmarks none q).map Prod.snd
        let same := fun (y : Rec) => mark = some y ∧ y.body.getD 0 0 = (t.rd (QM_Q_CFG q)).toNat % 2 ^ 20
        (t.qst q).live = false ∧ (t.qst q).wr = 0 ∧
        ((t.qst q).restore = true ↔ window ∧ (s.jrn.restored = true → ∃ y, same y)) ∧
        (window → s.jrn.restored = true → ∀ y, same y →
          (t.qst q).scan = some y.argd ∧ (t.qst q).rd = y.argd ∧ (t.qst q).mark = y.argd) ∧
        (¬(window ∧ s.jrn.restored = true ∧ ∃ y, same y) → (t.qst q).rd = 0 ∧ (t.qst q).mark = 0) ∧
        ((t.qst q).restore = false → t.getSlot q 0 = (emptyItem, 0))) ∧
      (¬aligned → s.does (.queueConfigWrite q v) fun t =>
        bitAt (t.rd QM_STATUS) 31 = true ∧ s.onlyRegs t ∧ s.sameRegs t [QM_STATUS])) ∧
    (s.fabric = true → cfg s QM_Q_CFG_EN = 1 → fieldOf v QM_Q_CFG_EN = 0 → lg = 0 ∨ 4 ≤ lg → aligned →
      fieldOf v QM_Q_CFG_JRNEN = 0 ∨ fieldOf v QM_Q_CFG_MEN = 1 → s.does (.queueConfigWrite q v) fun t =>
        cfg t QM_Q_CFG_EN = 0 ∧ cfg t QM_Q_CFG_BASE = cfg s QM_Q_CFG_BASE ∧ (t.qst q).restore = false ∧ (t.qst q).wr = (s.qst q).wr) ∧
    (∀ k, (s.qst q).restore = true → (s.qst q).scan = some m → k ≤ s.qsize q →
      (∀ j, j < k → (s.getSlot q (m + j)).2 = 0 ∧ (s.getSlot q (m + j)).1 ≠ emptyItem) →
      k = s.qsize q ∨ (s.getSlot q (m + k)).2 ≠ 0 ∨ (s.getSlot q (m + k)).1 = emptyItem → s.does (.restoreScanEnd q) fun t =>
        (t.qst q).restore = false ∧ (t.qst q).rd = m ∧ (t.qst q).mark = m ∧ (t.qst q).wr = m + k ∧
        (k < s.qsize q → (s.getSlot q (m + k)).2 ≠ 0 → t.get (QM_Q_FLAGS q) QM_Q_FLAGS_PARERR = 1))

/-! ## DMA (chapter 11) -/

/-- R297, R298, R302: ARM sets SHVALID, or SHCOLL while it is set; EN = 1 enables; EN = 0 aborts a busy channel and disarms an idle one; a
shadow register takes a word it allows while SHVALID = 0; the shadow set becomes the active one when the channel is enabled, armed
and idle, and the first element is requested, unless the fixed address does not suit its mode, which stops it with KIND 8. -/
def Obligations.DmaControl : Prop :=
  ∀ (s : State) (k : Dma) (v : Word),
    let stat := fun (t : State) (f : Fld) => t.get (DME_CH_STAT k) f
    let armed := stat s DME_CH_STAT_SHVALID = 1
    let busy := stat s DME_CH_STAT_BUSY = 1
    let writes := fun (a : Nat) (t : State) => t.rd a = v ∧ s.onlyRegs t ∧ s.sameRegs t [a]
    let refused := fun (t : State) => bitAt (t.rd DME_STATUS) 31 = true ∧ s.onlyRegs t ∧ s.sameRegs t [DME_STATUS]
    s.fabric = true →
    (s.does (.dmeArm k) fun t => stat t DME_CH_STAT_SHVALID = 1 ∧ (armed → stat t DME_CH_STAT_SHCOLL = 1) ∧ s.onlyRegs t ∧
      s.sameRegs t [DME_CH_STAT k]) ∧
    (s.does (.dmeEnable k) fun t => t.get (DME_CH_CTL k) DME_CH_CTL_EN = 1 ∧ s.onlyRegs t ∧ s.sameRegs t [DME_CH_CTL k]) ∧
    (s.does (.dmeAbort k) fun t => t.get (DME_CH_CTL k) DME_CH_CTL_EN = 0 ∧
      (busy → t.dch k = { s.dch k with aborting := true } ∧ s.sameRegs t [DME_CH_CTL k]) ∧
      (¬busy → stat t DME_CH_STAT_SHVALID = 0 ∧ s.onlyRegs t)) ∧
    (armed → ∀ r, s.does (.dmeShadowWrite k r v) fun t => stat t DME_CH_STAT_SHCOLL = 1 ∧ s.onlyRegs t ∧ s.sameRegs t [DME_CH_STAT k]) ∧
    (¬armed →
      (v.toNat % 8 = 0 → s.does (.dmeShadowWrite k .slist v) (writes (DME_CH_SLIST k))) ∧
      (v.toNat % 8 ≠ 0 → s.does (.dmeShadowWrite k .slist v) refused) ∧
      (s.does (.dmeShadowWrite k .sfix v) (writes (DME_CH_SFIX k))) ∧
      (fieldOf v DME_CH_SCFG_FIXMODE ≠ 3 → s.does (.dmeShadowWrite k .scfg v) fun t =>
        (∀ f, f ∈ [DME_CH_SCFG_FIXMODE, DME_CH_SCFG_LISTSIDE, DME_CH_SCFG_PRI, DME_CH_SCFG_JRNEN, DME_CH_SCFG_QWAIT,
          DME_CH_SCFG_HALFIE, DME_CH_SCFG_FULLIE] → t.get (DME_CH_SCFG k) f = fieldOf v f) ∧
        s.onlyRegs t ∧ s.sameRegs t [DME_CH_SCFG k]) ∧
      (fieldOf v DME_CH_SCFG_FIXMODE = 3 → s.does (.dmeShadowWrite k .scfg v) refused)) ∧
    (armed → ¬busy → s.get (DME_CH_CTL k) DME_CH_CTL_EN = 1 → stat s DME_CH_STAT_ERROR = 0 →
      let fix := (s.rd (DME_CH_SFIX k)).toNat
      let mode := s.get (DME_CH_SCFG k) DME_CH_SCFG_FIXMODE
      let suits := (mode = 1 → fix % 4 = 0) ∧ (mode = 2 → fix % 256 = 0 ∧ 0x50000000 ≤ fix ∧ fix < 0x50004000)
      s.does (.shadowCopy k) fun t =>
        t.rd (DME_CH_CFG k) = s.rd (DME_CH_SCFG k) ∧ t.rd (DME_CH_FIX k) = s.rd (DME_CH_SFIX k) ∧
        t.rd (DME_CH_LIST k) = s.rd (DME_CH_SLIST k) ∧ t.rd (DME_CH_DONEB k) = 0 ∧ stat t DME_CH_STAT_SHVALID = 0 ∧
        (suits → stat t DME_CH_STAT_BUSY = 1 ∧ t.dch k = { fetch := some ((s.rd (DME_CH_SLIST k)).toNat, 0) }) ∧
        (¬suits → stat t DME_CH_STAT_BUSY = 0 ∧ stat t DME_CH_STAT_ERROR = 1 ∧ stat t DME_CH_STAT_KIND = 8 ∧ t.dch k = {}))

/-- R294–R296, R300–R303: an element that arrives is checked, followed as a LINK, or becomes the current one; a completed one sets its
marks and its bytes count in DONEB; the first error stops the transfer once its bursts have drained, and an abort stops it with ABORTED.
The model's readings (log 31): the lengths that stop with KIND LIST, whose ERRLIST is 0, the sixteenth LINK in a row, that what arrives
while the current element has bytes to write waits its turn, and that ELEMENT_COMPLETE acknowledges the oldest element. -/
def Obligations.DmaElements : Prop :=
  ∀ (s : State) (k : Dma) (addr links : Nat) (e : DmaEl) (r : List DmaEl) (x : DmaErr),
    let stat := fun (t : State) (f : Fld) => t.get (DME_CH_STAT k) f
    let raised := fun (t : State) => t.hic.inflight = s.hic.inflight ++ [160 + k.val]
    let w0 := ofBytesLE ((List.range 4).map fun n => mget s.mem (addr + n))
    let w1 := ofBytesLE ((List.range 4).map fun n => mget s.mem (addr + 4 + n))
    let len := w1 % 2 ^ 24
    let unit := if s.fixMode k = 2 then 8 else if s.fixMode k = 1 ∨ wordRegion w0 = true then 4 else 1
    let bad := bitsOf w1 26 5 ≠ 0 ∨ (w1.testBit 25 = true ∧ (w1.testBit 31 = true ∨ 15 ≤ links)) ∨ (w1.testBit 25 = false ∧ len % unit ≠ 0)
    s.fabric = true → stat s DME_CH_STAT_BUSY = 1 →
    ((s.dch k).fetch = some (addr, links) → (s.dch k).err = none → (s.dch k).aborting = false → (∀ a, tget s.flips 0 a = 0) →
      (addr % 8 ≠ 0 ∨ 0x100000 ≤ addr ∨ bad → s.does (.elementFetch k) fun t =>
        let stops : DmaErr := { kind := 7, addr := addr, el := addr }
        t.dch k = if (s.dch k).cur = none then { s.dch k with fetch := none, err := some stops }
          else { s.dch k with fetch := none, ahead := some (.bad stops) }) ∧
      (addr % 8 = 0 → addr < 0x100000 → ¬bad → w1.testBit 25 = true → s.does (.elementFetch k) fun t =>
        t.dch k = { s.dch k with fetch := some (w0, links + 1) }) ∧
      (addr % 8 = 0 → addr < 0x100000 → ¬bad → w1.testBit 25 = false → (s.dch k).cur.isSome = true → s.does (.elementFetch k) fun t =>
        t.dch k = { s.dch k with fetch := none, ahead := some (.element addr w0 w1) } ∧ t = { s with dme := t.dme }) ∧
      (addr % 8 = 0 → addr < 0x100000 → ¬bad → w1.testBit 25 = false → (s.dch k).cur = none → len ≠ 0 → s.does (.elementFetch k) fun t =>
        t.rd (DME_CH_LIST k) = BitVec.ofNat 32 addr ∧ t.rd (DME_CH_ADDR k) = BitVec.ofNat 32 w0 ∧
        t.get (DME_CH_REM k) DME_CH_REM_REM = len ∧ (t.dch k).fetch = none ∧
        ∃ el : DmaEl, (t.dch k).cur = some el ∧ el.addr = addr ∧ el.len = len ∧ el.mark = w1.testBit 24 ∧ el.fin = w1.testBit 31)) ∧
    ((s.dch k).done = e :: r → (s.dch k).aborting = false → (r = [] ∨ ∃ e' r', r = e' :: r' ∧ e'.len ≠ 0) →
      s.does (.elementComplete k) fun t => (t.dch k).done = r ∧
        ((s.dch k).cur = none → t.rd (DME_CH_DONEB k) = s.rd (DME_CH_DONEB k) + BitVec.ofNat 32 e.out) ∧
        (e.mark = true → stat t DME_CH_STAT_DONE_HALF = 1) ∧
        (e.fin = true → stat t DME_CH_STAT_DONE_FULL = 1 ∧ stat t DME_CH_STAT_BUSY = 0) ∧
        (e.fin = false → stat t DME_CH_STAT_BUSY = 1)) ∧
    ((s.dch k).err = some x → (s.dch k).done = [] → (s.dch k).aborting = false → x.kind < 16 → s.does (.dmeBusError k) fun t =>
      stat t DME_CH_STAT_BUSY = 0 ∧ stat t DME_CH_STAT_ERROR = 1 ∧ stat t DME_CH_STAT_KIND = x.kind ∧
      stat t DME_CH_STAT_ERRSIDE = x.write.toNat ∧ stat t DME_CH_STAT_ERRLIST = x.list.toNat ∧
      (x.kind ≠ 8 → t.rd (DME_CH_ERRADDR k) = BitVec.ofNat 32 x.addr) ∧ t.dch k = {} ∧ raised t) ∧
    ((s.dch k).aborting = true → s.does (.abortComplete k) fun t =>
      stat t DME_CH_STAT_BUSY = 0 ∧ stat t DME_CH_STAT_ABORTED = 1 ∧ stat t DME_CH_STAT_SHVALID = 0 ∧ t.dch k = {} ∧ raised t)

/-- R290, R292, R299: the burst that the engine serves next moves bytes between the list side in shared SRAM, whose words hold no error, and a
fixed side: one that increments or the one word of a constant one, in shared SRAM too, in either direction, and the registers follow; or a
queue port, from which items are popped, or EMPTY words with the queue empty, and to which items are pushed (R291). With QWAIT an EMPTY word
is not written and the channel waits; its repeated pop writes the item, or waits on while the queue stays empty. The element whose last
byte is issued waits for its acknowledgements, and the next one is requested (R295). The bytes written count in DONEB once they are
acknowledged. That one command moves one whole burst, what is acknowledged at once, and that a retry repeats one pop is the model's reading
(log 31). -/
def Obligations.DmaMovesBytes : Prop :=
  ∀ (s : State) (k : Dma) (e : DmaEl),
    let list := (s.rd (DME_CH_ADDR k)).toNat
    let fix := (s.rd (DME_CH_FIX k)).toNat
    let rem := s.get (DME_CH_REM k) DME_CH_REM_REM
    let alone := ∀ d, d ∈ (s.dch k).done → d.fly = 0
    let moved := fun (t : State) (n : Nat) => (t.rd (DME_CH_ADDR k)).toNat = list + n ∧ t.get (DME_CH_REM k) DME_CH_REM_REM = rem - n ∧
      (t.dch k).part = [] ∧
      t.rd (DME_CH_DONEB k) = s.rd (DME_CH_DONEB k) + BitVec.ofNat 32 (if alone ∧ n < rem then e.out + n else 0) ∧
      (n < rem → (t.dch k).cur = some { e with
        out := if alone then 0 else e.out + n, fly := if alone then 0 else if n = 0 then e.fly else e.fly + 1 }) ∧
      (n = rem → (t.dch k).cur = none ∧ (t.dch k).done = (s.dch k).done ++ [{ e with out := e.out + n, fly := e.fly + 1 }] ∧
        (t.dch k).fetch = if e.fin then none else some ((e.addr + 8) % 2 ^ 32, 0))
    let room := min rem (64 - list % 64)
    s.fabric = true → (∀ a, tget s.flips 0 a = 0) → (s.dch k).cur = some e → (s.dch k).part = [] → (s.dch k).ahead = none →
    list + 64 ≤ 0x100000 →
    (s.dmePick = some k.val → s.fixMode k = 0 → fix + 64 ≤ 0x100000 → s.does .dmeBurst fun t =>
      let n := min room (64 - fix % 64)
      let src := if s.listDest k then fix else list
      let dst := if s.listDest k then list else fix
      moved t n ∧ (t.rd (DME_CH_FIX k)).toNat = fix + n ∧
      (∀ b, b < n → mget t.mem (dst + b) = mget s.mem (src + b)) ∧
      (∀ b, b < dst ∨ dst + n ≤ b → mget t.mem b = mget s.mem b)) ∧
    (s.dmePick = some k.val → s.fixMode k = 1 → fix + 4 ≤ 0x100000 → fix % 4 = 0 → list % 4 = 0 → rem % 4 = 0 → s.does .dmeBurst fun t =>
      moved t room ∧ t.rd (DME_CH_FIX k) = s.rd (DME_CH_FIX k) ∧
      (s.listDest k = true → (∀ b, b < room → mget t.mem (list + b) = mget s.mem (fix + b % 4)) ∧
        ∀ b, b < list ∨ list + room ≤ b → mget t.mem b = mget s.mem b) ∧
      (s.listDest k = false → (∀ b, b < 4 → mget t.mem (fix + b) = mget s.mem (list + room - 4 + b)) ∧
        ∀ b, b < fix ∨ fix + 4 ≤ b → mget t.mem b = mget s.mem b)) ∧
    (s.dmePick = some k.val → s.fixMode k = 2 → list % 8 = 0 → rem % 8 = 0 → ∀ q : QIx, fix = 0x50000000 + 256 * q.val →
      let x := s.qst q
      let waits := s.get (DME_CH_CFG k) DME_CH_SCFG_QWAIT = 1
      s.qlive q = true →
      (s.listDest k = true → room / 8 ≤ s.avail q →
        (∀ j, j < room / 8 → (s.getSlot q (x.rd + j)).2 = 0 ∧ (s.getSlot q (x.rd + j)).1 ≠ emptyItem) → s.does .dmeBurst fun t =>
          moved t room ∧ (t.qst q).rd = x.rd + room / 8 ∧
          ∀ j, j < room / 8 → t.mrd (list + 8 * j) 8 = (s.getSlot q (x.rd + j)).1.toNat) ∧
      (s.listDest k = true → s.avail q = 0 → s.does .dmeBurst fun t =>
        (waits → moved t 0 ∧ (t.dch k).wait = true ∧ t.mem = s.mem) ∧
        (¬waits → moved t room ∧ (t.dch k).wait = false ∧ ∀ j, j < room / 8 → t.mrd (list + 8 * j) 8 = emptyItem.toNat)) ∧
      (s.listDest k = false → s.occ q + room / 8 + 1 ≤ s.qsize q →
        (∀ j, j < room / 8 → s.mrd (list + 8 * j) 8 ≠ emptyItem.toNat) → s.does .dmeBurst fun t =>
          moved t room ∧ (t.qst q).wr = x.wr + room / 8 ∧
          ∀ j, j < room / 8 → t.getSlot q (x.wr + j) = (BitVec.ofNat 64 (s.mrd (list + 8 * j) 8), 0))) ∧
    ((s.dch k).wait = true → s.dstat k DME_CH_STAT_BUSY = true → (s.dch k).err = none → (s.dch k).aborting = false → 8 ≤ rem →
      (s.dch k).flying < 2 → s.dflying < 4 → s.fixMode k = 2 → s.listDest k = true → s.get (DME_CH_CFG k) DME_CH_SCFG_QWAIT = 1 → list % 8 = 0 →
      ∀ q : QIx, fix = 0x50000000 + 256 * q.val →
      ((s.front q).2 ≠ emptyItem → s.does (.qwaitRetry k) fun t => moved t 8 ∧ (t.dch k).wait = false ∧
        t.mrd list 8 = (s.front q).2.toNat ∧ (t.qst q).rd = (s.qst q).rd + 1) ∧
      (s.qlive q = true → s.avail q = 0 → s.does (.qwaitRetry k) fun t => moved t 0 ∧ (t.dch k).wait = true))

/-! ## Time, launches and actuation (chapter 12) -/

/-- R23, R305–R307, R320: TIME_NOW0 captures the counter for its requester. What FAB has sent to TIME before, JRN's answers among it, and what
TIME has sent to the HIC are there by then, and a store finds those answers too; how far they have come otherwise is the model's choice
(log 11). SET and STEPNS move it to the nearest whole multiple of 488.28125 ns and set STEPPED; HOLD is written; the
boundary of a second comes at its tick, or where that has passed at the present count (the model's choice, log 10), and raises source 15. -/
def Obligations.PlantTime : Prop :=
  ∀ (s : State) (r : Req) (v : Word) (b : Bool),
    let modulus : Int := 2 ^ 48 * 256000000
    let steps := fun (target : Int) (t : State) => ∃ k : Int, 2 * (target - 15625 * k).natAbs ≤ 15625 ∧
      (t.time : Int) = (s.time + 125 * k) % modulus ∧ t.get TIME_STATUS TIME_STATUS_STEPPED = 1
    (s.fabric = true →
      (s.does (.timeCapture r) fun t => t.rdata = BitVec.ofNat 64 (s.time % 256000000 * 125 / 32) ∧ t.rerr = none ∧
        tget t.tim.latch 0 (latchIx r) = s.time ∧ (∀ src, src ∈ t.hic.inflight → islandOf src ≠ .time) ∧
        t = { s.throughTime with rdata := t.rdata, rerr := none, tim := t.tim }) ∧
      (s.does .counterSet fun t => steps (32 * (((s.rd TIME_SET1).toNat + 2 ^ 32 * s.get TIME_SET2 TIME_SET2_SECHI) * 10 ^ 9 +
        (s.rd TIME_SET0).toNat : Nat) - (125 * s.time : Nat)) t) ∧
      (s.does (.counterStep v) fun t => steps (32 * v.toInt) t) ∧
      (s.does (.holdWrite b) fun t => t.get TIME_CTL TIME_CTL_HOLD = b.toNat ∧
        s.answersIn.sameRegs t [TIME_CTL] ∧ t = { s.answersIn with regs := t.regs, jrn := t.jrn })) ∧
    (s.pow.pllT = true → s.does .secondBoundary fun t =>
      t.time = (if s.time / 256000000 ≤ s.tim.sec then (s.time / 256000000 + 1) * 256000000 else s.time) ∧
      t.tim.sec = t.time / 256000000 ∧ (s.fabric = true → 15 ∈ t.hic.inflight))

/-- R308–R311: a sample from the source that SRC selects moves the integrator and the trim, steps the counter where it is large, and
takes the servo through its states; any other is ignored. A written frequency is loaded, limited to 200 ppm; without samples the
servo enters HOLDOVER at its integrator. The trim reaches PLL_T while REFOK is 1 (R79). That the samples towards LOCKED are counted from
any state of the servo is the model's choice (log 36). -/
def Obligations.TheServo : Prop :=
  ∀ (s : State) (o v : Word) (n : Port) (rest : List (Nat × Word)),
    let lim : Int := 200000 * 2 ^ 20
    let cfg := fun (f : Fld) => s.get TIME_SRV_CFG f
    let tuned := fun (t : State) => t.tim.pll = if s.get SYS_STATUS SYS_STATUS_REFOK = 1 then t.tim.trim else s.tim.pll
    let sampled := fun (i0 : State) (t : State) =>
      let big := 16000 * cfg TIME_SRV_CFG_STEPTHR ≤ o.toInt.natAbs
      t.rd TIME_SRV_LAST = o ∧ t.get TIME_STATUS TIME_STATUS_AOHOLD = 0 ∧ tuned t ∧
      ∃ k : Int, (¬big → k = 0) ∧ (big → 2 * (2 * o.toInt - 15625 * k).natAbs ≤ 15625) ∧
        (t.time : Int) = (if big then (i0.time - 125 * k) % (2 ^ 48 * 256000000) else (i0.time : Int)) ∧
        t.tim.i = clampInt (-lim) lim (i0.tim.i - (2 * o.toInt - 15625 * k) * 2 ^ (15 - cfg TIME_SRV_CFG_KI)) ∧
        t.tim.trim = clampInt (-lim) lim (t.tim.i - (2 * o.toInt - 15625 * k) * 2 ^ (15 - cfg TIME_SRV_CFG_KP)) ∧
        (i0.servo = 0 ∨ i0.servo = 3 → t.servo = 1) ∧
        (i0.servo = 1 → t.servo = if o.toInt.natAbs < 16 * cfg TIME_SRV_CFG_LOCKTHR ∧ 7 ≤ i0.tim.good then 2 else 1) ∧
        (i0.servo = 2 → t.servo = if 64 * cfg TIME_SRV_CFG_LOCKTHR ≤ o.toInt.natAbs then 1 else 2)
    (s.fabric = true → cfg TIME_SRV_CFG_SRC = 1 → s.does (.servoSample .firmware o) (sampled s)) ∧
    (cfg TIME_SRV_CFG_SRC ≠ 1 → s.does (.servoSample .firmware o) fun t => t = s) ∧
    (s.tim.samples = (n.val, o) :: rest →
      (cfg TIME_SRV_CFG_SRC = 2 + n.val → s.does (.servoSample (.caer n) o) fun t => sampled s t ∧ t.tim.samples = rest) ∧
      (cfg TIME_SRV_CFG_SRC ≠ 2 + n.val → s.does (.servoSample (.caer n) o) fun t =>
        t = { s with tim := { s.tim with samples := rest } })) ∧
    (s.fabric = true → s.does (.servoFreqLoad v) fun t => t.tim.i = clampInt (-lim) lim (4096 * v.toInt) ∧ t.tim.trim = t.tim.i ∧ tuned t ∧
      (t.rd TIME_SRV_FREQ).toInt = clampInt (-51200000) 51200000 v.toInt ∧ s.sameRegs t [TIME_SRV_FREQ]) ∧
    (s.pow.pllT = true → s.servo = 1 ∨ s.servo = 2 → s.does .holdoverTimeout fun t => t.servo = 3 ∧ t.tim.trim = s.tim.i ∧
      (s.fabric = true → t.hic.inflight = s.hic.inflight ++ [11]))

/-- R314, R316, R321: words 0 to 2 of a free entry are written; a commit that TIME accepts numbers the entry and arms it, or with JOURNAL
hands JRN its record first and arms it at the acknowledgement; one it does not accept leaves the entry free, with CFGERR and LTERR
KIND 1; a cancel frees a pending or an armed entry that is not due. The model's choices: a store finds the table as it is once JRN's answers
that wait have reached TIME, which is `u` (log 11); a cancel at or after the entry's tick is too late, KIND 5, also where HOLD keeps the
entry waiting, and TIME_LTERR shows the latest KIND (log 34). -/
def Obligations.TheLaunchTable : Prop :=
  ∀ (s : State) (r : Req) (i : LIx) (w : Fin 3) (v : Word) (g : Group) (ok : Bool) (l : List (Group × Bool)),
    let u := s.answersIn
    let e := u.lent i
    let b := s.lent i
    let may := fun (k : Nat) => s.fabric = true ∧ s.mayStore r (0x40088000 + 16 * i.val + 4 * k) = true ∧
      (∀ c, r = .core c → u.supList c = [])
    let lterr := fun (v t : State) (kind : Nat) => t.rd TIME_LTERR = BitVec.ofNat 32 (2 ^ 31 + 2 ^ 16 * kind + i.val) ∧
      t.get TIME_STATUS TIME_STATUS_LTERR = 1 ∧ t.hic.inflight = v.hic.inflight ++ [14]
    let kept := v &&& 0x7F00FFFF
    let new := { e with w3 := kept, seq := u.rd TIME_SEQ, ran := false }
    (may w →
      (e.st = .free → s.does (.launchWordStore r i w v) fun t => t.lent i = { e with
        w0 := if w = 0 then v else e.w0, w1 := if w = 1 then v else e.w1, w2 := if w = 2 then v else e.w2, ran := false } ∧
        t = { u with tim := t.tim }) ∧
      (e.st ≠ .free → s.does (.launchWordStore r i w v) fun t => lterr u t 2 ∧ t.lent i = e)) ∧
    (may 3 → e.st = .free →
      (u.accepts { e with w3 := kept } = true → new.journal = false → s.does (.launchCommit r i v) fun t =>
        t.rd TIME_SEQ = u.rd TIME_SEQ + 1 ∧
        t.lent i = { new with st := .armed, late := decide (new.exec < u.time + new.lead), given := false }) ∧
      (u.accepts { e with w3 := kept } = true → new.journal = true → s.does (.launchCommit r i v) fun t =>
        t.rd TIME_SEQ = u.rd TIME_SEQ + 1 ∧ t.lent i = { new with st := .pending } ∧
        t.jrn.handed = u.jrn.handed ++ [{
          frm := .launch i, events := u.sentBy .time
          recs := [{ kind := 1, src := reqCode r, argd := i
                     body := [new.seq.toNat, e.w0.toNat, e.w1.toNat, e.w2.toNat, kept.toNat ||| 2 ^ 31] }] }]) ∧
      (u.accepts { e with w3 := kept } = false → s.does (.launchCommit r i v) fun t =>
        lterr u t 1 ∧ bitAt (t.rd TIME_STATUS) 31 = true ∧ (t.lent i).st = .free ∧ t.rd TIME_SEQ = u.rd TIME_SEQ)) ∧
    (may 3 → e.st ≠ .free → s.does (.launchCommit r i v) fun t => lterr u t 2 ∧ t.lent i = e) ∧
    (may 3 →
      (e.st = .pending ∨ e.st = .armed ∧ u.time < e.due → s.does (.launchCancel r i v) fun t =>
        t.lent i = { e with st := .free, late := false } ∧ t.hic = u.hic ∧ t.regs = u.regs) ∧
      (e.st = .dispatched ∨ e.st = .armed ∧ e.due ≤ u.time → s.does (.launchCancel r i v) fun t => lterr u t 5 ∧ t.lent i = e)) ∧
    (s.jrn.acked = (g, ok) :: l → g.frm = .launch i → b.st = .pending → (g.recs.head?.bind (·.body.head?)) = some b.seq.toNat →
      (ok = true → s.does (.launchArm i) fun t =>
        t.lent i = { b with st := .armed, late := decide (b.exec < s.time + b.lead), ran := false, given := false } ∧ t.jrn.acked = l) ∧
      (ok = false → s.fabric = true → s.does (.launchArm i) fun t => t.lent i = { b with st := .free, late := false } ∧ lterr s t 3))

/-- R315, R317–R319, R322, R126, R129, R164, R171, R245, R330, R367: an on-time entry executes on its tick, or the first on which its
destination takes another action, an FLT entry is dispatched 64 ticks before it, and a late one is handled under its policy; a one-shot
entry is then free and a repeating one armed again; the action has the effect that its class gives it, and SAFE that came on the same tick
overrides it (R329). A step takes the swap that is scheduled on its tick before it latches (R171), whose entry then has no further effect. The
model's choices: a tick that has passed counts as the present one (log 10); which entry is next (`State.onTime`, `State.nextLate`: log 34);
which swaps come before a step (`State.swapsBefore`, log 35); a late entry's step and edges (logs 17 and 19). -/
def Obligations.LaunchActions : Prop :=
  ∀ (s : State) (i j : LIx) (f : LEnt),
    let e := s.lent i
    let n := e.action % 4096
    let arg := e.w2.toNat
    let ended := fun (t : State) => (t.lent i).st = if e.per = 0 then .free else .armed
    let runs := fun (c : Instr) (cls : Nat) (P : State → Prop) => s.onTime i cls = true → s.fabric = true →
      s.does c fun t => t.time = max s.time (s.tickSlot e) ∧ ended t ∧ P t
    let goes := fun (c : Instr) (cls : Nat) (P : State → Prop) => s.onTime i cls = true → s.fabric = true →
      s.does c fun t => t.time = max s.time (s.tickSlot e) ∧ ((t.lent i).st = .dispatched ∨ ended t) ∧ (e.exec ≤ t.time → ended t) ∧ P t
    let shows := fun (t : State) (k : Nat) (level : Bool) => t.outMode k = 0 ∧
      t.flag (ACT_OUT_CFG k) ACT_OUT_CFG_LEVEL = level ∧ t.latchOf k = (level != s.flag (ACT_OUT_CFG k) ACT_OUT_CFG_INV)
    let safe := fun (t : State) => tget s.act.safeAt 0 n = t.raw + 1
    let sets := fun (t : State) => n < s.nAct → (¬safe t → shows t n (decide (arg % 2 = 1))) ∧
      (safe t → t.outMode n = 0 ∧ t.latchOf n = (match s.get (ACT_OUT_CFG n) ACT_OUT_CFG_SAFE with
        | 0 => false | 1 => true | _ => decide (arg % 2 = 1) != s.flag (ACT_OUT_CFG n) ACT_OUT_CFG_INV))
    let teu := s.teuOn = true ∧ s.get TEU_CTL TEU_CTL_ENABLE = 1
    let step := fun (t : State) => t.teu.run.map (·.2) = some (32 * e.ns) ∧ t.get TEU_STATUS TEU_STATUS_BUSY = 1
    let swaps := (s.atSlot e).swapsBefore e
    ((∀ d, d ∈ s.dests e → ((tget s.tim.slot 0 d : Nat) + s.tim.adj).toNat ≤ e.due) → s.tickSlot e = e.due) ∧
    runs (.actSet i) 1 sets ∧
    runs (.actDuty i) 2 (fun t => n < s.nAct → t.get (ACT_OUT_DUTY n) ACT_OUT_DUTY_DUTY = arg % 2 ^ 17) ∧
    runs (.actMode i) 3 (fun t => n < s.nAct → modeArgOk arg = true →
      (∀ f, f ∈ [ACT_OUT_CFG_INV, ACT_OUT_CFG_SAFE, ACT_OUT_CFG_PHASE, ACT_OUT_CFG_GEN] → t.get (ACT_OUT_CFG n) f = fieldOf e.w2 f) ∧
      (¬safe t → ∀ f, f ∈ [ACT_OUT_CFG_LEVEL, ACT_OUT_CFG_MODE] → t.get (ACT_OUT_CFG n) f = fieldOf e.w2 f) ∧
      (safe t → t.outMode n = 0 ∧ (fieldOf e.w2 ACT_OUT_CFG_SAFE < 2 → t.latchOf n = decide (fieldOf e.w2 ACT_OUT_CFG_SAFE = 1)))) ∧
    goes (.fltSync i) 4 (fun t => t.flt.syncs = s.flt.syncs ++
      [{ edge := s.edgeAtOrAfter e.inst, mask := arg % 2 ^ 16, out := arg.testBit 16 }]) ∧
    goes (.fltResponseChange i) 5 (fun t =>
      let r : FltReq := { edge := s.edgeAtOrAfter e.inst, groups := arg % 2 ^ 16, prof := some (arg / 2 ^ 16 % 8) }
      t.flt.reqs = s.flt.reqs.takeWhile (·.edge ≤ r.edge) ++ r :: s.flt.reqs.dropWhile (·.edge ≤ r.edge)) ∧
    runs (.teuStep i) 6 (fun t => teu → s.teu.run = none → s.teu.last = none → s.get TEU_STATUS TEU_STATUS_PENDV = 0 →
      (swaps = [] → s.bankValid s.abank = true → step t ∧ t.abank = s.abank) ∧
      (swaps = [(j.val, f)] → s.bankValid (f.w2.toNat % 2) = true →
        step t ∧ t.abank = f.w2.toNat % 2 ∧ t.lent j = { f with given := true })) ∧
    runs (.teuBankSwap i) 7 (fun t =>
      (e.given = false → teu → t.get TEU_STATUS TEU_STATUS_PENDV = 1 ∧ t.get TEU_STATUS TEU_STATUS_PENDBANK = arg % 2) ∧
      (e.given = false → s.teuOn = true → s.get TEU_CTL TEU_CTL_ENABLE = 0 → s.bankValid (arg % 2) = true → t.abank = arg % 2) ∧
      (e.given = true → t.rd TEU_STATUS = s.rd TEU_STATUS ∧ t.teu = s.teu)) ∧
    runs (.qmPush i) 8 (fun t => ∀ q : QIx, n / 64 = q.val → s.qlive q = true → s.occ q + 2 ≤ s.qsize q →
      e.w2 ++ s.rd (TIME_QLOW (n % 64)) ≠ emptyItem →
      t.getSlot q (s.qst q).wr = (e.w2 ++ s.rd (TIME_QLOW (n % 64)), 0) ∧ (t.qst q).wr = (s.qst q).wr + 1) ∧
    runs (.hicRaise i) 9 (fun t =>
      (arg % 256 < 224 ∨ 240 ≤ arg % 256 → arg % 256 ≠ 255 → s.srcEn (arg % 256) = true → t.pend (arg % 256) ≠ 0) ∧
      (224 ≤ arg % 256 → arg % 256 < 240 →
        (∀ d, d < 16 → bitAt (t.rd CORE_DBELL_SET) d = (bitAt (s.rd CORE_DBELL_SET) d || d == arg % 256 - 224)) ∧
        ∀ c, c < 9 → s.hasCore c = true → (t.core c).latch =
          ((s.core c).latch || (s.get (CORE_DBELL_EVMASK (arg % 256 - 224)) CORE_DBELL_EVMASK_CORES).testBit c)) ∧
      (arg % 256 = 255 → bitAt (t.rd HIC_STATUS) 31 = true)) ∧
    runs (.caerMessage i) 10 (fun t =>
      (e.action % 16 = s.hub → t.rd (CAER_MBOX s.hub) = e.w2 ∧ bitAt (t.rd CAER_MBOX_STAT) s.hub = true) ∧
      (∀ m, e.action % 16 ≠ s.hub → s.dirOf (e.action % 16) = some m → s.roomOn m →
        s.sentSeq t m { typ := 5, src := s.hub, dst := e.action % 16, payload := bytesLE 8 arg })) ∧
    runs (.actSafe i) 11 (fun t => ∀ k, k < s.nAct → (arg * 2 ^ (32 * n)).testBit k = true →
      t.outMode k = 0 ∧ t.get ACT_STATUS ACT_STATUS_SAFEDONE = 1 ∧
      t.latchOf k = (match s.get (ACT_OUT_CFG k) ACT_OUT_CFG_SAFE with | 0 => false | 1 => true | _ => s.latchOf k)) ∧
    (s.nextLate = some i.val → s.does (.lateEntryHandle i) fun t =>
      t.time = (if e.policy = 0 then max s.time e.due else max s.time (max e.due (s.tickSlot e))) ∧
      (if e.policy ≠ 0 ∧ e.toFlt = true ∧ t.time < e.exec then (t.lent i).st = .dispatched else ended t) ∧
      t.get TIME_LATEINFO TIME_LATEINFO_INDEX = i.val ∧ t.get TIME_LATEINFO TIME_LATEINFO_POLICY = e.policy ∧
      t.get TIME_LATEINFO TIME_LATEINFO_LATENESS = min 65535 ((t.time - e.exec) / 256) ∧
      (e.policy = 0 → t.get TIME_STATUS TIME_STATUS_SKIPPED = 1 ∧ t.act = s.act) ∧
      (e.policy ≠ 0 → e.action / 4096 = 1 → sets t))

/-- R12, R324, R330, R331: a write to ACT_OUT_CFG sets the output's mode, and one into PWM, ZX or HALF keeps it off until its first decision;
with ZX or HALF on a phase that is lost it is off and posts duty 0; the reserved value 3 of SAFE or PHASE leaves that field and sets CFGERR;
a DUTY is taken up to 65,536; SAFE makes outputs STATIC at their SAFE level. That a write which comes after SAFE at the same value of the
counter counts as one of a later tick, so that SAFE does not undo it, is the model's choice (log 34). -/
def Obligations.OutputsUnderSoftware : Prop :=
  ∀ (s : State) (n : Out) (j : Fin 2) (v : Word),
    let cfg := ACT_OUT_CFG n
    let mask := v.toNat * 2 ^ (32 * j.val)
    let resv := fun (f : Fld) => (f = ACT_OUT_CFG_SAFE ∨ f = ACT_OUT_CFG_PHASE) ∧ fieldOf v f = 3
    let put := fun (f : Fld) => if resv f then s.get cfg f else fieldOf v f
    let err := resv ACT_OUT_CFG_SAFE ∨ resv ACT_OUT_CFG_PHASE
    s.fabric = true →
    (n.val < s.nAct → s.does (.outputConfigWrite n v) fun t =>
      (∀ f, f ∈ [ACT_OUT_CFG_LEVEL, ACT_OUT_CFG_INV, ACT_OUT_CFG_SAFE, ACT_OUT_CFG_PHASE, ACT_OUT_CFG_GEN, ACT_OUT_CFG_MODE] →
        t.get cfg f = put f) ∧ (t.out n).acc = 0 ∧ (err → bitAt (t.rd ACT_STATUS) 31 = true) ∧
      (fieldOf v ACT_OUT_CFG_MODE = 0 →
        t.latchOf n = (decide (fieldOf v ACT_OUT_CFG_LEVEL = 1) != decide (fieldOf v ACT_OUT_CFG_INV = 1))) ∧
      (fieldOf v ACT_OUT_CFG_MODE ≠ 0 → fieldOf v ACT_OUT_CFG_MODE ≠ s.outMode n →
        t.latchOf n = decide (fieldOf v ACT_OUT_CFG_INV = 1) ∧ (t.out n).wait = true) ∧
      (2 ≤ fieldOf v ACT_OUT_CFG_MODE → s.get (ACT_MAINS_STAT (put ACT_OUT_CFG_PHASE)) ACT_MAINS_STAT_OK = 0 →
        t.latchOf n = decide (fieldOf v ACT_OUT_CFG_INV = 1) ∧ t.posted n = 0) ∧
      s.sameRegs t (if err then [cfg, ACT_STATUS] else [cfg]) ∧ t = { s with regs := t.regs, act := t.act }) ∧
    (n.val < s.nAct → v.toNat % 2 ^ 17 ≤ 65536 → s.does (.outputDutyWrite n v) fun t =>
      t.get (ACT_OUT_DUTY n) ACT_OUT_DUTY_DUTY = v.toNat % 2 ^ 17 ∧ s.sameRegs t [ACT_OUT_DUTY n] ∧
      t = { s with regs := t.regs, act := t.act }) ∧
    (n.val < s.nAct → 65536 < v.toNat % 2 ^ 17 → s.does (.outputDutyWrite n v) fun t =>
      t.get (ACT_OUT_DUTY n) ACT_OUT_DUTY_DUTY = s.get (ACT_OUT_DUTY n) ACT_OUT_DUTY_DUTY ∧ bitAt (t.rd ACT_STATUS) 31 = true) ∧
    ((∃ k, k < s.nAct ∧ mask.testBit k = true) → s.does (.safeCommand j v) fun t =>
      t.get ACT_STATUS ACT_STATUS_SAFEDONE = 1 ∧ t.hic.inflight = s.hic.inflight ++ [22] ∧
      ∀ k, k < s.nAct →
        (mask.testBit k = true → t.outMode k = 0 ∧
          t.latchOf k = (match s.get (ACT_OUT_CFG k) ACT_OUT_CFG_SAFE with | 0 => false | 1 => true | _ => s.latchOf k)) ∧
        (mask.testBit k = false → t.rd (ACT_OUT_CFG k) = s.rd (ACT_OUT_CFG k) ∧ t.latchOf k = s.latchOf k ∧ t.out k = s.out k))

/-- R325: at the start of a generator's cycle its PWM outputs take their DUTY and go high for the rounded part of the cycle, at whose end
they go low; a written setting is in force from the next plant second. An instant that has passed counts as the present one (the
model's choice, log 10). -/
def Obligations.PwmGenerators : Prop :=
  ∀ (s : State) (k : Fin 4) (n : Out) (v : Word),
    let inv := s.flag (ACT_OUT_CFG n) ACT_OUT_CFG_INV
    (s.pow.pllT = true → s.does (.pwmCycleStart k) fun t =>
      let here := s.cycleAt k s.time
      let c := s.cycleAt k t.time
      t.time = (if tget s.act.cycle none k = some here.1 ∧ s.time < here.1 + here.2 then here.1 + here.2 else s.time) ∧
      tget t.act.cycle none k = some c.1 ∧
      (s.fabric = true → 24 + k.val ∈ t.hic.inflight) ∧
      (n.val < s.nAct → s.outMode n = 1 → s.get (ACT_OUT_CFG n) ACT_OUT_CFG_GEN = k.val →
        let d := s.get (ACT_OUT_DUTY n) ACT_OUT_DUTY_DUTY
        let high := (2 * d * c.2 + 65536) / 131072
        (t.out n).duty = d ∧ (t.out n).start = c.1 ∧ (t.out n).len = c.2 ∧ (t.out n).high = high ∧
        (t.out n).on = decide (t.time < c.1 + high) ∧ (t.out n).wait = false ∧
        ((s.out n).owned = true → t.latchOf n = (decide (t.time < c.1 + high) != inv)))) ∧
    (s.pow.pllT = true → s.outMode n = 1 → (s.out n).on = true → (s.out n).high < (s.out n).len → s.does (.pwmDutyEnd n) fun t =>
      t.time = max s.time ((s.out n).start + (s.out n).high) ∧ t.out n = { s.out n with on := false } ∧
      ((s.out n).owned = true → t.latchOf n = inv)) ∧
    (s.fabric = true →
      (2 ≤ fieldOf v ACT_GEN_PER → s.does (.genWrite k v) fun t =>
        t.get (ACT_GEN k) ACT_GEN_PER = fieldOf v ACT_GEN_PER ∧ t.get (ACT_GEN k) ACT_GEN_SLOW = fieldOf v ACT_GEN_SLOW ∧
        t.genAt k s.time = s.genAt k s.time ∧ (∀ x, secOf s.time < secOf x → t.genAt k x = t.rd (ACT_GEN k)) ∧
        s.sameRegs t [ACT_GEN k]) ∧
      (fieldOf v ACT_GEN_PER < 2 → s.does (.genWrite k v) fun t => bitAt (t.rd ACT_STATUS) 31 = true ∧ s.onlyRegs t ∧
        s.sameRegs t [ACT_STATUS]))

/-- R326–R328, R475: an accepted edge in range extends the history, from which come the period and the next predicted crossing, and four
make the phase OK; one out of range, or 25 ms without one, loses the phase; every predicted crossing raises its source; a ZX output
decides for the first crossing not yet decided by its accumulator, a HALF output for a half-cycle by its accumulator and the polarity of
the last one. A lost phase keeps the crossing that was predicted already; one whose EN is cleared has none. The model's choices: an instant that has passed counts as the present one (log 10); an out-of-range edge starts a new
history (log 34); the mean period is rounded in a free direction (log 36); which crossings an output decides (log 38). -/
def Obligations.MainsPhases : Prop :=
  ∀ (s : State) (p : Phase) (n : Out) (at_ e : Nat) (z : Cross) (v : Word),
    let m := s.phase p
    let now := max s.time at_
    let dly := s.get (ACT_MAINS_CFG p) ACT_MAINS_CFG_ZXDLY * 256
    let zx := now - dly
    let d := now - e
    let en := s.pow.pllT = true ∧ s.get (ACT_MAINS_CFG p) ACT_MAINS_CFG_EN = 1
    let lost := fun (t : State) (x : MainsSt) => t.phase p = x ∧ t.get (ACT_MAINS_STAT p) ACT_MAINS_STAT_OK = 0
    let ph := s.get (ACT_OUT_CFG n) ACT_OUT_CFG_PHASE
    let duty := s.get (ACT_OUT_DUTY n) ACT_OUT_DUTY_DUTY
    let o := s.out n
    let decides := s.pow.pllT = true ∧ n.val < s.nAct ∧ s.get (ACT_MAINS_STAT ph) ACT_MAINS_STAT_OK = 1
    let latched := fun (t : State) (on : Bool) => o.owned = true → t.latchOf n = (on != s.flag (ACT_OUT_CFG n) ACT_OUT_CFG_INV)
    (en → s.fabric = true →
      (m.edge = none → s.does (.mainsEdge p at_) fun t => t.time = now ∧ t.phase p = { edge := some now, preds := m.preds, zx := some zx }) ∧
      (m.edge = some e → d < 3584000 → e ≤ now → s.does (.mainsEdge p at_) fun t => t.time = now ∧ t.phase p = m) ∧
      (m.edge = some e → 3937280 ≤ d → d ≤ 5688320 → s.does (.mainsEdge p at_) fun t =>
        let h := (m.hist ++ [d]).drop (m.hist.length + 1 - 8)
        let q := h.foldl (· + ·) 0 / h.length
        t.time = now ∧ (t.phase p).edge = some now ∧ (t.phase p).hist = h ∧ ((t.phase p).period = q ∨ (t.phase p).period = q + 1) ∧
        (t.phase p).preds = (m.preds ++ [({ z := now + (t.phase p).period - dly, t := (t.phase p).period } : Cross)]).drop (m.preds.length + 1 - 4) ∧
        (t.phase p).zx = some zx ∧ (4 ≤ h.length → t.get (ACT_MAINS_STAT p) ACT_MAINS_STAT_OK = 1)) ∧
      (m.edge = some e → (3584000 ≤ d ∧ d < 3937280) ∨ 5688320 < d → s.does (.mainsEdge p at_) fun t => t.time = now ∧
        lost t { edge := some now, preds := m.preds, zx := some zx })) ∧
    (en → m.edge = some e → s.does (.mainsLostTimeout p) fun t => t.time = max s.time (e + 6400000) ∧
      lost t { preds := m.preds, zx := m.zx }) ∧
    (en → (m.preds.find? fun c => !c.told) = some z → s.does (.predictedCrossing p) fun t => t.time = max s.time z.z ∧
      t.phase p = { m with preds := m.preds.map fun c => if c.z = z.z then { c with told := true } else c } ∧
      (s.fabric = true → 28 + p.val ∈ t.hic.inflight)) ∧
    (s.fabric = true → s.does (.mainsConfigWrite p v) fun t =>
      (∀ f, f ∈ [ACT_MAINS_CFG_EN, ACT_MAINS_CFG_ADV, ACT_MAINS_CFG_ZXDLY] → t.get (ACT_MAINS_CFG p) f = fieldOf v f) ∧
      (s.get (ACT_MAINS_CFG p) ACT_MAINS_CFG_EN = 1 → fieldOf v ACT_MAINS_CFG_EN = 0 → lost t { zx := m.zx })) ∧
    (decides → s.outMode n = 2 → ((s.phase ph).preds.find? fun c => undecided o.doneZ c.z) = some z → s.does (.zxDecision n) fun t =>
      t.time = max s.time (z.z - s.adv ph) ∧
      t.out n = { o with
        acc := if 65536 ≤ o.acc + duty then o.acc + duty - 65536 else o.acc + duty
        on := decide (65536 ≤ o.acc + duty), duty := duty, wait := false, doneZ := some z.z } ∧
      latched t (decide (65536 ≤ o.acc + duty))) ∧
    (decides → s.outMode n = 3 → ((s.phase ph).preds.find? fun c => undecided o.doneZ c.z) = some z → s.does (.halfDecision n true) fun t =>
      let acc := min 131071 (o.acc + duty)
      let on := decide (65536 ≤ acc) && o.last != some true
      t.time = max s.time (z.z - s.adv ph) ∧
      t.out n = { o with
        acc := if on then acc - 65536 else acc, on := on, duty := duty, wait := false, doneZ := some z.z
        last := if on then some true else o.last } ∧ latched t on) ∧
    (decides → s.outMode n = 3 → ((s.phase ph).preds.find? fun c => undecided o.doneB c.z) = some z →
      s.does (.halfDecision n false) fun t =>
        let acc := min 131071 (o.acc + duty)
        let on := decide (65536 ≤ acc) && o.last != some false
        t.time = max s.time (z.z + z.t / 2 - s.adv ph) ∧
        t.out n = { o with
          acc := if on then acc - 65536 else acc, on := on, duty := duty, wait := false, doneB := some z.z
          last := if on then some false else o.last } ∧ latched t on)

/-! ## The thermal estimator (chapter 6) -/

/-- R154, R155: the sum of a row's products that saturates nowhere is shifted right by 20 + SHIFT and rounded half up; an empty row is 0; the
result saturates to 32 bits. -/
def Obligations.RowArithmetic : Prop :=
  ∀ (op : Nat → Int) (es : List TEnt) (shift : Nat),
    let part := fun k => ((es.take k).map fun e => e.coef * op e.col).sum
    let total := part es.length
    let d : Int := 2 ^ (20 + shift)
    (∀ k, k ≤ es.length → -2 ^ 63 ≤ part k ∧ part k < 2 ^ 63) →
    ∃ y : Int, 2 * d * y ≤ 2 * total + d ∧ 2 * total + d < 2 * d * (y + 1) ∧
      (-2 ^ 31 ≤ y → y < 2 ^ 31 → rowSum op es shift = (y, false)) ∧
      (y < -2 ^ 31 → rowSum op es shift = (-2 ^ 31, true)) ∧ (2 ^ 31 ≤ y → rowSum op es shift = (2 ^ 31 - 1, true)) ∧
      (es = [] → y = 0)

/-- R161, R164, R165–R168, R170, R171: ENABLE starts warm-up; a step request latches, or is an overrun within 50 µs or during a step; a
swap waits for the next step or takes effect at once; VAL0 and VAL1 start a validation, which fails at once for a bank without states;
the two words of an entry are written together; row words and state words are written, a state word during a step once it ends. The
active bank takes no store. The model's readings (log 19): a low-word store leaves VALID, the held low word is used up by the high-word
store of its own entry, and the instant of a software step, in units of 1/32 ns, is the present count; WARMUP is taken when ENABLE rises, and
of VAL0 and VAL1 written together VAL0 is (log 75). -/
def Obligations.TeuUnderSoftware : Prop :=
  ∀ (s : State) (r : Req) (b : Fin 2) (i : Fin 8192) (x : Fin 512) (sect : Fin 4) (row : Fin 512) (v w : Word) (v0 v1 : Bool),
    let stat := fun (t : State) (f : Fld) => t.get TEU_STATUS f
    let enabled := s.get TEU_CTL TEU_CTL_ENABLE = 1
    let locked := enabled ∧ s.abank = b.val
    let actwr := fun (t : State) => stat t TEU_STATUS_ACTWR = 1 ∧ s.onlyRegs t ∧ s.sameRegs t [TEU_STATUS]
    let invalid := fun (t : State) => t.bankValid b = false ∧ t.get (TEU_CHECK b) TEU_CHECK_REASON = 7
    s.fabric = true → s.hasTeu = true → (∀ a, tget s.flips 0 a = 0) →
    (¬enabled → s.does .teuEnable fun t => t.get TEU_CTL TEU_CTL_ENABLE = 1 ∧ t.teu.warm = s.get TEU_CFG TEU_CFG_WARMUP ∧
      stat t TEU_STATUS_WARMING = if s.get TEU_CFG TEU_CFG_WARMUP = 0 then 0 else 1) ∧
    (enabled → s.pstate < 2 → s.teu.run = none → (∀ l, s.teu.last = some l → l + 12800 ≤ s.raw) → stat s TEU_STATUS_PENDV = 0 →
      s.bankValid s.abank = true → s.does .teuSoftwareStep fun t =>
        t.teu.run = some (s.latchV (125 * s.time), 125 * s.time) ∧ stat t TEU_STATUS_BUSY = 1) ∧
    (enabled → s.pstate < 2 → s.teu.run.isSome = true ∨ (∃ l, s.teu.last = some l ∧ s.raw < l + 12800) → s.does .teuSoftwareStep fun t =>
      stat t TEU_STATUS_OVERRUN = 1 ∧ t.teu = s.teu ∧ t.hic.inflight = s.hic.inflight ++ [178]) ∧
    (enabled → s.does (.teuSwapWrite v) fun t => stat t TEU_STATUS_PENDV = 1 ∧ stat t TEU_STATUS_PENDBANK = v.toNat % 2 ∧ t.abank = s.abank) ∧
    (¬enabled → s.bankValid (v.toNat % 2) = true → s.does (.teuSwapWrite v) fun t => t.abank = v.toNat % 2 ∧ stat t TEU_STATUS_PENDV = 0) ∧
    (s.teu.val = none → v0 = true ∨ v1 = true → s.nStates (if v0 then 0 else 1) ≠ 0 → s.does (.validate v0 v1) fun t =>
      t.teu.val = some (if v0 then 0 else 1) ∧ stat t TEU_STATUS_VALBUSY = 1) ∧
    (s.teu.val = none → s.nStates b = 0 → s.does (.validate (b = 0) (b = 1)) fun t =>
      t.teu.val = none ∧ stat t TEU_STATUS_VALBUSY = 0 ∧ stat t TEU_STATUS_VALDONE = 1 ∧ t.bankValid b = false ∧
      t.get (TEU_CHECK b) TEU_CHECK_REASON = 6 ∧ t.hic.inflight = s.hic.inflight ++ [182]) ∧
    (i.val < s.nTeu → s.mayStore r (teuAddr b i) = true →
      (¬locked → s.does (.teuEntryLowStore r b i v) fun t => t = { s with teu := { s.teu with held := some (b.val, i.val, v) } }) ∧
      (locked → s.does (.teuEntryLowStore r b i v) actwr)) ∧
    (i.val < s.nTeu → s.mayStore r (teuAddr b i + 4) = true →
      (¬locked → s.does (.teuEntryHighStore r b i v) fun t => invalid t ∧
        (s.teu.held = some (b.val, i.val, w) →
          t.mrd (teuAddr b i) 6 = w.toNat + v.toNat % 2 ^ 16 * 2 ^ 32 ∧ t.teu.held = none) ∧
        (s.teu.held = none → t.mrd (teuAddr b i) 6 = s.mrd (teuAddr b i) 4 + v.toNat % 2 ^ 16 * 2 ^ 32) ∧
        ∀ a, a < teuAddr b i ∨ teuAddr b i + 8 ≤ a → mget t.mem a = mget s.mem a) ∧
      (locked → s.does (.teuEntryHighStore r b i v) actwr)) ∧
    (row.val < rowCount sect →
      (¬locked → s.does (.rowWordStore b sect row v) fun t => invalid t ∧ t.shiftOf b sect row = v.toNat % 16 ∧
        ∀ a, a < rowAddr b sect row ∨ rowAddr b sect row + 4 ≤ a → mget t.mem a = mget s.mem a) ∧
      (locked → s.does (.rowWordStore b sect row v) actwr)) ∧
    (s.teu.run = none → s.does (.teuStateStore x v) fun t => t.xVal x = v ∧
      ∀ a, a < xAddr x ∨ xAddr x + 4 ≤ a → mget t.mem a = mget s.mem a) ∧
    (s.teu.run.isSome = true → s.does (.teuStateStore x v) fun t => t.mem = s.mem ∧ tget t.teu.defer none x.val = some v)

/-- R154, R155, R158, R159, R162, R170: a step that reads no error predicts the state, forms the residuals, corrects the state and computes the
probes, each row by its sum (`rowSum`, which RowArithmetic states), shows probes and residuals, counts itself and raises source 176; a
validation that finds no fault makes its bank valid, and one whose first fault is entry `i` for one reason records both. That a step uses the
TEU's registers as they stand when it completes is the model's reading (log 19). -/
def Obligations.TeuStepsAndValidation : Prop :=
  ∀ (s : State) (v : StepIn) (inst b i x : Nat),
    let stat := fun (t : State) (f : Fld) => t.get TEU_STATUS f
    let prev := fun (k : Nat) => if k = 0 then none else some (s.entry b (k - 1))
    let done := fun (t : State) => stat t TEU_STATUS_VALBUSY = 0 ∧ stat t TEU_STATUS_VALDONE = 1 ∧ t.teu.val = none ∧
      t.hic.inflight = s.hic.inflight ++ [182]
    let reason := fun (t : State) (k : Nat) => t.get (TEU_CHECK b) TEU_CHECK_REASON = k
    let n := s.nStates s.abank
    let row := fun (sect r : Nat) => ((List.range (s.nEnt s.abank)).map (s.entry s.abank)).filter fun e => e.sect = sect && e.row = r
    let sum := fun (op : Nat → Int) (sect r : Nat) => (rowSum op (row sect r) (s.shiftOf s.abank sect r)).1
    let sat := clampInt (-2 ^ 31) (2 ^ 31 - 1)
    let V := fun (st : Nat → Int) (col : Nat) => if col < 512 then st col else (v.vals.getD (col - 512) 0).toInt
    let xm := fun i => if i < n then sum (V fun i => (s.xVal i).toInt) 0 i else 0
    let res := fun j => sat (V xm (512 + j) - sum (V xm) 1 j)
    let e := fun col => let j := col - 512
      if j < s.nCh ∧ row 1 j ≠ [] ∧ v.valid.getD j false = true ∧ bitAt (s.rd (TEU_CMASK (j / 32))) (j % 32) = true then res j else 0
    let new := fun i => if i < n then sat (xm i + sum e 2 i) else 0
    s.fabric = true → s.teuOn = true → (∀ a, tget s.flips 0 a = 0) →
    (s.teu.run = some (v, inst) → s.teu.defer = [] → n ≤ 512 → s.does .teuStepComplete fun t =>
      (∀ k, k < n → t.xVal k = BitVec.ofInt 32 (new k)) ∧
      (∀ k, k < 64 → t.rd (TEU_PROBE k) = if row 3 k = [] then 0 else BitVec.ofInt 32 (sum (V new) 3 k)) ∧
      (∀ j, j < s.nCh → t.rd (TEU_RESID j) = if row 1 j = [] then 0 else BitVec.ofInt 32 (res j)) ∧
      t.rd TEU_STEPCNT = s.rd TEU_STEPCNT + 1 ∧ stat t TEU_STATUS_BUSY = 0 ∧ t.teu.run = none ∧ 176 ∈ t.hic.inflight) ∧
    (s.teu.val = some b → b < 2 → s.teu.run = none → s.nTeu ≤ 8192 → s.nEnt b ≤ s.nTeu →
      (s.nStates b = 0 → s.does .validationDone fun t => done t ∧ t.bankValid b = false ∧ reason t 6) ∧
      (s.nStates b ≠ 0 → (∀ k, k < s.nEnt b → s.reasons b (prev k) (s.entry b k) = []) → s.does .validationDone fun t =>
        done t ∧ t.bankValid b = true ∧ reason t 0) ∧
      (s.nStates b ≠ 0 → i < s.nEnt b → (∀ k, k < i → s.reasons b (prev k) (s.entry b k) = []) →
        s.reasons b (prev i) (s.entry b i) = [x] → s.does .validationDone fun t =>
          done t ∧ t.bankValid b = false ∧ reason t x ∧ t.get (TEU_CHECK b) TEU_CHECK_INDEX = i))

/-! ## System control and resets (chapter 3) -/

/-- R73–R75, R77, R79, R86, R87, R310, R330: a supply or clock condition sets and clears its bits of SYS_STATUS, and VCOREWARN and a
lost reference raise their sources; a conversion gives the four temperatures, and a threshold reached sets TEMPHI; the error record
clears; stores to the GPIO registers and outside levels move the balls, whose edges an edge source takes. The model's choices: a lost
reference puts the servo into HOLDOVER from FREE too (log 36); PLLLOCK follows REFOK (log 15); what VCOREWARN and PFAIL show in a COLD
reset, and that a wake from OASIS ends only with WAKE_COMPLETE for the VCORE detector (log 72). -/
def Obligations.SystemControl : Prop :=
  ∀ (s : State) (b : Bool) (v : Word) (n : Fin 15) (t0 t1 t2 t3 : Int),
    let bit := fun (f : Fld) (x : Nat) (t : State) => t.get SYS_STATUS f = x ∧ t = s.set SYS_STATUS f x
    let code := fun (x : Int) => (clampInt 1 255 (x + 64)).toNat
    let edges := fun (t : State) => t.hic = { s.hic with inflight := s.hic.inflight ++
      if s.fabric then
        ((List.range 15).filter fun m => t.gpioLevel m != s.gpioLevel m && !s.isLevel (240 + m) &&
          t.gpioLevel m != s.flag (HIC_SRC_CFG (240 + m)) HIC_SRC_CFG_POL).map (240 + ·)
      else [] }
    let outs := fun (t : State) (P : Nat → Bool) => (∀ m, m < 15 → bitAt (t.rd SYS_GPIO_OUT) m = P m) ∧ edges t ∧
      t = { s with regs := t.regs, hic := t.hic } ∧ s.sameRegs t [SYS_GPIO_OUT]
    (b = true ∨ s.pow.porstLow = false ∨ s.pow.vaoLow = true ∨ s.get SYS_STATUS SYS_STATUS_VIO33LOW = 0 →
      s.does (.vio33Low b) (bit SYS_STATUS_VIO33LOW b.toNat)) ∧
    (s.pow.porstLow = true → s.pow.vaoLow = false → s.get SYS_STATUS SYS_STATUS_VIO33LOW = 1 → s.does (.vio33Low false) fun t =>
      t.pow.phase = .cold ∧ t.pow.coldCauses.testBit 0 = true) ∧
    (s.does (.avddLow b) (bit SYS_STATUS_AVDDLOW b.toNat)) ∧
    (s.pow.phase = .up ∨ s.pow.phase = .warm → s.flag SYS_STATUS SYS_STATUS_VCOREWARN = false → s.does .vcoreWarn fun t =>
      t.get SYS_STATUS SYS_STATUS_VCOREWARN = 1 ∧ t.get SYS_STATUS SYS_STATUS_BOWARN = 1 ∧ s.sameRegs t [SYS_STATUS] ∧
      t = { s with regs := t.regs, hic := t.hic } ∧ (s.fabric = true → t.hic.inflight = s.hic.inflight ++ [1])) ∧
    (s.inCold = true → s.does .vcoreWarn (bit SYS_STATUS_VCOREWARN 1)) ∧
    (s.pow.phase = .oasis → (s.does .vcoreWarn fun t => t = s) ∧ (s.does .vcoreBrownOut fun t => t = s)) ∧
    (s.does (.vcoreRecovery true) (bit SYS_STATUS_VCOREWARN 0)) ∧
    (s.does (.vcoreRecovery false) fun t => t = { s with pow := { s.pow with vcoreLow := false } }) ∧
    (s.inCold = false → s.does .pfailNFall fun t => t.get SYS_STATUS SYS_STATUS_PFAIL = 1 ∧ t.pow.flushing = true ∧
      s.sameRegs t [SYS_STATUS] ∧ t = { s with regs := t.regs, pow := { s.pow with flushing := true } }) ∧
    (s.inCold = true → s.does .pfailNFall (bit SYS_STATUS_PFAIL 1)) ∧
    (s.does .pfailNRise (bit SYS_STATUS_PFAIL 0)) ∧
    (s.fabric = true → s.get SYS_STATUS SYS_STATUS_REFOK = 1 → s.does .refLoss fun t =>
      t.get SYS_STATUS SYS_STATUS_REFOK = 0 ∧ t.get SYS_STATUS SYS_STATUS_REFLOSS = 1 ∧ t.get SYS_STATUS SYS_STATUS_PLLLOCK = 0 ∧
      t.tim.pll = s.tim.pll ∧
      t.get TIME_SRV_STAT TIME_SRV_STAT_REFLOST = 1 ∧ t.servo = 3 ∧ 0 ∈ t.hic.inflight ∧
      (s.servo ≠ 3 → 11 ∈ t.hic.inflight ∧ t.tim.trim = s.tim.i) ∧
      (s.get ACT_CTL ACT_CTL_SAFEREF = 1 → ∀ k, k < s.nAct → t.outMode k = 0) ∧
      (s.get ACT_CTL ACT_CTL_SAFEREF = 0 → t.act = s.act)) ∧
    (s.fabric = true → s.get SYS_STATUS SYS_STATUS_REFOK = 0 → s.does .refReturn fun t =>
      t.get SYS_STATUS SYS_STATUS_REFOK = 1 ∧ t.get TIME_SRV_STAT TIME_SRV_STAT_REFLOST = 0 ∧
      t.get SYS_STATUS SYS_STATUS_PLLLOCK = (s.pow.pllF && s.pow.pllT).toNat ∧
      t = { s with regs := t.regs, tim := { s.tim with pll := s.tim.trim } } ∧ s.sameRegs t [SYS_STATUS, TIME_SRV_STAT]) ∧
    (s.pow.phase ≠ .cold → s.does .xt32Ok (bit SYS_STATUS_XT32OK 1)) ∧ (s.does .xt32Stop (bit SYS_STATUS_XT32OK 0)) ∧
    (s.fabric = true → s.does (.tempConversion t0 t1 t2 t3) fun t =>
      let codes := [code t0, code t1, code t2, code t3]
      let hi := s.get SYS_TEMPCFG SYS_TEMPCFG_TEMP_HI
      (t.rd SYS_DIETEMP).toNat = code t0 + 2 ^ 8 * code t1 + 2 ^ 16 * code t2 + 2 ^ 24 * code t3 ∧
      s.sameRegs t [SYS_DIETEMP, SYS_STATUS] ∧ t = { s with regs := t.regs, hic := t.hic, pow := t.pow } ∧
      (s.pow.tempArmed = true → (∃ x, x ∈ codes ∧ hi ≤ x) → t.get SYS_STATUS SYS_STATUS_TEMPHI = 1 ∧
        t.hic.inflight = s.hic.inflight ++ [2] ∧ t.pow.tempArmed = false) ∧
      ((∀ x, x ∈ codes → (x : Int) < hi - s.get SYS_TEMPCFG SYS_TEMPCFG_HYST) → (∀ x, x ∈ codes → x < hi) →
        t.pow.tempArmed = true ∧ t.hic = s.hic ∧ t.rd SYS_STATUS = s.rd SYS_STATUS)) ∧
    (s.fabric = true → s.does .eccClear fun t => t.rd SYS_ECC_CNT = 0 ∧ t.rd SYS_ECC_ADDR = 0 ∧ t.rd SYS_ECC_INFO = 0 ∧
      s.onlyRegs t ∧ s.sameRegs t [SYS_ECC_CNT, SYS_ECC_ADDR, SYS_ECC_INFO]) ∧
    (s.fabric = true →
      (s.does (.gpioSet v) fun t => outs t fun m => bitAt (s.rd SYS_GPIO_OUT) m || bitAt v m) ∧
      (s.does (.gpioClr v) fun t => outs t fun m => bitAt (s.rd SYS_GPIO_OUT) m && !bitAt v m) ∧
      (s.does (.gpioDirWrite v) fun t => (∀ m, m < 15 → bitAt (t.rd SYS_GPIO_DIR) m = bitAt v m) ∧
        t.get SYS_GPIO_IN SYS_GPIO_IN_FROZEN = 0 ∧ edges t ∧ t = { s with regs := t.regs, hic := t.hic } ∧
        s.sameRegs t [SYS_GPIO_DIR, SYS_GPIO_IN])) ∧
    (s.does (.gpioInputChange n b) fun t =>
      (∀ m, m < 15 → t.pow.gpioBalls.toNat.testBit m = if m = n.val then b else s.pow.gpioBalls.toNat.testBit m) ∧ edges t ∧
      t = { s with hic := t.hic, pow := { s.pow with gpioBalls := t.pow.gpioBalls } })

/-- R81, R83, R84, R352, R451, R453, R472, R50: a COLD cause resets everything but the fuses, the journal's store and the contents of
shared SRAM; with none left, SYS_RESETCAUSE records the causes and VCORE is waited for; its rise reads the fuses and lets the PLLs lock;
PLL_F's lock releases the fabric, or with TEST high leads to the production test, which the model stops at; PLL_T's lock starts the
counter at 0. The model's choices: the values that registers without a reset value take (`resetWord`, logs 3 and 7), that the other
memories read 0 (log 4), the instants at which TEST is sampled (log 14) and REFOK becomes 1 (log 15), what a COLD reset leaves of the
journal (log 63), and that causes are recorded together only where they coincide (log 72). -/
def Obligations.ColdReset : Prop :=
  ∀ (s : State),
    let causes := if s.pow.phase = .cold then s.pow.coldCauses else 0
    let cold := fun (k : Nat) (t : State) => t.pow.phase = .cold ∧ t.pow.coldCauses = causes ||| k ∧
      (∀ c : Nat, t.core c = {}) ∧ (∀ a, a ≠ SYS_STATUS → t.rd a = resetWord a) ∧
      t.mem = s.mem.filter (fun x => x.1 < 0x100000) ∧ t.time = 0 ∧ t.qm = {} ∧ t.dme = {} ∧
      t.tim = {} ∧ t.act = {} ∧ t.flt = {} ∧ t.evt = [] ∧ t.teu = {} ∧ t.twp = [] ∧ t.hic = {} ∧
      t.fuse = s.fuse ∧ t.jrn.store = s.jrn.store ∧ t.pending = s.pending ∧ t.lcs.counter = s.lcs.counter ∧ t.lcs.session = none
    let released := fun (t : State) => t.pow.phase = .vcore ∧ t.rd SYS_RESETCAUSE = BitVec.ofNat 32 s.pow.coldCauses ∧
      s.sameRegs t [SYS_RESETCAUSE] ∧ t = { s with regs := t.regs, pow := t.pow }
    let vio := s.get SYS_STATUS SYS_STATUS_VIO33LOW = 0
    (s.pow.vaoLow = false → vio → s.does .porstNAssert fun t => cold 1 t ∧ t.pow.porstLow = true ∧ t.pow.vaoLow = false) ∧
    (s.pow.vaoLow = true ∨ ¬vio → s.does .porstNAssert fun t => t = { s with pow := { s.pow with porstLow := true } }) ∧
    (s.does .vaoBrownOut fun t => cold 2 t ∧ t.pow.vaoLow = true ∧ t.pow.porstLow = s.pow.porstLow) ∧
    (s.pow.phase = .cold → s.pow.vaoLow = false → s.does .porstNRelease fun t => released t ∧ t.pow.porstLow = false) ∧
    (s.pow.phase = .cold → s.pow.porstLow = false ∨ ¬vio → s.does .vaoRecovery fun t => released t ∧ t.pow.vaoLow = false) ∧
    (s.pow.porstLow = true → vio → s.does .vaoRecovery fun t => cold 1 t ∧ t.pow.vaoLow = false) ∧
    (s.pow.phase = .vcore → s.does .vcoreRise fun t =>
      let n := max s.fuse.rowA s.fuse.rowB
      t.pow = { s.pow with phase := .lock } ∧ t.fuse.rowA = n ∧ t.fuse.rowB = n ∧ t.lcs.counter = n ∧ t.fuse.floor = s.fuse.floor ∧
      let event := fun (src argd : Nat) => ({ frm := .lcs, recs := [{ kind := 8, src, argd, body := [0] }] } : Group)
      let fresh := (List.range 4).filter fun k => !(tget s.fuse.slots {} k).revoked
      (n = 4 → s.lcs.mark = false → t.lcs.mark = true ∧ t.jrn.store = [] ∧ t.boot.ret = {} ∧
        (∀ k, k < 4 → (tget t.fuse.slots {} k).revoked = true) ∧
        t.jrn.handed = s.jrn.handed ++ fresh.map (event 5) ++ [event 7 0]) ∧
      (n ≠ 4 ∨ s.lcs.mark = true → t.fuse.slots = s.fuse.slots ∧ t.jrn = s.jrn)) ∧
    (s.pow.phase = .lock → s.pow.pllF = false →
      (s.pow.testHigh = true → exec .pllFLock s = .fault .productionTest) ∧
      (s.pow.testHigh = false → s.does .pllFLock fun t => t.pow = { s.pow with phase := .up, pllF := true, addrSampled := s.pow.addrBalls } ∧
        t.boot = { s.boot with due := [.cold] } ∧ t.get SYS_STATUS SYS_STATUS_REFOK = 1 ∧
        t.get SYS_STATUS SYS_STATUS_PLLLOCK = s.pow.pllT.toNat ∧
        t.get SYS_STATUS SYS_STATUS_BOWARN = s.get SYS_STATUS SYS_STATUS_VCOREWARN ∧ s.sameRegs t [SYS_STATUS] ∧
        t = { s with regs := t.regs, pow := t.pow, boot := t.boot })) ∧
    (s.pow.phase = .lock ∨ s.pow.phase = .up ∨ s.pow.phase = .warm → s.pow.pllT = false → s.does .pllTLock fun t =>
      t.time = 0 ∧ t.pow = { s.pow with pllT := true } ∧ t.get SYS_STATUS SYS_STATUS_PLLLOCK =
        (s.pow.pllF && s.flag SYS_STATUS SYS_STATUS_REFOK).toNat ∧
      s.sameRegs t [SYS_STATUS] ∧ t = { s with regs := t.regs, time := 0, pow := t.pow })

/-- R80–R83, R85, R231, R235, R240, R312, R466: each WARM cause sets its bit, holds the launch table and resets everything outside the AO and
TIME islands, with SAFE on the outputs where SAFEWARM = 1; the release samples ADDR and begins the replay; each AO cause sets its bit
and resets C8 and the OAS window; in OASIS a WARM cause waits for VCORE (R262). The model's choices: the values that registers without
a reset value take (`resetWord`, logs 3 and 7); the strobe at which a watchdog bites (log 26); which registers an AO reset leaves, that
it leaves C8's claim in the interrupt controller, and when a WARM reset begins from OASIS (log 64). -/
def Obligations.WarmAndAoResets : Prop :=
  ∀ (s : State) (c : Fin 8) (addr : BitVec 3) (g : Group) (ok : Bool) (l : List (Group × Bool)),
    let began := fun (f : Fld) (t : State) => t.pow.phase = .warm ∧ t.get SYS_RESETCAUSE f = 1 ∧ t.pstate = 0 ∧
      t.get TIME_CTL TIME_CTL_HOLD = 1 ∧ t.core 8 = s.core 8 ∧ (∀ d : Nat, d ≠ 8 → t.core d = {}) ∧
      (∀ a, warmKeeps a = false → a ≠ SYS_STATUS → t.rd a = resetWord a) ∧ t.mem = s.mem ∧ t.time = s.time ∧ t.qm = {} ∧
      t.fuse = s.fuse ∧ t.pending = s.pending ∧ t.tim.table = s.tim.table ∧
      (s.get ACT_CTL ACT_CTL_SAFEWARM = 1 → ∀ k, k < s.nAct → t.outMode k = 0) ∧
      (s.get ACT_CTL ACT_CTL_SAFEWARM = 0 → t.act = s.act)
    let up := s.pow.phase = .up
    let ao := fun (f : Fld) (t : State) => t.get SYS_RESETCAUSE f = 1 ∧ t.core 8 = {} ∧ (∀ d : Nat, d ≠ 8 → t.core d = s.core d) ∧
      (∀ a, a / 0x10000 = 0x4010 → a ∉ [OAS_PWRSTATE, OAS_WAKECAUSE, OAS_STATUS] → t.rd a = resetWord a) ∧
      t.boot = { s.boot with due := s.boot.due ++ [.aoreset] } ∧ t.mem = s.mem ∧ (∀ d : Nat, (t.hc d).claim = (s.hc d).claim) ∧
      t = { s with regs := t.regs, cores := t.cores, hic := t.hic, pow := t.pow, boot := t.boot }
    (up → s.does .softWarmReset (began SYS_RESETCAUSE_SOFT)) ∧
    (up → s.lcs.resetDue = true → s.does .resetCommandDelayEnd (began SYS_RESETCAUSE_SOFT)) ∧
    (up → s.does .resetNAssert fun t => began SYS_RESETCAUSE_RESETN t ∧ t.pow.resetnLow = true) ∧
    (s.pow.phase = .warm → s.does .resetNAssert fun t => t.get SYS_RESETCAUSE SYS_RESETCAUSE_RESETN = 1 ∧
      t.pow = { s.pow with resetnLow := true } ∧ s.sameRegs t [SYS_RESETCAUSE]) ∧
    (s.pow.phase = .oasis → s.does .resetNAssert fun t => t.get SYS_RESETCAUSE SYS_RESETCAUSE_RESETN = 1 ∧
      (s.pow.vcoreUp = true → t.pow.phase = .warm) ∧ (s.pow.vcoreUp = false → t.pow.phase = .oasis ∧ t.pow.warmAfterWake = true)) ∧
    (s.pow.phase = .oasis → s.pow.waking.isSome = true → s.pow.warmAfterWake = true → s.does .vcoreRise fun t =>
      t.pow.phase = .warm ∧ t.pow.warmAfterWake = false) ∧
    (up → s.does .vcoreBrownOut fun t => began SYS_RESETCAUSE_VCOREBOR t ∧ t.pow.vcoreLow = true) ∧
    (up → s.pow.pllT = true → s.pstate < 2 → s.wdOn c = true → (s.core c).held = false → s.wdTimeout c ≤ (s.core c).wd + 1 →
      s.does (.watchdogBite c) fun t => began SYS_RESETCAUSE_WDOG t ∧ t.get SYS_RESETCAUSE SYS_RESETCAUSE_CORE = c.val) ∧
    (up → s.jrn.acked = (g, ok) :: l → g.frm = .fault c true →
      (∀ (d : Nat) a, d < c.val → a ∈ l → a.1.frm ≠ .fault d true) → s.does .faultEscalation fun t => began SYS_RESETCAUSE_COREFLT t ∧ t.get SYS_RESETCAUSE SYS_RESETCAUSE_CORE = c.val) ∧
    (s.does .resetNRelease fun t => t = { s with pow := { s.pow with resetnLow := false } }) ∧
    (s.pow.phase = .warm → s.pow.resetnLow = false → s.pow.vcoreLow = false → s.does (.warmResetRelease addr) fun t =>
      t.pow.phase = .up ∧ t.pow.addrSampled = addr ∧ t.boot.due = .warm :: s.boot.due ∧
      t.get JRN_STATUS JRN_STATUS_REPLAYING = 1) ∧
    (up → s.does .softAoReset (ao SYS_RESETCAUSE_SOFTAO)) ∧
    (up ∨ s.pow.phase = .warm ∨ s.pow.phase = .oasis → s.wdOn 8 = true → (s.core 8).held = false →
      s.wdTimeout 8 ≤ (s.core 8).wd + 1 → s.does .oasisWatchdogBite (ao SYS_RESETCAUSE_OASWDOG))

/-! ## Analogue front end (chapter 4) -/

/-- R91, R92, R94, R103, R109, R124, R264: a write to AFE_CH_CFG that enables a channel or changes its fields restarts it for 64 AFE cycles,
one that disables it powers it down, and a channel under test waits; the end of a restart sets the flag and starts the filter on
that edge; overload and cleared integrators are noted; the reference settles; the AO decimator gives its results, VALID from the
third on. The model's choices: how the AO decimator's sum is rounded to a code, and the reference's settling as a command (log 16); an
edge that has passed counts as the present count (log 10); and, as its reading, the end of a restart comes before the requests of its own
edge, behind those of earlier ones (log 17). -/
def Obligations.AnalogueChannels : Prop :=
  ∀ (s : State) (n : Chan) (v : Word) (e : Nat) (w : Fin 8) (bits : List Bool) (c : CicSt) (s1 : Nat),
    let x := s.achan n
    let cfg := AFE_CH_CFG n
    let got := fun (f : Fld) => fieldOf v f
    let en := s.get cfg AFE_CH_CFG_EN
    let lists := [AFE_CH_CFG_INSEL, AFE_CH_CFG_BO, AFE_CH_CFG_BIAS, AFE_CH_CFG_REF, AFE_CH_CFG_RANGE]
    let changes : Prop := ∃ f, f ∈ lists ∧ got f ≠ s.get cfg f
    let legal : Prop := got AFE_CH_CFG_INSEL < 4 ∧ got AFE_CH_CFG_BO < 3 ∧ got AFE_CH_CFG_RANGE < 5
    let aoCount := tget s.afe.aoCount 0 w + 1
    let u := s.reqsTo (e - 1)
    (s.fabric = true → n.val < s.nCh → legal → s.does (.afeChCfgWrite n v) fun t =>
      (∀ f, f ∈ AFE_CH_CFG_EN :: lists → t.get cfg f = got f) ∧ s.sameRegs t [cfg] ∧
      t = { s with regs := t.regs, afe := t.afe, flt := t.flt } ∧
      (s.underTest n = false → got AFE_CH_CFG_EN = 1 → en = 0 ∨ changes →
        (t.achan n).valid = false ∧ (t.achan n).restart = some (s.edgeNow + 1 + 64) ∧ (t.achan n).zeroed = true ∧
        t.flt = { s.flt with reqs := s.flt.reqs.takeWhile (·.edge ≤ s.edgeNow + 1) ++
          { edge := s.edgeNow + 1, chan := some n.val } :: s.flt.reqs.dropWhile (·.edge ≤ s.edgeNow + 1) }) ∧
      (s.underTest n = false → en = 1 → got AFE_CH_CFG_EN = 0 →
        (t.achan n).valid = false ∧ (t.achan n).restart = none ∧ t.flt = s.flt) ∧
      (s.underTest n = true ∨ (en = got AFE_CH_CFG_EN ∧ ¬changes) ∨ (en = 0 ∧ got AFE_CH_CFG_EN = 0) →
        t.afe = s.afe ∧ t.flt = s.flt)) ∧
    (x.restart = some e → s.fabric = true → s.pow.pllT = true → en = 1 → s.underTest n = false → s.napped n = false →
      s.behind n e = false → s.does (.channelRestartEnd n) fun t =>
        t.time = max s.time (s.edgeTime e) ∧ t.achan n = { x with valid := true, restart := none } ∧
        ((u.fch n).alt = none → (u.fch n).pending = none →
          let y := u.fch n
          let z := y.work.getD (s.rd (FLT_PROF_A y.prof), s.rd (FLT_PROF_B y.prof))
          t.fch n = { y with
            main := some (.begin y.prof z.1 z.2 e), fade := 0, next := e, work := some z, recent := none }) ∧
        ∀ m : Nat, m ≠ n.val → t.achan m = s.achan m ∧ t.fch m = u.fch m) ∧
    (s.fabric = true → s.emits n = true → s.does (.overload n) fun t =>
      bitAt (t.rd (AFE_OVL (n.val / 32))) (n.val % 32) = true ∧
      (∀ k, k ≠ n.val → bitAt (t.rd (AFE_OVL (k / 32))) (k % 32) = bitAt (s.rd (AFE_OVL (k / 32))) (k % 32)) ∧
      t = { s with regs := t.regs, afe := { s.afe with test := t.afe.test } }) ∧
    (s.fabric = true → s.emits n = true → s.does (.integratorClear n) fun t =>
      t.achan n = { x with zeroed := true } ∧ (∀ m : Nat, m ≠ n.val → t.achan m = s.achan m) ∧ t = { s with afe := t.afe }) ∧
    (s.pow.phase = .up → s.get AFE_CTRL AFE_CTRL_REFEN = 1 → s.get SYS_STATUS SYS_STATUS_AVDDLOW = 0 → s.does .refrdy fun t =>
      t = { s with afe := { s.afe with ref := true } }) ∧
    (s.pow.phase = .oasis → bits.length = 2048 → fieldOf (tget s.afe.aoWatch 0 w) AFE_WATCH_CFG_EN = 1 →
      cicAll (tget s.afe.aoCic {} w) bits = (c, some s1) → s.does (.watchResult w bits) fun t =>
        (3 ≤ aoCount → t.get (OAS_WRES w) OAS_WRES_VALID = 1 ∧ t.get (OAS_WRES w) OAS_WRES_CODE =
          (roundHalfUp (roundHalfUp ((s1 : Int) - 2 ^ 32) 256) 4 % 2 ^ 24).toNat) ∧
        (aoCount < 3 → t.get (OAS_WRES w) OAS_WRES_VALID = s.get (OAS_WRES w) OAS_WRES_VALID) ∧
        tget t.afe.aoCount 0 w = min 3 aoCount ∧ tget t.afe.aoCic {} w = c ∧ s.sameRegs t [OAS_WRES w] ∧
        t = { s with regs := t.regs, afe := t.afe, freeCtr := t.freeCtr })

/-- R102–R107: START in RUN clears VALID in the results of the masked channels and takes the first dwell's channels under test; while a
test runs it sets TESTCOLL. In RUN a phase follows a phase; the end of a dwell writes the results, releases its channels, and goes on to
the next masked channel or ends the test; ABORT ends it with TESTABORT. The model's choices (log 16): an empty mask ends at TESTDONE at
once, a store with START and ABORT takes no field, and the clamps of a result. -/
def Obligations.WiringTests : Prop :=
  ∀ (s : State) (v : Word) (q : TestSt) (res : List (Chan × Int)) (n : Chan) (x : Int) (m : Nat) (rest : List Nat),
    let seq := fieldOf v AFE_TEST_CTL_SEQ = 1
    let loop := decide (fieldOf v AFE_TEST_CTL_MODE = 2)
    let legal : Prop := fieldOf v AFE_TEST_CTL_DWELL ≠ 0 ∧ fieldOf v AFE_TEST_CTL_VLT ≠ 3 ∧
      (fieldOf v AFE_TEST_CTL_MODE = 1 ∨ fieldOf v AFE_TEST_CTL_MODE = 2)
    let starts := s.fabric = true ∧ s.pstate = 0 ∧ s.afe.test = none ∧ fieldOf v AFE_TEST_CTL_ABORT = 0 ∧ legal
    let pos := fun (t : State) => t.get AFE_TEST_POS AFE_TEST_POS_CH
    let restarted := fun (t : State) (k : Nat) => s.get (AFE_CH_CFG k) AFE_CH_CFG_EN = 1 →
      (t.achan k).restart = some (s.edgeNow + 1 + 64) ∧ (t.achan k).valid = false
    let ended := fun (t : State) => t.afe.test = none ∧ t.get AFE_STATUS AFE_STATUS_TESTBUSY = 0 ∧ pos t = 0x7F ∧
      ∀ k, k ∈ q.now → restarted t k
    let word := fun (value : Nat) (ovr : Bool) => BitVec.ofNat 32 (q.loop.toNat * 2 ^ 18 + ovr.toNat * 2 ^ 17 + 2 ^ 16 + value)
    let result := fun (t : State) => n.val ∈ q.now → (res.find? fun r => r.1.val = n.val) = some (n, x) →
      (q.loop = false → t.rd (AFE_TEST_RES n) = word ((clampInt (-16383) 16383 x) % 65536).toNat (decide (16383 < x.natAbs))) ∧
      (q.loop = true → n.val ∈ q.ovl ∨ 65534 < x → t.rd (AFE_TEST_RES n) = word 0xFFFF true) ∧
      (q.loop = true → n.val ∉ q.ovl → 0 ≤ x → x ≤ 65534 → t.rd (AFE_TEST_RES n) = word x.toNat false)
    (starts → s.masked = m :: rest → s.does (.testStart v) fun t =>
      t.afe.test = some (if seq then { loop, seq := true, now := [m], rest } else { loop, seq := false, now := m :: rest, rest := [] }) ∧
      t.get AFE_STATUS AFE_STATUS_TESTBUSY = 1 ∧ pos t = (if seq then m else 0x7E) ∧
      (∀ k, k ∈ m :: rest → t.get (AFE_TEST_RES k) AFE_TEST_RES_VALID = 0) ∧
      (∀ k, k ∈ (if seq then [m] else m :: rest) → (t.achan k).valid = false ∧ (t.achan k).restart = none)) ∧
    (starts → s.masked = [] → s.does (.testStart v) fun t => t.get AFE_STATUS AFE_STATUS_TESTDONE = 1 ∧ t.afe = s.afe ∧
      s.onlyRegs t ∧ s.sameRegs t [AFE_STATUS, AFE_TEST_CTL]) ∧
    (s.fabric = true → s.afe.test = some q → fieldOf v AFE_TEST_CTL_ABORT = 0 → s.does (.testStart v) fun t =>
      t.get AFE_STATUS AFE_STATUS_TESTCOLL = 1 ∧ s.onlyRegs t ∧ s.sameRegs t [AFE_STATUS]) ∧
    (s.fabric = true → s.afe.test = some q → fieldOf v AFE_TEST_CTL_ABORT = 1 → s.does (.testStart v) fun t =>
      ended t ∧ t.get AFE_STATUS AFE_STATUS_TESTABORT = 1 ∧ t.rd AFE_TEST_CTL = s.rd AFE_TEST_CTL) ∧
    (s.fabric = true → s.afe.test = some q →
      (s.does .testAbort fun t => ended t ∧ t.get AFE_STATUS AFE_STATUS_TESTABORT = 1) ∧
      (s.pstate = 0 → q.phase < (if q.loop then 3 else 1) → s.does .testPhaseEnd fun t =>
        t = { s with afe := { s.afe with test := some { q with phase := q.phase + 1 } } }) ∧
      (s.pstate = 0 → q.phase = (if q.loop then 3 else 1) → (∀ k, k ∈ q.now → ∃ r, r ∈ res ∧ r.1.val = k) →
        (q.rest = [] → s.does (.testDwellEnd res) fun t => result t ∧ ended t ∧ t.get AFE_STATUS AFE_STATUS_TESTDONE = 1) ∧
        (q.rest = m :: rest → m ∉ q.now → s.does (.testDwellEnd res) fun t => result t ∧
          t.afe.test = some { loop := q.loop, seq := q.seq, now := [m], rest } ∧ (q.seq = true → pos t = m % 2 ^ 7) ∧
          ∀ k, k ∈ q.now → restarted t k)))

/-! ## Filters and events (chapter 5) -/

/-- R113, R119, R122, R124, R130, R133, R135–R138, R141, R142, R146: the window that closes gives the channel's item: SETTLE before its
output is complete, while the flag is clear, and where a temperature cannot be had, which every such item reports; else the output code less the offset, or a temperature
in the sensor's range, at its end beyond 1.2 × full scale; during a change the fade's value. The item goes to EVT, to its queue and to the
estimator. `w` is the state once the requests up to the window's edge have arrived. The model's choices: an edge that has passed counts
as the present count (log 10); where the flag is clear, or a conversion fails, the old path's output counts as the value of R124 (log 17);
which temperature within the error of R137 is given (log 18); a waiting request is accepted before a sync of its edge (log 76). -/
def Obligations.SampleItems : Prop :=
  ∀ (s : State) (n : Chan) (bits : List Bool) (e : Nat) (p p1 : PathSt) (code : Int) (u : Fin 96),
    let w := s.reqsTo e
    let x := w.fch n
    let hold := x.last.getD {}
    let sensor := w.get (FLT_CH_CFG n) FLT_CH_CFG_SENSOR
    let tick := w.edgeTime e
    let route := fun (f : Fld) => w.get (FLT_CH_ROUTE n) f
    let q := route FLT_CH_ROUTE_QSEL
    let runs := s.fabric = true ∧ s.pow.pllT = true ∧ x.due = some e ∧ (s.fch n).next + bits.length = e + 1 ∧ s.behind n e = false ∧
      s.syncAhead n e = false ∧ s.restartAhead n e = false ∧ w.lowerDue n e = false ∧ w.napped n = false ∧ x.main = some p
    let closes := p.feedAll x.next bits = (p1, some code)
    let noted := (w.achan n).flagAt e = true
    let rule := fun (f : Fld) => w.get (EVT_CFG u) f
    let armed := fun (t : State) (k : Nat) => (t.get (EVT_FLAG u) EVT_FLAG_ARM).testBit k
    let given := fun (t : State) (y : ItemVal) (settle : Bool) =>
      (tget t.flt.post [] n).head? = some { v := BitVec.ofInt 32 y.v, settle, rng := y.rng, edge := e } ∧
      ∃ ev : Bool,
        (route FLT_CH_ROUTE_QEN = 1 → tget w.qm.epochF none q = some (secOf tick) → w.qlive q = true → w.occ q + 2 ≤ w.qsize q →
          let item := (t.getSlot q (w.qst q).wr).1.toNat
          ((item / 2 ^ 32 : Nat) : Int) = y.v % 2 ^ 32 ∧
          item % 2 ^ 32 = n.val * 2 ^ 25 + settle.toNat * 2 ^ 24 + y.rng.toNat * 2 ^ 23 + y.lin.toNat * 2 ^ 22 + ev.toNat * 2 ^ 21 +
            tick % secTicks / 125 ∧ (t.qst q).wr = (w.qst q).wr + 1) ∧
        (rule EVT_CFG_IN = n.val → settle = false →
          (rule EVT_CFG_HIEN = 1 → armed w 0 = true → (w.rd (EVT_HI u)).toInt ≤ y.v →
            t.get (EVT_FLAG u) EVT_FLAG_HI = 1 ∧ armed t 0 = false ∧ ev = true ∧ (w.asks u = false → u.val ∈ t.hic.asks)) ∧
          (rule EVT_CFG_LOEN = 1 → armed w 1 = true → y.v ≤ (w.rd (EVT_LO u)).toInt →
            t.get (EVT_FLAG u) EVT_FLAG_LO = 1 ∧ armed t 1 = false ∧ ev = true) ∧
          (rule EVT_CFG_HIEN = 1 → armed w 0 = false → y.v ≤ (w.rd (EVT_HI u)).toInt - w.get (EVT_HYST u) EVT_HYST_HYST →
            armed t 0 = true ∧ t.get (EVT_FLAG u) EVT_FLAG_HI = w.get (EVT_FLAG u) EVT_FLAG_HI)) ∧
        (rule EVT_CFG_IN = n.val → settle = true → t.evtU u = {} ∧ armed t 2 = true ∧ armed t 3 = true ∧ armed t 4 = true ∧
          t.get (EVT_FLAG u) ⟨0, 5⟩ = w.get (EVT_FLAG u) ⟨0, 5⟩) ∧
        (rule EVT_CFG_IN ≠ n.val → t.rd (EVT_FLAG u) = w.rd (EVT_FLAG u) ∧ t.evtU u = w.evtU u)
    let gives := fun (y : ItemVal) (settle : Bool) (z : FltCh) => s.does (.sampleItem n bits) fun t =>
      t.time = max s.time tick ∧ given t y settle ∧ t.fch n = z
    let off := code - signedOf 24 (w.get (FLT_CH_OFFS n) FLT_CH_OFFS_OFFS)
    let plain : ItemVal := { v := off, rng := decide (3774873 < code.natAbs), lin := false }
    let settles := gives hold true { x with main := some { p1 with out := some hold }, next := e + 1 }
    (runs → closes → x.alt = none → x.fade = 0 →
      (¬noted → settles) ∧ (noted → p1.m ≤ p1.settles → settles) ∧
      (noted → p1.settles < p1.m → sensor = 0 →
        gives plain false { x with main := some { p1 with out := some plain }, next := e + 1, last := some plain, recent := some plain }) ∧
      (0 < sensor → sensor < 9 → w.coldJunction n = none → settles ∧
        s.does (.sampleItem n bits) fun t => t.get FLT_STATUS FLT_STATUS_CJERR = 1) ∧
      (9 ≤ sensor → w.sourceOff (w.get (FLT_CH_CFG n) FLT_CH_CFG_EXC) = true → settles ∧
        s.does (.sampleItem n bits) fun t => t.get FLT_STATUS FLT_STATUS_RTDERR = 1) ∧
      (noted → p1.settles < p1.m → sensor ≠ 0 →
        (if sensor < 9 then (w.coldJunction n).isSome = true else w.sourceOff (w.get (FLT_CH_CFG n) FLT_CH_CFG_EXC) = false) →
        let ends := sensorRange sensor
        ∃ y : ItemVal, y.lin = true ∧ 65536 * ends.1 ≤ y.v ∧ y.v ≤ 65536 * ends.2 ∧
          (3774873 < code → y.v = 65536 * ends.2 ∧ y.rng = true) ∧ (code < -3774873 → y.v = 65536 * ends.1 ∧ y.rng = true) ∧
          gives y false { x with main := some { p1 with out := some y }, next := e + 1, last := some y, recent := some y })) ∧
    (∀ q0 q1 : PathSt, runs → p.feedAll x.next bits = (p1, none) → x.alt = some q0 → q0.feedAll x.next bits = (q1, some code) → noted →
      q1.settles < q1.m → sensor = 0 → x.pending = none →
        let k := x.fade + 1
        let old := (p1.out.getD hold)
        let y : ItemVal := {
          v := roundHalfUp (old.v * (q1.f - k : Nat) + off * k) q1.f, rng := old.rng || plain.rng, lin := false }
        let z := { x with main := some p1, alt := some q1, next := e + 1, last := some y, recent := some y }
        gives y false (if k < q1.f then { z with fade := k } else { z with
          main := some { q1 with out := some plain }, alt := none, fade := 0, prof := q1.prof, work := some (q1.a, q1.b) }))

/-- R112, R124, R126–R132, R147, R473: an accepted SYNC_IN edge schedules a sync two edges later; a sync restarts the channels of its groups
on its edge, and SYNC_OUT goes high for 1 µs; a write of PROF requests the profile, which arrives on the next edge: active at once while
the flag is clear, else as a second path, or waiting behind one; a profile is taken whole or refused, and with it the second paths whose
edge still lies ahead; a write to a rule unit clears its histories and arms its rules. The model's choices: an edge that has passed counts
as the present count (log 10); INGRP is taken at the capture, and requests of one edge come behind its syncs (log 17); where the
cold-junction value of R135 is forgotten (log 76). -/
def Obligations.SyncsAndSettings : Prop :=
  ∀ (s : State) (at_ e : Nat) (q : SyncReq) (n : Chan) (p : Fin 8) (v : Word),
    let now := max s.time at_
    let raw := ((now : Int) - s.tim.adj).toNat
    let x := (s.reqsTo (q.edge - 1)).fch n
    let cfg := FLT_CH_CFG n
    let prof := fieldOf v FLT_CH_CFG_PROF
    let w := s.fltNow
    let live := s.fabric = true ∧ s.pow.pllT = true
    let accepts := fun (v : Word) => fieldOf v FLT_PROF_A_RESP = 0 ∧ fieldOf v FLT_PROF_A_D1SEL < 6 ∨
      fieldOf v FLT_PROF_A_RESP = 1 ∧ (fieldOf v FLT_PROF_A_D1SEL = 2 ∨ fieldOf v FLT_PROF_A_D1SEL = 4) ∨ fieldOf v FLT_PROF_A_RESP = 2
    let refused := fun (t : State) => bitAt (t.rd FLT_STATUS) 31 = true ∧ w.onlyRegs t ∧ w.sameRegs t [FLT_STATUS]
    let ahead := fun (t : State) => ∀ m, t.fch m = { w.fch m with alt := (w.fch m).alt.map fun y =>
      if y.prof = p.val ∧ s.edgeNow < y.start then { y with a := t.rd (FLT_PROF_A p), b := t.rd (FLT_PROF_B p) } else y }
    let writes := fun (P : State → Prop) => s.does (.fltChCfgWrite n v) P
    (live → (∀ y, s.flt.syncIn = some y → 2560 ≤ raw - y) → s.does (.syncInEdge at_) fun t =>
      t.time = now ∧ t.get FLT_STATUS FLT_STATUS_SYNCIN = 1 ∧ t.flt = { s.flt with
        syncIn := some raw
        syncs := s.flt.syncs ++ [{ edge := raw / 125 + 2, mask := s.get FLT_SYNC_CTL FLT_SYNC_CTL_INGRP, out := false }] }) ∧
    (∀ y, live → s.flt.syncIn = some y → raw - y < 2560 → s.does (.syncInEdge at_) fun t => t.time = now ∧ t.flt = s.flt) ∧
    (live → earliest s.flt.syncs = some q →
      (∀ m, m ∈ s.grouped q.mask → s.behind m q.edge = false ∧ s.restartAhead m (q.edge - 1) = false) → s.does .syncApply fun t =>
        t.time = max s.time (s.edgeTime q.edge) ∧ t.flt.syncs = s.flt.syncs.erase q ∧
        t.flt.syncOut = (if q.out then some q.edge else s.flt.syncOut) ∧
        (n.val ∉ s.grouped q.mask ∨ x.main = none → t.fch n = x) ∧
        (∀ y, n.val ∈ s.grouped q.mask → x.main = some y → x.alt = none → t.fch n = { x with
          main := some (.begin y.prof y.a y.b q.edge), next := q.edge, recent := none }) ∧
        (∀ y z, n.val ∈ s.grouped q.mask → x.main = some y → x.alt = some z → x.pending = none → t.fch n = { x with
          main := some (.begin z.prof z.a z.b q.edge), alt := none, fade := 0, next := q.edge, prof := z.prof
          work := some (z.a, z.b), recent := none })) ∧
    (s.pow.pllT = true → s.flt.syncOut = some e → s.does .syncOutPulseEnd fun t =>
      t.time = max s.time (s.edgeTime e + 256) ∧ t.flt = { s.flt with syncOut := none }) ∧
    (s.fabric = true → n.val < s.nCh → fieldOf v FLT_CH_CFG_CJCH < s.nCh → fieldOf v FLT_CH_CFG_CJSEL ≠ 3 →
      fieldOf v FLT_CH_CFG_SENSOR < 11 → writes fun t => w.sameRegs t [cfg] ∧ t = { w with regs := t.regs, flt := t.flt } ∧
        (∀ f, f ∈ [FLT_CH_CFG_CJCH, FLT_CH_CFG_CJSEL, FLT_CH_CFG_EXC, FLT_CH_CFG_SENSOR, FLT_CH_CFG_GROUP, FLT_CH_CFG_PROF] →
          t.get cfg f = fieldOf v f) ∧
        t.fch n = (if fieldOf v FLT_CH_CFG_SENSOR = w.get cfg FLT_CH_CFG_SENSOR then w.fch n else { w.fch n with last := none }) ∧
        (∀ m, m ≠ n.val → t.fch m = w.fch m) ∧
        t.flt.reqs = if prof = w.get cfg FLT_CH_CFG_PROF then w.flt.reqs
          else w.flt.reqs.takeWhile (·.edge ≤ s.edgeNow + 1) ++ { edge := s.edgeNow + 1, chan := some n.val, prof := some prof } ::
            w.flt.reqs.dropWhile (·.edge ≤ s.edgeNow + 1)) ∧
    (let y := s.fch n
      let t := s.arrive { edge := e, chan := some n.val, prof := some prof }
      t.get cfg FLT_CH_CFG_PROF = prof ∧
      ((s.achan n).flagAt e = false ∨ y.main = none → (t.fch n).prof = prof ∧ (t.fch n).alt = none ∧ (t.fch n).fade = 0 ∧
        (t.fch n).pending = none ∧ (t.fch n).main = y.main) ∧
      ((s.achan n).flagAt e = true → y.main.isSome = true →
        (prof = y.target → t = s.set cfg FLT_CH_CFG_PROF prof) ∧
        (prof ≠ y.target → y.alt = none → t.fch n = { y with
          alt := some (.begin prof (s.rd (FLT_PROF_A prof)) (s.rd (FLT_PROF_B prof)) e), fade := 0 }) ∧
        (prof ≠ y.target → y.alt.isSome = true → t.fch n = { y with pending := some prof } ∧
          (y.pending.isSome = true → t.get FLT_STATUS FLT_STATUS_PENDREPL = 1)))) ∧
    (s.fabric = true →
      (accepts v → s.does (.fltProfileWrite p false v) fun t => t = { w with regs := t.regs, flt := t.flt } ∧
        w.sameRegs t [FLT_PROF_A p] ∧ ahead t ∧
        ∀ f, f ∈ [FLT_PROF_A_RESP, FLT_PROF_A_D1SEL, FLT_PROF_A_FM1] → t.get (FLT_PROF_A p) f = fieldOf v f) ∧
      (¬accepts v → s.does (.fltProfileWrite p false v) refused) ∧
      (1 ≤ fieldOf v FLT_PROF_B_D2 → fieldOf v FLT_PROF_B_D2 ≤ fieldOf v FLT_PROF_B_L2 → fieldOf v FLT_PROF_B_L2 ≤ 4096 →
        s.does (.fltProfileWrite p true v) fun t => t = { w with regs := t.regs, flt := t.flt } ∧
          w.sameRegs t [FLT_PROF_B p] ∧ ahead t ∧
          t.get (FLT_PROF_B p) FLT_PROF_B_L2 = fieldOf v FLT_PROF_B_L2 ∧
          t.get (FLT_PROF_B p) FLT_PROF_B_D2 = fieldOf v FLT_PROF_B_D2) ∧
      (fieldOf v FLT_PROF_B_D2 = 0 ∨ fieldOf v FLT_PROF_B_L2 < fieldOf v FLT_PROF_B_D2 ∨ 4096 < fieldOf v FLT_PROF_B_L2 →
        s.does (.fltProfileWrite p true v) refused) ∧
      (∀ (r : EvtReg) (u : Chan), r ≠ .cfg ∨ s.inReserved (fieldOf v EVT_CFG_IN) = false → s.does (.evtConfigWrite r u v) fun t =>
        t.evtU u = {} ∧ t.get (EVT_FLAG u) EVT_FLAG_ARM = 0x1F ∧ t.get (EVT_FLAG u) ⟨0, 5⟩ = s.get (EVT_FLAG u) ⟨0, 5⟩ ∧
        s.sameRegs t [evtAddr r u, EVT_FLAG u, EVT_STATUS] ∧ t = { s with regs := t.regs, evt := t.evt } ∧
        (r = .hi ∨ r = .lo → t.rd (evtAddr r u) = v) ∧
        (r = .hyst → t.get (EVT_HYST u) EVT_HYST_HYST = fieldOf v EVT_HYST_HYST) ∧
        (r = .rate → t.get (EVT_RATE u) EVT_RATE_RLIM = fieldOf v EVT_RATE_RLIM) ∧
        (r = .cfg → t.get (EVT_CFG u) EVT_CFG_IN = fieldOf v EVT_CFG_IN)))

/-! ## Caer links (chapter 14) -/

/-- R355, R356, R360, R10: EN takes a port to TRAIN and back to OFF; IDENT frames, three each way, take it UP, and one that fails its
checks to IDERR; a failed link trains again with its frames counted; an acknowledgement frees the frames up to the one it names; a
timeout sends the unacknowledged ones again, and a frame's eighth resend fails the link; CRC errors and a read of the counts. The model's
choices (log 43): both sequences restart at 0 in TRAIN, IDENT is judged in every state but OFF, a passing one in IDERR counts as the
first, clearing EN drops frames without a count, a timeout adds one to RETRY, and the journal records that wait count as frames. -/
def Obligations.CaerLinks : Prop :=
  ∀ (s : State) (n : Port) (v : Word) (hub partner : BitVec 4) (up pen : Bool) (vr : BitVec 2) (h : CaerHdr),
    let x := s.link n
    let k := s.linkState n
    let en := s.get (CAER_LINK_CFG n) CAER_LINK_CFG_EN
    let err := fun (f : Fld) (t : State) => t.get (CAER_LINK_ERR n) f
    let counts := fun (f : Fld) (m : Nat) (t : State) => err f t = min 255 (err f s + m)
    let waits := x.unacked.length + x.waiting.length + (if n.val = s.plink then s.caer.jbuf.length else 0)
    let trains := fun (t : State) => t.linkState n = 1 ∧ (t.link n).identTx = 0 ∧ (t.link n).nextSeq = 0 ∧ (t.link n).expSeq = 0 ∧
      (t.link n).unacked = [] ∧ (t.link n).waiting = [] ∧ (t.link n).wire = x.wire
    let failed := fun (t : State) => t.linkState n = 1 ∧ (t.link n).unacked = [] ∧ (t.link n).waiting = [] ∧ (t.link n).identRx = 0 ∧
      counts CAER_LINK_ERR_DROP waits t ∧ t.hic.inflight = s.hic.inflight ++ [193] ∧ (n.val = s.plink → t.caer.jbuf = [])
    let nowUp := fun (was : Nat) (t : State) => t.linkState n = 2 ∧ t.hic.inflight = s.hic.inflight ++ [192] ∧ was = 1
    let same := fun (t : State) => t.linkState n = k ∧ t.hic = s.hic
    (s.fabric = true → n.val < s.nCaer → fieldOf v CAER_LINK_CFG_SYNCRATE ≠ 3 →
      (en = 0 → fieldOf v CAER_LINK_CFG_EN = 1 → s.does (.linkEnable n v) fun t =>
        trains t ∧ (t.link n).identRx = 0 ∧ t.get (CAER_LINK_CFG n) CAER_LINK_CFG_SYNCRATE = fieldOf v CAER_LINK_CFG_SYNCRATE) ∧
      (en = 1 → fieldOf v CAER_LINK_CFG_EN = 0 → s.does (.linkEnable n v) fun t =>
        t.rd (CAER_LINK_STAT n) = 0 ∧ (t.link n).unacked = [] ∧ (t.link n).waiting = [] ∧ (t.link n).exUp = none ∧
        (t.link n).exDown = none ∧ (n.val = s.plink → t.caer.jbuf = [])) ∧
      (en = fieldOf v CAER_LINK_CFG_EN → s.does (.linkEnable n v) fun t => t.caer = s.caer ∧ t.linkState n = k)) ∧
    (s.fabric = true →
      (k = 1 ∨ k = 3 → s.does (.identTimer n) fun t =>
        (∃ (f : CFrame) (l : List CFrame), (t.link n).wire = x.wire ++ f :: l ∧ (k = 3 ∨ x.waiting = [] ∧ s.caer.jbuf = [] → l = []) ∧
          f.typ = 11 ∧ f.src = s.hub ∧ (f.payload.getD 0 0).toNat = s.hub ∧
          f.payload.getD 1 0 = (if s.upEnd n then 1 else 0)) ∧ (t.link n).identTx = x.identTx + 1 ∧
        (k = 1 → 3 ≤ x.identRx → 2 ≤ x.identTx → nowUp k t) ∧ (k = 3 ∨ x.identRx < 3 ∨ x.identTx < 2 → same t)) ∧
      (k = 2 ∨ k = 3 → s.does (.linkFail n) fun t => failed t ∧ t.get (CAER_LINK_STAT n) CAER_LINK_STAT_LOCK = 0) ∧
      (k < 2 → s.does (.linkFail n) fun t => same t ∧ t.caer = s.caer ∧ t.get (CAER_LINK_STAT n) CAER_LINK_STAT_LOCK = 0) ∧
      (k ≠ 0 → hub.toNat = s.hub ∨ up = s.upEnd n → s.does (.ident n hub up pen vr partner) fun t =>
        t.linkState n = 3 ∧ t.get (CAER_LINK_STAT n) CAER_LINK_STAT_CODE = (if hub.toNat = s.hub then 1 else 2) ∧
        t.hic.inflight = s.hic.inflight ++ (if k = 3 then [] else [195])) ∧
      (k ≠ 0 → hub.toNat ≠ s.hub → up ≠ s.upEnd n → s.does (.ident n hub up pen vr partner) fun t =>
        t.get (CAER_LINK_STAT n) CAER_LINK_STAT_CODE = 0 ∧ t.get (CAER_LINK_STAT n) CAER_LINK_STAT_PEERHUB = hub.toNat ∧
        t.get (CAER_LINK_STAT n) CAER_LINK_STAT_PEERUP = up.toNat ∧ t.get (CAER_LINK_STAT n) CAER_LINK_STAT_PEERPEN = pen.toNat ∧
        t.get (CAER_LINK_STAT n) CAER_LINK_STAT_LOCK = 1 ∧ (t.link n).partner = partner.toNat ∧
        (k = 1 → (t.link n).identRx = x.identRx + 1 ∧
          (2 ≤ x.identRx → 3 ≤ x.identTx → nowUp k t) ∧ (x.identRx < 2 ∨ x.identTx < 3 → same t)) ∧
        (k = 3 → trains t ∧ (t.link n).identRx = 1) ∧ (k ≠ 1 → k ≠ 3 → same t)) ∧
      (k ≠ 0 → s.does (.frameCrcError n) fun t => counts CAER_LINK_ERR_CRC 1 t ∧ s.sameRegs t [CAER_LINK_ERR n] ∧
        t.link n = { x with ackDue := x.ackDue || s.linkUp n } ∧ t.hic = s.hic) ∧
      (s.does (.caerErrRead n) fun t => t.rdata = BitVec.ofNat 64 (s.rd (CAER_LINK_ERR n)).toNat ∧ t.rd (CAER_LINK_ERR n) = 0 ∧
        s.sameRegs t [CAER_LINK_ERR n] ∧ t.caer = s.caer)) ∧
    (s.fabric = true → s.linkUp n = true →
      (∀ a f b, h.ackv = true → h.src.toNat ≠ s.hub → x.unacked = a ++ f :: b → f.lseq = h.ackseq.toNat →
        (∀ g, g ∈ a → g.lseq ≠ h.ackseq.toNat) → x.waiting = [] → s.caer.jbuf = [] → s.does (.ack n h) fun t =>
          t.link n = { x with unacked := b } ∧ s.sameRegs t []) ∧
      (h.ackv = false ∨ (∀ g, g ∈ x.unacked → g.lseq ≠ h.ackseq.toNat) → h.src.toNat ≠ s.hub → s.does (.ack n h) fun t => t = s) ∧
      (h.ackv = false → h.src.toNat = s.hub → s.does (.ack n h) fun t =>
        t.get CAER_STATUS CAER_STATUS_LOOP = 1 ∧ t.hic.inflight = s.hic.inflight ++ [195] ∧ t.caer = s.caer) ∧
      (x.unacked ≠ [] → (∀ f, f ∈ x.unacked → f.resent < 7) → s.does (.resendTimeout n) fun t =>
        (t.link n).wire = x.wire ++ x.unacked.map (fun f => { f with ackseq := some ((x.expSeq + 4095) % 4096), resent := 0 }) ∧
        (t.link n).unacked = x.unacked.map (fun f => { f with resent := f.resent + 1 }) ∧ counts CAER_LINK_ERR_RETRY 1 t) ∧
      ((∃ f, f ∈ x.unacked ∧ 7 ≤ f.resent) → s.does (.resendTimeout n) fun t => failed t ∧ counts CAER_LINK_ERR_RETRY 1 t) ∧
      (x.ackDue = true → s.does (.ackTimer n) fun t => s.sentNow t n { typ := 0, src := s.hub } ∧
        t.link n = { x with wire := (t.link n).wire, ackDue := false } ∧ t = { s with caer := t.caer }))

/-- R354, R357, R360, R361, R366–R370, R446, R448: a frame's bytes and code groups read back as the frame; the next frame in order is
accepted, and its sender's direction learned; one for this hub has its effect, one for another hub is relayed while HOPS is below 15 and
a link leads on, or sets NODEST, a broadcast one both; one out of order, or this hub's own, has no effect; the acknowledgement that a
header carries takes effect first; a record goes into the partner ring, and a live one or HEART ends a baseline. The model's choices: the
tables of 8b/10b (log 73); a frame with the receiver's own number as SRC is acknowledged, and a CMD from another hub than 0 is discarded
where it first arrives (log 44); the first live record or HEART sets the number that the next is compared with, and a gap in a baseline
leaves the rest of it without effect (log 60). -/
def Obligations.CaerReceives : Prop :=
  ∀ (s : State) (n : Port) (h : CaerHdr) (time : BitVec 64) (arg value word jseq : Word) (action : BitVec 16) (flags code : Byte)
    (idx : BitVec 6) (record : List Byte) (items : List Item) (f : CFrame) (pos : Bool),
    let x := s.link n
    let src := h.src.toNat
    let dst := h.dst.toNat
    let up := s.fabric = true ∧ s.linkUp n = true
    let here := up ∧ (h.ackv = true → ∀ g, g ∈ x.unacked → g.lseq ≠ h.ackseq.toNat)
    let next := here ∧ h.lseq.toNat = x.expSeq ∧ src ≠ s.hub
    let got := fun (t : State) => (t.link n).expSeq = (x.expSeq + 1) % 4096 ∧ (t.link n).ackDue = true ∧ t.dirOf src = some n.val
    let line := fun (c : Instr) (typ : Nat) (body : List Byte) (take : State → Prop) =>
      let relayed := fun (t : State) (m : Nat) =>
        (t.link m).unacked = (s.link m).unacked ++ [{
          typ := typ, hops := h.hops.toNat + 1, src := src, dst := dst, bc := h.bc, dstq := h.dstq.toNat, payload := body
          lseq := (s.link m).nextSeq }] ∧ (t.link m).nextSeq = ((s.link m).nextSeq + 1) % 4096
      (h.bc = false → dst = s.hub → s.does c fun t => got t ∧ take t) ∧
      (h.bc = true → s.linkUp (1 - n.val) = false → s.does c fun t => got t ∧ take t) ∧
      (h.bc = true → h.hops.toNat ≠ 15 → s.roomOn (1 - n.val) → s.does c fun t => got t ∧ relayed t (1 - n.val) ∧ take t) ∧
      (h.bc = true → h.hops.toNat = 15 → s.linkUp (1 - n.val) = true → s.does c fun t => got t ∧ t.link (1 - n.val) = s.link (1 - n.val) ∧
        take t) ∧
      (h.bc = false → dst ≠ s.hub → dst ≠ src →
        let m := (s.dirOf dst).getD (1 - n.val)
        let still := fun (t : State) => got t ∧ (m ≠ n.val → t.link m = s.link m)
        (m = n.val ∨ s.linkUp m = false → s.does c fun t => still t ∧ t.get CAER_STATUS CAER_STATUS_NODEST = 1 ∧
          t.hic.inflight = s.hic.inflight ++ [195] ∧ s.sameRegs t [CAER_DIR, CAER_STATUS] ∧
          t = { s with regs := t.regs, caer := t.caer, hic := t.hic }) ∧
        (m ≠ n.val → s.linkUp m = true → h.hops.toNat = 15 → s.does c fun t => still t ∧ s.sameRegs t [CAER_DIR] ∧
          t = { s with regs := t.regs, caer := t.caer }) ∧
        (m ≠ n.val → s.roomOn m → h.hops.toNat ≠ 15 → s.does c fun t => got t ∧ relayed t m ∧ s.sameRegs t [CAER_DIR] ∧
          t = { s with regs := t.regs, caer := t.caer }))
    let every := fun (h : CaerHdr) => [Instr.launch n h time arg action flags, .msg n h word, .peer n h idx value, .cmd n h code,
      .heart n h jseq, .jrnl n h record, .qitems n h items]
    let all := every h
    let e := receivedEntry src time.toNat arg.toNat action.toNat flags.toNat
    let base := s.get TIME_BCPOOL TIME_BCPOOL_BASE
    let inPool := fun (i : Nat) => base ≤ i ∧ i < base + s.get TIME_BCPOOL TIME_BCPOOL_COUNT
    let q := h.dstq.toNat
    let partner := s.mirrors = true ∧ s.pair = 2 ∧ n.val = s.plink ∧ s.get JRN_PCFG JRN_PCFG_PLINES ≠ 0
    let gap := fun (t : State) => t.get JRN_PSTAT JRN_PSTAT_PVALID = 0 ∧ t.get JRN_PSTAT JRN_PSTAT_PGAP = 1 ∧
      t.get JRN_PSTAT JRN_PSTAT_BASELINE = 0 ∧ t.jrn.pLast = s.jrn.pLast ∧ t.hic.inflight = s.hic.inflight ++ [214]
    let seq := ofBytesLE (record.take 4)
    let frozen := s.get JRN_PSTAT JRN_PSTAT_FROZEN = 1
    let head := s.get JRN_PSTAT JRN_PSTAT_PHEAD
    let after := fun (l : Nat) => s.pNext l (s.jrn.bad.length + 1)
    let part := s.jrn.pLine
    let line_ := fun (t : State) (l : Nat) => tget t.jrn.store [] l
    let rest := fun (t : State) (ls : List Nat) => ∀ l, l ∉ ls → line_ t l = line_ s l
    let stored := fun (t : State) => (frozen → t.jrn.store = s.jrn.store ∧ t.jrn.pLine = part) ∧ (¬frozen →
      (record.length = 64 → part ≠ [] → (head ≠ after head → line_ t head = fullLine part) ∧ line_ t (after head) = record ∧
        rest t [head, after head] ∧ t.jrn.pLine = [] ∧ t.get JRN_PSTAT JRN_PSTAT_PHEAD = after (after head)) ∧
      (record.length = 16 ∨ part = [] → line_ t head = fullLine (part ++ record) ∧ rest t [head] ∧
        (64 ≤ (part ++ record).length → t.jrn.pLine = [] ∧ t.get JRN_PSTAT JRN_PSTAT_PHEAD = after head) ∧
        ((part ++ record).length < 64 → t.jrn.pLine = part ++ record ∧ t.get JRN_PSTAT JRN_PSTAT_PHEAD = head)))
    let complete := fun (t : State) => t.get JRN_PSTAT JRN_PSTAT_PVALID = 1 ∧ t.get JRN_PSTAT JRN_PSTAT_BASELINE = 0 ∧
      t.hic.inflight = s.hic.inflight ++ [214]
    (f.typ < 12 → f.hops < 16 → f.src < 16 → f.dst < 16 → f.dstq < 64 → f.lseq < 4096 → f.ackseq.getD 0 < 4096 →
      f.payload.length % 8 = 0 → f.payload.length ≤ 256 →
      readFrame f.bytes = some ({
        hops := BitVec.ofNat 4 f.hops, src := BitVec.ofNat 4 f.src, dst := BitVec.ofNat 4 f.dst, bc := f.bc, ackv := f.ackseq.isSome
        dstq := BitVec.ofNat 6 f.dstq, lseq := BitVec.ofNat 12 f.lseq, ackseq := BitVec.ofNat 12 (f.ackseq.getD 0) }, f.typ, f.payload) ∧
      readLane pos (laneCode pos (f.lane ++ laneIdle)) = some (f.lane ++ laneIdle)) ∧
    (∀ a g b, up → h.ackv = true → x.unacked = a ++ g :: b → g.lseq = h.ackseq.toNat → (∀ y, y ∈ a → y.lseq ≠ h.ackseq.toNat) →
      x.waiting = [] → s.caer.jbuf = [] ∨ n.val ≠ s.plink → ∀ p, p ∈ all.zip (every { h with ackv := false }) →
        exec p.1 s = exec p.2 (s.modLink n fun y => { y with unacked := b })) ∧
    (here → h.lseq.toNat ≠ x.expSeq → ∀ c, c ∈ all → s.does c fun t => (t.link n).expSeq = x.expSeq ∧ (t.link n).ackDue = true ∧
      s.sameRegs t [CAER_DIR] ∧ t = { s with regs := t.regs, caer := t.caer }) ∧
    (here → h.lseq.toNat = x.expSeq → src = s.hub → ∀ c, c ∈ all → s.does c fun t =>
      t.get CAER_STATUS CAER_STATUS_LOOP = 1 ∧ t.hic.inflight = s.hic.inflight ++ [195] ∧ s.sameRegs t [CAER_STATUS] ∧
      t = { s with regs := t.regs, caer := t.caer, hic := t.hic }) ∧
    (next →
      (line (.launch n h time arg action flags) 4 (bytesLE 8 time.toNat ++ bytesLE 4 arg.toNat ++ bytesLE 2 action.toNat ++ [flags, 0])
        fun t =>
          (∀ i, inPool i → (s.lent i).st = .free → (∀ j, inPool j → j < i → (s.lent j).st ≠ .free) → s.accepts e = true →
            e.journal = false → t.rd TIME_SEQ = s.rd TIME_SEQ + 1 ∧
            t.lent i = { e with seq := s.rd TIME_SEQ, st := .armed, late := decide (e.exec < s.time + e.lead) }) ∧
          ((∀ j, inPool j → (s.lent j).st ≠ .free) → t.rd TIME_LTERR = BitVec.ofNat 32 (2 ^ 31 + 2 ^ 18 + base % 1024) ∧
            14 ∈ t.hic.inflight ∧ t.tim = s.tim)) ∧
      (line (.msg n h word) 5 (bytesLE 8 word.toNat) fun t => t.rd (CAER_MBOX src) = word ∧ bitAt (t.rd CAER_MBOX_STAT) src = true ∧
        (bitAt (s.rd CAER_MBOX_STAT) src = true → bitAt (t.rd CAER_MBOX_STAT) (16 + src) = true) ∧ 194 ∈ t.hic.inflight) ∧
      (line (.peer n h idx value) 6 (bytesLE 4 idx.toNat ++ bytesLE 4 value.toNat) fun t =>
        t.rd (TEU_PEER idx.toNat) = if s.nTeu = 0 then s.rd (TEU_PEER idx.toNat) else value) ∧
      (src ≠ 0 → s.does (.cmd n h code) fun t => got t ∧ t.get CAER_STATUS CAER_STATUS_CMDREF = 1 ∧
        t.hic.inflight = s.hic.inflight ++ [195] ∧ t = { s with regs := t.regs, caer := t.caer, hic := t.hic }) ∧
      (src = 0 → code ≠ 1 → line (.cmd n h code) 7 (bytesLE 8 code.toNat) fun t => t.pow = s.pow) ∧
      (src = 0 → code = 1 → h.bc = true ∨ dst = s.hub → s.does (.cmd n h code) fun t =>
        t.pow.phase = .warm ∧ t.get SYS_RESETCAUSE SYS_RESETCAUSE_CAER = 1) ∧
      (line (.qitems n h items) 10 (items.flatMap fun i => bytesLE 8 i.toNat) fun t =>
        s.qlive q = true → s.occ q + items.length < s.qsize q → emptyItem ∉ items →
          (∀ k, k < items.length → (t.getSlot q ((s.qst q).wr + k)).1 = items.getD k 0) ∧
          (t.qst q).wr = (s.qst q).wr + items.length) ∧
      (partner →
        (∀ l, s.jrn.pLast = some l → jseq.toNat ≠ l → s.does (.heart n h jseq) fun t => got t ∧ gap t) ∧
        (s.jrn.pLast = none ∨ s.jrn.pLast = some jseq.toNat → s.get JRN_PSTAT JRN_PSTAT_BASELINE = 1 →
          s.does (.heart n h jseq) fun t => got t ∧ complete t) ∧
        (recordOk record = true → isBase record = false → s.jrn.pLast = none ∨ (∃ l, s.jrn.pLast = some l ∧ seq = (l + 1) % 2 ^ 32) →
          s.get JRN_PSTAT JRN_PSTAT_BASELINE = 1 → s.does (.jrnl n h record) fun t => got t ∧ complete t) ∧
        (sizeOk record = true → s.does (.jrnl n h record) fun t => got t ∧ stored t) ∧
        (s.jrn.pLast = none → s.get JRN_PSTAT JRN_PSTAT_BASELINE = 0 → s.does (.heart n h jseq) fun t => got t ∧
          t.jrn = { s.jrn with pLast := some jseq.toNat, pBad := false } ∧ t.hic = s.hic) ∧
        (recordOk record = false → s.does (.jrnl n h record) fun t => got t ∧ gap t ∧
          (sizeOk record = false → t.jrn.store = s.jrn.store ∧ t.jrn.pLine = part)) ∧
        (recordOk record = true → isBase record = true → s.get JRN_PSTAT JRN_PSTAT_FROZEN = 0 → s.jrn.pBad = false →
          s.does (.jrnl n h record) fun t => got t ∧ t.get JRN_PSTAT JRN_PSTAT_BASELINE = 1) ∧
        (recordOk record = true → isBase record = true → s.jrn.pBad = true → s.does (.jrnl n h record) fun t =>
          got t ∧ t.get JRN_PSTAT JRN_PSTAT_BASELINE = s.get JRN_PSTAT JRN_PSTAT_BASELINE) ∧
        (∀ l, recordOk record = true → isBase record = false → s.jrn.pLast = some l → s.does (.jrnl n h record) fun t => got t ∧
          t.rd JRN_PLAST = BitVec.ofNat 32 seq ∧ t.jrn.pLast = some seq ∧
          (seq ≠ (l + 1) % 2 ^ 32 → t.get JRN_PSTAT JRN_PSTAT_PVALID = 0 ∧ t.get JRN_PSTAT JRN_PSTAT_PGAP = 1 ∧
            t.get JRN_PSTAT JRN_PSTAT_BASELINE = 0 ∧ 214 ∈ t.hic.inflight))) ∧
      (¬partner → ∀ c, c = .heart n h jseq ∨ c = .jrnl n h record → s.does c fun t => got t ∧ t.jrn = s.jrn ∧ t.hic = s.hic))

/-- R363, R364, R367–R370: an exchange of timestamps goes TIME, DREQ, DRESP and gives offset and delay, the offset to the servo where it is
selected; an exchange left open is counted; a message goes to its hub's link or this hub's mailbox; exports, forwarders and line
commands send theirs. The model's choices: an instant that has passed counts as the present one (log 10); a frame that the hub
originates takes the direction of CAER_DIR (log 44); which end takes which timestamp from a command (log 45); a forwarder pops up to 32
items in one frame (log 47). -/
def Obligations.CaerTimeAndSends : Prop :=
  ∀ (s : State) (n : Port) (h : CaerHdr) (t1 t2 t3 t4 xn m : Nat) (v : Word) (j : Fin 16) (f : Fin 8),
    let x := s.link n
    let here := s.fabric = true ∧ s.linkUp n = true ∧ (h.ackv = true → ∀ g, g ∈ x.unacked → g.lseq ≠ h.ackseq.toNat) ∧ h.src.toNat ≠ s.hub
    let period := 256000000 / 8 ^ s.get (CAER_LINK_CFG n) CAER_LINK_CFG_SYNCRATE
    let asym := signedOf 16 (s.get (CAER_LINK_ASYM n) CAER_LINK_ASYM_ASYM)
    let offset := roundHalfUp (((t2 : Int) - t1) - ((t4 : Int) - t3) - asym) 2
    let stamp := fun (frame : Nat) (ts k : Nat) => ({ typ := frame, src := s.hub, payload := stampBytes ts k } : CFrame)
    let hubOf := fieldOf v CAER_MSGTX_HUB_HUB
    let pexp := fun (k : Nat) (g : Fld) => s.get (CAER_PEXP k) g
    let fwd := fun (g : Fld) => s.get (CAER_QFWD f) g
    let q := fwd CAER_QFWD_SRCQ
    let take := min 32 (s.avail q)
    let goes := fun (dst : Nat) => s.dirOf dst = some m ∧ s.roomOn m
    let errors := fun (g : Fld) (t : State) => t.get CAER_STATUS g = 1 ∧ t.hic.inflight = s.hic.inflight ++ [195] ∧ t.caer = s.caer
    (s.fabric = true → s.pow.pllT = true → s.linkUp n = true → s.upEnd n = true → s.does (.exchangeStart n t1) fun t =>
      period ∣ t.time ∧ s.time ≤ t.time ∧ t.time < s.time + period ∧ (t.link n).exUp = some (t1, x.exNum) ∧
      (t.link n).exNum = (x.exNum + 1) % 65536 ∧ s.sentNow t n (stamp 1 t1 x.exNum)) ∧
    (here → s.upEnd n = false → s.does (.time n h t1 xn t2 t3) fun t => (t.link n).exDown = some (xn, t1, t2, t3) ∧
      s.sentNow t n (stamp 2 t3 xn) ∧ t = { s with caer := t.caer }) ∧
    (here → s.upEnd n = true → s.does (.time n h t1 xn t2 t3) fun t => t = s) ∧
    (here → x.exUp = some (t1, xn) → s.does (.dreq n h t3 xn t4) fun t => (t.link n).exUp = none ∧
      s.sentNow t n (stamp 3 t4 xn) ∧ t = { s with caer := t.caer }) ∧
    (here → x.exDown = some (xn, t1, t2, t3) → s.does (.dresp n h t4 xn) fun t => (t.link n).exDown = none ∧
      t.rd (CAER_LINK_OFFS n) = BitVec.ofInt 32 offset ∧
      t.rd (CAER_LINK_DELAY n) = BitVec.ofInt 32 (roundHalfUp (((t2 : Int) - t1) + ((t4 : Int) - t3)) 2) ∧
      t.tim.samples = (if s.get CAER_ID CAER_ID_UPLINK = n.val ∧ s.hub ≠ 0 ∧ s.get TIME_SRV_CFG TIME_SRV_CFG_SRC = 2 + n.val
        then s.tim.samples ++ [(n.val, BitVec.ofInt 32 offset)] else s.tim.samples)) ∧
    (s.fabric = true → x.exUp.isSome = true ∨ x.exDown.isSome = true → s.does (.exchangeTimeout n) fun t =>
      t.link n = { x with exUp := none, exDown := none } ∧
      t.get (CAER_LINK_ERR n) CAER_LINK_ERR_LOSTSYNC = min 255 (s.get (CAER_LINK_ERR n) CAER_LINK_ERR_LOSTSYNC + 1) ∧
      s.sameRegs t [CAER_LINK_ERR n]) ∧
    (s.fabric = true →
      (hubOf = s.hub → s.does (.messageSend v) fun t => t.rd (CAER_MBOX s.hub) = s.rd CAER_MSGTX_DATA ∧
        bitAt (t.rd CAER_MBOX_STAT) s.hub = true ∧ t.hic.inflight = s.hic.inflight ++ [194]) ∧
      (hubOf ≠ s.hub → goes hubOf → s.does (.messageSend v) fun t =>
        s.sentSeq t m { typ := 5, src := s.hub, dst := hubOf, payload := bytesLE 8 (s.rd CAER_MSGTX_DATA).toNat } ∧
        t = { s with caer := t.caer }) ∧
      (hubOf ≠ s.hub → s.dirOf hubOf = some m → s.linkUp m = false → s.does (.messageSend v) (errors CAER_STATUS_NODEST)) ∧
      (fwd CAER_QFWD_EN = 1 → s.qlive q = true → take ≠ 0 → (∀ a, tget s.flips 0 a = 0) → goes (fwd CAER_QFWD_DSTHUB) →
        s.does (.qfwdSend f) fun t => (t.qst q).rd = (s.qst q).rd + take ∧
          s.sentSeq t m {
            typ := 10, src := s.hub, dst := fwd CAER_QFWD_DSTHUB, dstq := fwd CAER_QFWD_DSTQ
            payload := (List.range take).flatMap fun k => bytesLE 8 (s.getSlot q ((s.qst q).rd + k)).1.toNat }) ∧
      (fwd CAER_QFWD_EN = 1 → s.qlive q = false ∨ s.avail q = 0 → s.does (.qfwdSend f) fun t => t = s) ∧
      (fieldOf v CAER_CMD_KEY ≠ 0x5C3A → s.does (.lineCommand v) fun t => t = s) ∧
      (fieldOf v CAER_CMD_KEY = 0x5C3A → s.hub ≠ 0 → s.does (.lineCommand v) (errors CAER_STATUS_CMDREF)) ∧
      (fieldOf v CAER_CMD_KEY = 0x5C3A → s.hub = 0 → fieldOf v CAER_CMD_ALL = 0 → goes (fieldOf v CAER_CMD_HUB) →
        s.does (.lineCommand v) fun t => t = { s with caer := t.caer } ∧
          s.sentSeq t m { typ := 7, src := 0, dst := fieldOf v CAER_CMD_HUB, payload := bytesLE 8 1 }) ∧
      (s.pow.pllT = true → s.get CAER_PEXP_CFG CAER_PEXP_CFG_TRIG = 2 →
        (∀ k : Nat, k < 16 → pexp k CAER_PEXP_EN = if k = j.val then 1 else 0) → pexp j CAER_PEXP_BCAST = 0 →
        goes (pexp j CAER_PEXP_DSTHUB) → s.does .peerExportTick fun t =>
          256000 ∣ t.time ∧ s.time ≤ t.time ∧ t.time < s.time + 256000 ∧
          let body := bytesLE 4 (pexp j CAER_PEXP_IDX) ++ bytesLE 4 (s.exportValue (pexp j CAER_PEXP_SEL)).toNat
          s.sentSeq t m { typ := 6, src := s.hub, dst := pexp j CAER_PEXP_DSTHUB, payload := body }))

/-- R371–R376, R446, R447: PEN takes the hub to WAIT or out of the pair; PAIRED is entered with a ready partner, FAILED after 1 s without,
LOST without its frames or PAIR_OK; a takeover pulls TAKEOVER where it is high, at once for the lower-numbered hub, and freezes the
partner ring; a hub that sees TAKEOVER is taken, and none when it is released. The model's choices (log 46): PEN = 1 leaves another state
than NONE, a hub that pulls TAKEOVER through its WARM reset is TAKING again, from where RETRY and RELEASE have an effect, what HEART
carries before any live record, and that the balls' levels are learnt from the commands. -/
def Obligations.TheMirrorPair : Prop :=
  ∀ (s : State) (v : Word),
    let c := s.caer
    let f := fun (x : Fld) => fieldOf v x
    let raised := fun (k : Nat) (t : State) => t.hic.inflight = s.hic.inflight ++ [k]
    let waits := fun (t : State) => t.caer.pairOkLow = false ∧
      t.pair = (if c.takeLow then 5 else if c.partnerTakeLow then 6 else 1) ∧
      (c.takeLow = true → t.get JRN_PSTAT JRN_PSTAT_FROZEN = 1) ∧
      (c.takeLow = false → c.partnerTakeLow = true → raised 199 t ∧ t.caer.takeDelay = false)
    let unpaired := fun (t : State) => t.pair = 0 ∧
      t.caer = { c with pairOkLow := true, takeLow := false, takeDelay := false } ∧ t.hic = s.hic
    let low := c.takeLow || c.partnerTakeLow
    let hubs := s.hub < s.get CAER_PAIR_STAT CAER_PAIR_STAT_PHUB
    let pulls := fun (t : State) => (low = false → t.pair = 5 ∧ t.caer.takeLow = true ∧ t.get JRN_PSTAT JRN_PSTAT_FROZEN = 1) ∧
      (low = true → t.pair = s.pair ∧ t.caer.takeLow = c.takeLow)
    let autotk := s.get CAER_PAIR_CFG CAER_PAIR_CFG_AUTOTK = 1
    let lost := fun (t : State) => raised 198 t ∧ (¬autotk → t.pair = 4) ∧
      (autotk → hubs → low = false → t.pair = 5 ∧ t.caer.takeLow = true) ∧
      (autotk → ¬hubs → t.pair = 4 ∧ t.caer.takeDelay = true)
    let taken := fun (t : State) => t.pair = 6 ∧ raised 199 t ∧ t.caer.takeDelay = false
    let nextLive := match c.jbuf.filter (fun b => !isBase b), s.jrn.toAck with
      | b :: _, _ => ofBytesLE (b.take 4)
      | [], p :: _ => p.1
      | [], [] => s.jseq
    (s.fabric = true →
      (s.mirrors = true → f CAER_PAIR_CFG_RELEASE = 0 → f CAER_PAIR_CFG_RETRY = 0 → f CAER_PAIR_CFG_TAKE = 0 →
        s.does (.pairEnable v) fun t =>
          (∀ x, x ∈ [CAER_PAIR_CFG_PEN, CAER_PAIR_CFG_PLINK, CAER_PAIR_CFG_AUTOTK] → t.get CAER_PAIR_CFG x = f x) ∧
          (f CAER_PAIR_CFG_PEN = 1 → s.pair = 0 → waits t) ∧ (f CAER_PAIR_CFG_PEN = 0 → unpaired t) ∧
          (f CAER_PAIR_CFG_PEN = 1 → s.pair ≠ 0 → t.pair = s.pair ∧ t.caer = c)) ∧
      (s.pairReady = true → s.does .pairEnter fun t => t.pair = 2 ∧ raised 196 t ∧ t.caer.gap = true ∧ t.caer.lastLive = none ∧
        t.get CAER_PAIR_STAT CAER_PAIR_STAT_PHUB = s.get (CAER_LINK_STAT s.plink) CAER_LINK_STAT_PEERHUB) ∧
      (s.pair = 1 → s.does .pairTimeout fun t => t.pair = 3 ∧ raised 197 t ∧ t.caer = { c with pairOkLow := true }) ∧
      (s.mirrors = true → s.pair = 3 → s.does .retry waits) ∧
      (s.pair = 2 ∨ s.pair = 4 → hubs → s.does .take fun t => pulls t ∧ t.hic = s.hic) ∧
      (s.pair = 2 ∨ s.pair = 4 → ¬hubs → s.does .take fun t => t = { s with caer := { c with takeDelay := true } }) ∧
      (c.takeLow = true → s.does .release unpaired) ∧
      (s.pair = 2 → s.roomOn s.plink → s.does .heartTimer fun t => t = { s with caer := t.caer } ∧
        s.sentSeq t s.plink { typ := 8, src := s.hub, payload := bytesLE 8 (c.lastLive.getD ((nextLive + 2 ^ 32 - 1) % 2 ^ 32)) }) ∧
      (s.pair = 2 → s.does .partnerSilence lost) ∧
      (s.mirrors = true → c.pairOkLow = false → s.does .pairOkLow fun t => t.caer.partnerPairOkLow = true ∧ (s.pair = 2 → lost t) ∧
        (s.pair ≠ 2 → t = { s with caer := { c with partnerPairOkLow := true } })) ∧
      (c.takeDelay = true → s.pair = 2 ∨ s.pair = 4 → s.does .takeoverDelayEnd fun t => pulls t ∧ t.caer.takeDelay = false) ∧
      (s.mirrors = true → c.takeLow = false → s.pair = 1 ∨ s.pair = 2 ∨ s.pair = 4 → s.does .takeoverSeen fun t =>
        taken t ∧ t.caer.partnerTakeLow = true) ∧
      (s.mirrors = true → c.takeLow = false → s.pair = 6 → s.does .takeoverReleased fun t => t.pair = 0 ∧
        t.caer.partnerTakeLow = false ∧ t.caer.pairOkLow = true ∧ t.hic = s.hic))

/-! ## Ethernet (chapter 13) -/

/-- R336, R338–R340, R342–R344, R347–R350, R10: a good frame goes to the other port's queue, to the receive ring, or both, and a bad one is
counted; forwarded frames leave with their residence time added; what leaves is padded to 60 bytes and ends with its FCS; a transmit
slot is taken or refused, and written back where it stood when its frame has gone; the tail, the rings' enables, the management
interface and the counters. The model's choices: the order in which a port takes and drops frames and the room of a queue (log 39); where
a frame that several rows of R339 name goes (log 40); a slot's header as it is taken and the management interface (log 41); the bit
places of PTP and the FCS, taken from IEEE 1588 and 802.3 (log 42). The values of the padding are free. -/
def Obligations.Ethernet : Prop :=
  ∀ (s : State) (n : Port) (l : List Byte) (ok noAck rd : Bool) (f : EFrame) (p : Ptp) (v : Word) (data : BitVec 16) (x : TxSlot)
    (k : EthCounter) (m : Nat),
    let raised := fun (src : Nat) (t : State) => t.hic.inflight = s.hic.inflight ++ [src]
    let plus := fun (a : Nat) (t : State) => (t.rd a).toNat = min (2 ^ 32 - 1) ((s.rd a).toNat + 1)
    let rxOn := s.fabric = true ∧ n.val < s.nEth ∧ s.get (ETH_PORT_CFG n) ETH_PORT_CFG_EN = 1
    let intact := ∀ a, tget s.flips 0 a = 0
    let slot := fun (base cfg : Nat) => (s.rd base).toNat + 1536 * s.get cfg ETH_RX_CFG_HEAD
    let next := fun (cfg : Nat) (t : State) =>
      t.get cfg ETH_RX_CFG_HEAD = (s.get cfg ETH_RX_CFG_HEAD + 1) % s.get cfg ETH_RX_CFG_COUNT % 2 ^ 8
    let queued := fun (t : State) (q : Nat) (g : EFrame) (high : Bool) =>
      t.ethHi q = (if high then s.ethHi q ++ [g] else s.ethHi q) ∧ t.ethLo q = (if high then s.ethLo q else s.ethLo q ++ [g])
    let sent := fun (t : State) (q : Nat) (out : List Byte) =>
      (∃ pad : List Byte, pad.length = 60 - out.length ∧ tget t.eth.wire [] q = tget s.eth.wire [] q ++ [out ++ pad ++ fcsOf (out ++ pad)]) ∧
        plus (ETH_PORT_TX q) t
    let taken := fun (t : State) (q : Nat) => t.ethHi q ++ t.ethLo q = (s.ethHi q ++ s.ethLo q).drop 1
    let dropped := fun (q : Nat) (t : State) => plus (ETH_PORT_DROP q) t ∧ t.get ETH_STATUS ETH_STATUS_FWDDROP = 1 ∧ raised 189 t
    let a := slot ETH_TX_BASE ETH_TX_CFG
    let w0 := s.mrd a 4
    let body := (List.range (min 1518 (w0 % 2 ^ 11))).map fun i => mget s.mem (a + 16 + i)
    let ports := (portsOf (w0 / 2 ^ 28 % 4)).filter (· < s.nEth)
    let txOn := s.fabric = true ∧ 0 < s.nEth ∧ s.get ETH_CTL ETH_CTL_TXEN = 1 ∧ s.eth.tx = none ∧
      s.get ETH_TX_CFG ETH_TX_CFG_HEAD ≠ s.get ETH_TX_TAIL ETH_TX_TAIL_TAIL ∧ intact ∧ a + 1536 ≤ 0x100000
    let on := s.fabric = true ∧ 0 < s.nEth
    (rxOn →
      (frameGood l ok = false → s.does (.frameReceive n l ok) fun t => plus (ETH_PORT_BAD n) t ∧ raised 190 t ∧ t.eth = s.eth) ∧
      (frameGood l ok = true → s.forwards n l = true → (s.route l).inside = false →
        (s.ethRoom (1 - n.val) l = true → s.does (.frameReceive n l ok) fun t => plus (ETH_PORT_OK n) t ∧
          queued t (1 - n.val) { bytes := l, src := some n.val, rx := s.rxStamp n, steps := s.tim.steps } (ptpOf l).isSome) ∧
        (s.ethRoom (1 - n.val) l = false → s.does (.frameReceive n l ok) fun t => plus (ETH_PORT_OK n) t ∧
          dropped (1 - n.val) t ∧ t.eth = s.eth)) ∧
      (frameGood l ok = true → s.forwards n l = false → (s.route l).inside = true → s.get ETH_CTL ETH_CTL_RXEN = 1 → intact →
        let b := slot ETH_RX_BASE ETH_RX_CFG
        b + 1536 ≤ 0x100000 →
        ((s.mrd b 4).testBit 31 = true → s.does (.frameReceive n l ok) fun t =>
          t.get ETH_STATUS ETH_STATUS_RXOVF = 1 ∧ raised 186 t ∧ t.mem = s.mem) ∧
        ((s.mrd b 4).testBit 31 = false → s.does (.frameReceive n l ok) fun t => next ETH_RX_CFG t ∧ raised 184 t ∧
          (∀ i, i < l.length → mget t.mem (b + 16 + i) = l.getD i 0) ∧ t.mrd (b + 8) 4 = s.rxStamp n / 65536 % 10 ^ 9 ∧
          (ptpOf l = none → t.mrd b 4 = 2 ^ 31 + n.val * 2 ^ 30 + (tagged l).toNat * 2 ^ 26 + l.length) ∧
          (∀ c, c < b ∨ b + 16 + l.length ≤ c → mget t.mem c = mget s.mem c)))) ∧
    (s.nextEgress n = some f → s.fabric = true → s.portOn n = true → f.src.isSome = true →
      (isEvent f.bytes = true → f.steps ≠ s.tim.steps → s.does (.frameForward n) fun t => taken t n ∧ dropped n t) ∧
      (isEvent f.bytes = false → s.does (.frameForward n) fun t => taken t n ∧ sent t n f.bytes) ∧
      (ptpOf f.bytes = some p → ptpType f.bytes p = 0 → f.steps = s.tim.steps → p.udp = false → s.tcMode = 1 →
        p.at_ + 16 ≤ f.bytes.length → s.does (.frameForward n) fun t => taken t n ∧ ∃ out, sent t n out ∧
          signedOf 64 (beAt out (p.at_ + 8) 8) = min (2 ^ 63 - 1) (signedOf 64 (beAt f.bytes (p.at_ + 8) 8) +
            ((s.txStamp n + stampModulus - f.rx) % stampModulus : Nat)) ∧
          ∀ i, i < p.at_ + 8 ∨ p.at_ + 16 ≤ i → byteAt out i = byteAt f.bytes i)) ∧
    (txOn → s.slotBad w0 body = false → (∀ q, q ∈ ports → s.ethRoom q body = true) → s.does .txSlot fun t =>
      t.eth.tx = some { slot := s.get ETH_TX_CFG ETH_TX_CFG_HEAD, addr := a, w0 := w0, ports := ports } ∧
      (∀ q, q ∈ ports → queued t q { bytes := body } (w0.testBit 25 || (ptpOf body).isSome)) ∧ t.mem = s.mem) ∧
    (txOn → s.slotBad w0 body = true → s.does .txSlot fun t => t.mrd a 4 = w0 ||| 2 ^ 30 ||| 2 ^ 23 ∧
      t.get ETH_STATUS ETH_STATUS_TXERR = 1 ∧ raised 188 t ∧ next ETH_TX_CFG t ∧ t.eth = s.eth) ∧
    (s.eth.tx = some x → s.fabric = true → x.ports = [m] → s.txNext m = true → s.nextEgress m = some f → x.w0 < 2 ^ 32 → intact →
      let b := x.addr
      b + 1536 ≤ 0x100000 → s.does .txFrameDone fun t => t.eth.tx = none ∧ taken t m ∧
        (x.w0.testBit 26 = false → sent t m f.bytes) ∧ t.mrd b 4 = x.w0 % 2 ^ 30 + 2 ^ 30 ∧
        (x.w0.testBit 27 = true → t.mrd (b + 8) 4 = s.txStamp m / 65536 % 10 ^ 9) ∧
        (x.w0.testBit 24 = true → raised 185 t) ∧ (s.get ETH_TX_CFG ETH_TX_CFG_HEAD = x.slot → next ETH_TX_CFG t)) ∧
    (on →
      (fieldOf v ETH_TX_TAIL_TAIL < s.get ETH_TX_CFG ETH_TX_CFG_COUNT → s.does (.txTailWrite v) fun t =>
        t.get ETH_TX_TAIL ETH_TX_TAIL_TAIL = fieldOf v ETH_TX_TAIL_TAIL ∧ s.onlyRegs t ∧ s.sameRegs t [ETH_TX_TAIL]) ∧
      (s.get ETH_TX_CFG ETH_TX_CFG_COUNT ≤ fieldOf v ETH_TX_TAIL_TAIL → s.does (.txTailWrite v) fun t =>
        bitAt (t.rd ETH_STATUS) 31 = true ∧ s.onlyRegs t ∧ s.sameRegs t [ETH_STATUS]) ∧
      (s.does (.ringEnable v) fun t => s.onlyRegs t ∧ s.sameRegs t [ETH_CTL, ETH_RX_CFG, ETH_TX_CFG] ∧
        t.get ETH_CTL ETH_CTL_RXEN = fieldOf v ETH_CTL_RXEN ∧ t.get ETH_CTL ETH_CTL_TXEN = fieldOf v ETH_CTL_TXEN ∧
        t.get ETH_CTL ETH_CTL_BRIDGE = (if s.nEth < 2 then 0 else fieldOf v ETH_CTL_BRIDGE) ∧
        (s.get ETH_CTL ETH_CTL_RXEN = 0 → fieldOf v ETH_CTL_RXEN = 1 → t.get ETH_RX_CFG ETH_RX_CFG_HEAD = 0) ∧
        (s.get ETH_CTL ETH_CTL_TXEN = 0 → fieldOf v ETH_CTL_TXEN = 1 → t.get ETH_TX_CFG ETH_TX_CFG_HEAD = 0)) ∧
      (fieldOf v ETH_MDIO_START = 1 → fieldOf v ETH_MDIO_OP = 1 ∨ fieldOf v ETH_MDIO_OP = 2 → s.eth.mdio = none →
        s.does (.mdioStart v) fun t => t.eth = { s.eth with
            mdio := some (decide (fieldOf v ETH_MDIO_OP = 2))
            frames := s.eth.frames ++ [{
              op := fieldOf v ETH_MDIO_OP, phy := fieldOf v ETH_MDIO_PHYAD, reg := fieldOf v ETH_MDIO_REGAD
              data := if fieldOf v ETH_MDIO_OP = 1 then some (fieldOf v ETH_MDIO_DATA) else none }] } ∧
          t.get ETH_MDIO ETH_MDIO_BUSY = 1 ∧ s.sameRegs t [ETH_MDIO]) ∧
      (s.eth.mdio = some rd → s.does (.mdioDone data noAck) fun t => t.eth = { s.eth with mdio := none } ∧ raised 187 t ∧
        t.get ETH_MDIO ETH_MDIO_BUSY = 0 ∧ s.sameRegs t [ETH_MDIO] ∧
        (rd = true → t.get ETH_MDIO ETH_MDIO_NOACK = noAck.toNat ∧
          t.get ETH_MDIO ETH_MDIO_DATA = if noAck then 0xFFFF else data.toNat)) ∧
      (s.does (.ethCounterRead n k) fun t => t.rdata = BitVec.ofNat 64 (s.rd (ethCounterAddr n k)).toNat ∧ t.rerr = none ∧
        t.rd (ethCounterAddr n k) = 0 ∧ s.sameRegs t [ethCounterAddr n k] ∧ t.mem = s.mem)) ∧
    (s.fabric = true → s.nEth = 0 → ∀ c, c = .txTailWrite v ∨ c = .ringEnable v ∨ c = .mdioStart v → s.does c fun t =>
      raised 6 t ∧ t = { s with hic := t.hic })

/-! ## Two-wire ports (chapter 15) -/

/-- R383–R395: a target that answers an address takes pointer and data bytes into its window, and sends the byte at its pointer; a STOP ends
the sequence, a timeout the transfer; a controller command starts on a free bus, waits for a busy one, or is refused, and ends with
its result, its count and its data in CBUF, with BUSERR only where an access to CBUF fails; ABORT ends a command that waits and marks one
that runs; held configuration applies when the bus is free, and a command that waited for it starts, or ends with SELF where the port's
target role would now answer it; a port that is switched on again takes its bus for free, so that AUTOREC recovers a line held low. The
model's choices: a byte that is not acknowledged ends the transfer, a recovery does not wait for the bus, ABORT of a waiting command ends it
at once, how CBUF is accessed, and when a write that switches a port on applies (log 48); a write beyond the window (log 49); the bytes that stand
acknowledged and received where a command ends, which its operands name (log 50). -/
def Obligations.TwoWirePorts : Prop :=
  ∀ (s : State) (p : TPort) (addr : BitVec 7) (rd : Bool) (b : Byte) (v : Word) (c : TwpCmd) (n : Nat) (received : List Byte) (r : Req),
    let x := s.tw p
    let raised := fun (src : Nat) (t : State) => t.hic.inflight = s.hic.inflight ++ [src]
    let intact := ∀ a, tget s.flips 0 a = 0
    let on := s.twOn p = true
    let size := if s.fore p then 256 else s.winSize p
    let stat := fun (f : Fld) (t : State) => t.get (TWP_TSTAT p) f
    let cst := fun (f : Fld) (t : State) => t.get (TWP_CSTAT p) f
    let at_ := if s.fore p then s.twPtr p % 256 else s.twPtr p
    let moved := fun (t : State) => t.twPtr p = (if at_ + 1 < size then at_ + 1 else 0) ∧
      (size ≤ at_ + 1 → stat TWP_TSTAT_WRAP t = 1)
    let loaded := fun (t : State) => t.twAddr p < 0x100000 → (t.tw p).next = mget s.mem (t.twAddr p)
    let quiet := fun (t : State) => (t.tw p).xfer = none ∧ (t.tw p).seen = false ∧ (t.tw p).np = 0 ∧ (t.tw p).wcnt = 0 ∧
      (t.tw p).rcnt = 0
    let ends := fun (result count : Nat) (t : State) => (t.tw p).cmd = none ∧ cst TWP_CSTAT_BUSY t = 0 ∧ cst TWP_CSTAT_DONE t = 1 ∧
      cst TWP_CSTAT_RESULT t = result ∧ cst TWP_CSTAT_COUNT t = count ∧ raised (200 + 2 * p.val) t
    let starts := fun (t : State) (d : TwpCmd) => t.tw p = { x with cmd := some { d with run := true }, busy := true } ∧
      cst TWP_CSTAT_BUSY t = 1
    let new : TwpCmd := {
      addr := fieldOf v TWP_CCMD_ADDR, wlen := fieldOf v TWP_CCMD_WLEN, rlen := fieldOf v TWP_CCMD_RLEN
      cbuf := s.get (TWP_CBUF p) TWP_CBUF_BASE }
    let plain := fieldOf v TWP_CCMD_ABORT = 0 ∧ fieldOf v TWP_CCMD_RECOVER = 0
    (on →
      (s.answers p addr.toNat = true → intact → s.does (.targetAddress p addr rd) fun t =>
        (t.tw p).xfer = some rd ∧ (t.tw p).seen = true ∧ (t.tw p).np = 0 ∧ (t.tw p).busy = true ∧ (t.tw p).ptr = none ∧
        t.twPtr p = (x.ptr.getD (s.twPtr p)) % 2 ^ 16 ∧ (rd = true → loaded t)) ∧
      (s.answers p addr.toNat = false → s.does (.targetAddress p addr rd) fun t =>
        t.tw p = { x with busy := true, xfer := none } ∧ t = { s with twp := t.twp }) ∧
      (x.xfer = some false →
        (x.np + 1 < s.ptrLen p → s.does (.targetByteReceived p b) fun t => t.tw p = { x with np := 1, hi := b.toNat } ∧
          t = { s with twp := t.twp }) ∧
        (x.np < s.ptrLen p → s.ptrLen p ≤ x.np + 1 →
          let w := if x.np = 1 then 256 * x.hi + b.toNat else b.toNat
          (s.fore p = true ∨ w < s.winSize p → s.does (.targetByteReceived p b) fun t => t.twPtr p = w % 2 ^ 16 ∧
            t.tw p = { x with np := x.np + 1 } ∧ t.mem = s.mem) ∧
          (s.fore p = false → s.winSize p ≤ w → s.does (.targetByteReceived p b) fun t => stat TWP_TSTAT_PTRERR t = 1 ∧
            t.tw p = { x with xfer := none } ∧ t.twPtr p = s.twPtr p ∧ t.mem = s.mem)) ∧
        (s.ptrLen p ≤ x.np →
          (s.twOff p < s.get (TWP_WLIM p) TWP_WLIM_WRLIM → s.twAddr p < 0x100000 → intact →
            s.does (.targetByteReceived p b) fun t => mget t.mem (s.twAddr p) = b ∧
              (∀ a, a ≠ s.twAddr p → mget t.mem a = mget s.mem a) ∧ moved t ∧ (t.tw p).wcnt = min 4095 (x.wcnt + 1)) ∧
          (s.get (TWP_WLIM p) TWP_WLIM_WRLIM ≤ s.twOff p → s.does (.targetByteReceived p b) fun t =>
            stat TWP_TSTAT_WRREJ t = 1 ∧ t.tw p = { x with xfer := none } ∧ t.mem = s.mem ∧ t.twPtr p = s.twPtr p))) ∧
      (x.xfer = some true → intact → s.does (.targetByteSent p) fun t => (t.tw p).sent = x.sent ++ [x.next] ∧
        (t.tw p).rcnt = min 4095 (x.rcnt + 1) ∧ moved t ∧ loaded t) ∧
      (x.seen = true → s.does (.targetStop p) fun t => quiet t ∧ stat TWP_TSTAT_WCNT t = x.wcnt % 2 ^ 12 ∧
        stat TWP_TSTAT_RCNT t = x.rcnt % 2 ^ 12 ∧ raised (201 + 2 * p.val) t) ∧
      (x.seen = false → s.does (.targetStop p) fun t => quiet t ∧ t = { s with twp := t.twp }) ∧
      (s.get (TWP_CFG p) TWP_CFG_TOUT ≠ 0 → x.xfer.isSome = true → s.does (.targetTimeout p) fun t =>
        t.tw p = { x with xfer := none, np := 0 } ∧ stat TWP_TSTAT_TGTTO t = 1 ∧ raised (201 + 2 * p.val) t)) ∧
    (s.fabric = true → s.does (.targetPointerWrite p v) fun t => t.tw p = { x with ptr := some (fieldOf v TWP_TPTR_PTR) } ∧
      t = { s with twp := t.twp }) ∧
    (s.twCtl p = true →
      (plain → x.cmd = none → s.answers p new.addr = false →
        (x.busy = false → s.does (.go p v) fun t => starts t new) ∧
        (x.busy = true → s.does (.go p v) fun t => t.tw p = { x with cmd := some new } ∧ cst TWP_CSTAT_BUSY t = 1)) ∧
      (plain → x.cmd = none → s.answers p new.addr = true → s.does (.go p v) (ends 9 0)) ∧
      (plain → x.cmd.isSome = true → s.does (.go p v) fun t => bitAt (t.rd TWP_STATUS) p.val = true ∧ t.twp = s.twp) ∧
      (x.cmd = none → s.does (.recover p) fun t => starts t { recover := true })) ∧
    (s.fabric = true → x.cmd = some c →
      (c.run = true → s.does (.abort p) fun t => t.tw p = { x with cmd := some { c with abort := true } } ∧
        t = { s with twp := t.twp }) ∧
      (c.run = false → s.does (.abort p) (ends 8 0))) ∧
    (s.fabric = true → x.held = [] →
      (x.cmd = none → s.does (.busFree p) fun t => quiet t ∧ (t.tw p).busy = false ∧ t.get (TWP_BUS p) TWP_BUS_PEND = 0) ∧
      (x.cmd = some c → c.run = false → s.twCtl p = true →
        (c.recover = true ∨ s.answers p c.addr = false → s.does (.busFree p) fun t => quiet t ∧
          (t.tw p).cmd = some { c with run := true } ∧ (t.tw p).busy = true ∧ cst TWP_CSTAT_BUSY t = 1) ∧
        (c.recover = false → s.answers p c.addr = true → s.does (.busFree p) fun t => quiet t ∧ ends 9 0 t))) ∧
    (s.twCtl p = true → x.held = [(TWP_CFG p, v)] → x.cmd = some c → c.run = false → c.recover = false → fieldOf v TWP_CFG_EN = 1 →
      fieldOf v TWP_CFG_ROLE = 3 → fieldOf v TWP_CFG_ADDRMODE = 0 → c.addr = 0x58 + s.pow.addrSampled.toNat →
      s.get (TWP_WBASE p) TWP_WBASE_BASE + s.winSize p ≤ 0x100000 → s.does (.busFree p) fun t => quiet t ∧ ends 9 0 t ∧
        t.twCfg p TWP_CFG_ROLE = 3) ∧
    (s.onBus r = true → s.fabric = true → s.mayStore r (TWP_CFG p) = true → s.twCfg p TWP_CFG_EN = 0 → x.cmd = none → x.held = [] →
      fieldOf v TWP_CFG_EN = 1 → fieldOf v TWP_CFG_ROLE = 1 ∨ fieldOf v TWP_CFG_ROLE = 3 → fieldOf v TWP_CFG_ADDRMODE = 0 →
      s.get (TWP_WBASE p) TWP_WBASE_BASE + s.winSize p ≤ 0x100000 →
      s.does (.registerWrite r (BitVec.ofNat 32 (TWP_CFG p)) v) fun t => t.twCfg p TWP_CFG_EN = 1 ∧ t.twPtr p = 0 ∧
        (fieldOf v TWP_CFG_AUTOREC = 0 → (t.tw p).busy = false ∧ (t.tw p).cmd = none) ∧
        (fieldOf v TWP_CFG_AUTOREC = 1 → (t.tw p).busy = true ∧ (t.tw p).cmd = some { recover := true, run := true } ∧
          cst TWP_CSTAT_BUSY t = 1)) ∧
    (s.fabric = true → x.held = [(TWP_WLIM p, v)] → x.cmd = none → s.winOk p = true → s.does (.busFree p) fun t =>
      t.get (TWP_WLIM p) TWP_WLIM_WRLIM = fieldOf v TWP_WLIM_WRLIM ∧ (t.tw p).held = [] ∧ t.get (TWP_BUS p) TWP_BUS_PEND = 0) ∧
    (on → x.cmd = some c → c.run = true →
      (c.recover = false → c.wlen < 256 → c.rlen < 256 → c.rlen ≤ received.length → c.cbuf + c.wlen + c.rlen ≤ 0x100000 → intact →
        s.does (.controllerEnd p .ok n received) fun t => ends 1 (c.wlen + c.rlen) t ∧
          (t.tw p).sent = x.sent ++ (List.range c.wlen).map (fun i => mget s.mem (c.cbuf + i)) ∧
          (∀ i, i < c.rlen → mget t.mem (c.cbuf + c.wlen + i) = received.getD i 0) ∧
          ∀ a, a < c.cbuf + c.wlen ∨ c.cbuf + c.wlen + c.rlen ≤ a → mget t.mem a = mget s.mem a) ∧
      (c.recover = false → n < c.wlen → s.does (.controllerEnd p .addrNack n received) fun t => ends 2 0 t ∧ t.mem = s.mem) ∧
      (c.recover = false → c.wlen < 256 → c.rlen < 256 → intact →
        (∀ k, c.cbuf + k = 0x100000 → k < c.wlen → k ≤ n → s.does (.controllerEnd p .busErr n received) fun t => ends 10 k t ∧
          t.mem = s.mem ∧ (t.tw p).sent = x.sent ++ (List.range k).map fun i => mget s.mem (c.cbuf + i)) ∧
        (∀ k, c.cbuf + c.wlen + k = 0x100000 → k < c.rlen → k < received.length → c.wlen ≤ n →
          s.does (.controllerEnd p .busErr n received) fun t => ends 10 (c.wlen + k) t ∧
            (∀ i, i < k → mget t.mem (c.cbuf + c.wlen + i) = received.getD i 0) ∧
            ∀ a, a < c.cbuf + c.wlen ∨ 0x100000 ≤ a → mget t.mem a = mget s.mem a)) ∧
      (c.recover = true ∨ c.wlen = 0 ∧ c.rlen = 0 ∨ intact ∧ c.cbuf + c.wlen + c.rlen ≤ 0x100000 →
        s.does (.controllerEnd p .busErr n received) fun t => t = s) ∧
      (c.recover = true → s.does (.controllerEnd p .cleared n received) (ends 12 0)) ∧
      (c.recover = true → s.does (.controllerEnd p .stuck n received) (ends 11 0))) ∧
    (on → x.cmd = some c → s.get (TWP_CFG p) TWP_CFG_TOUT ≠ 0 →
      (c.recover = true → s.does (.controllerTimeout ⟨p, n, received⟩) (ends 11 0)) ∧
      (c.recover = false → c.run = false → s.does (.controllerTimeout ⟨p, n, received⟩) (ends 13 0)) ∧
      (c.recover = false → c.run = true → intact → c.cbuf + c.wlen + c.rlen ≤ 0x100000 →
        (n < c.wlen → s.does (.controllerTimeout ⟨p, n, received⟩) fun t => ends 7 (n % 2 ^ 9) t ∧ t.mem = s.mem ∧
          (t.tw p).sent = x.sent ++ (List.range n).map fun i => mget s.mem (c.cbuf + i)) ∧
        (c.wlen ≤ n → s.does (.controllerTimeout ⟨p, n, received⟩) fun t => ends 7 ((c.wlen + min c.rlen received.length) % 2 ^ 9) t ∧
          (t.tw p).sent = x.sent ++ (List.range c.wlen).map (fun i => mget s.mem (c.cbuf + i)) ∧
          (∀ i, i < min c.rlen received.length → mget t.mem (c.cbuf + c.wlen + i) = received.getD i 0) ∧
          ∀ a, a < c.cbuf + c.wlen ∨ c.cbuf + c.wlen + c.rlen ≤ a → mget t.mem a = mget s.mem a)))

/-! ## Settings, boot and flash (chapter 16) -/

/-- R398–R401, R405–R419, R453: a load begins from flash, which it releases, resets and identifies, or from the retained copy; the slots'
heads and signatures are judged in their order, sections are applied and compared, the last one ends the load and commits the image or
begins its trial, and a failure falls back; the copy, a commit and an update request; a flash command is refused, answered, or polled to
its end. The model's choices: what the commands of a load carry, what their bytes lack, SFDP tables that BOOT does not accept count as
none, and the code of a section with two faults (log 51); the order of the checks of R408 and R409 (log 52); when the status registers are
written (log 53); what a failed section leaves of its units (log 54); how many lines the copy has (log 55); BUSY and the range of R418
(log 56); what the record of the output holds (log 71); when the balls of a hub that is not configured for mirroring let go (log 46);
which groups on their way count as an earlier epoch's (log 59). -/
def Obligations.BootAndFlash : Prop :=
  ∀ (s : State) (l : Load) (r : List Load) (f : Sfdp) (a b body : List Byte) (n : Nat) (v : Word) (sr : Byte),
    let x := s.boot
    let img := s.boot.img
    let st := fun (f : Fld) (t : State) => t.get BOOT_STATUS f
    let raised := fun (src : Nat) (t : State) => src ∈ t.hic.inflight
    let intact := ∀ a, tget s.flips 0 a = 0
    let idle := fun (t : State) => x.load ≠ some .aoreset → s.mirrors = true → t.get CAER_PAIR_CFG CAER_PAIR_CFG_PEN = 0 →
      t.caer.pairOkLow = true ∧ t.caer.takeLow = false ∧ t.pair = 0
    let failed := fun (t : State) => (x.load ≠ some .aoreset → t.boot.ret.trial = none ∧ st BOOT_STATUS_TRIAL t = 0) ∧ idle t ∧
      t.boot.load = none ∧ st BOOT_STATUS_PHASE t = 6 ∧ st BOOT_STATUS_FROM t = 3 ∧ t.mem = s.mem
    let fails := fun (slot why : Nat) (t : State) => st (if slot = 0 then BOOT_STATUS_FAILA else BOOT_STATUS_FAILB) t = why
    let phase := fun (k : Nat) => s.fabric = true ∧ x.load.isSome = true ∧ st BOOT_STATUS_PHASE s = k
    let one : Image := { head := a, slot := 0, density := 0 }
    let sect := img.sect x.idx
    let why := if (crc32c body).toNat ≠ sect.scrc then 8 else if sha256 body ≠ sect.digest then 9 else 0
    let next := phase 4 ∧ x.applied = false ∧ x.src = .slot n ∧ x.idx < img.nsect ∧ body.length = sect.len
    let at_ := ofBytesLE (body.take 4)
    let fst := fun (f : Fld) (t : State) => t.get BOOT_FSTAT f
    let ends := fun (k : Nat) (t : State) => fst BOOT_FSTAT_BUSY t = 0 ∧ fst BOOT_FSTAT_DONE t = 1 ∧ fst BOOT_FSTAT_RESULT t = k ∧
      raised 209 t
    let len := s.get BOOT_FLEN BOOT_FLEN_LEN
    let buf := s.get BOOT_FBUF BOOT_FBUF_BASE
    let lo := (s.rd BOOT_FADDR).toNat
    let own := slotRange x.run.density x.run.slot
    let inOwn := x.run.head ≠ [] ∧ lo < own.2 ∧ own.1 < lo + max 1 len
    let free := s.fabric = true ∧ s.lcs.waiting = none
    let out := fun (before : List FlashOp) (data : List Byte) (t : State) =>
      t.boot.sent = x.sent ++ before ++ [⟨t.rd BOOT_FCMD, s.rd BOOT_FADDR, data⟩] ∧ t.get BOOT_FCMD BOOT_FCMD_INSTR = fieldOf v BOOT_FCMD_INSTR
    let readOp : FlashOp := {
      cmd := readWord x.rdInstr.toNat (lanesOf (s.get BOOT_INFO BOOT_INFO_MODE)) x.rdDummy (x.rdAddr4 || x.mode4)
      addr := BitVec.ofNat 32 (n * (img.density / 2) + sect.off), data := [] }
    let retained := x.ret.valid = true ∧ (l = .aoreset ∨ l = .wake ∧ x.ret.trial = none ∨
      l = .warm ∧ x.ret.trial = none ∧ x.ret.tried = false ∧ s.get BOOT_UPDATE BOOT_UPDATE_FLASH = 0)
    (s.fabric = true → x.due = l :: r → x.load = none →
      let told := fun (t : State) => t.boot.due = r ∧ t.lcs.ended = none ∧ t.mem = s.mem ∧
        t.jrn.handed = s.jrn.handed ++ s.lcs.ended.toList.map fun m => { frm := .lcs, recs := [{ kind := 8, src := 3, argd := 2, body := [m] }] }
      (s.lcState < 2 → s.does .bootStart fun t => told t ∧ t.boot.load = none ∧ (l ≠ .aoreset → s.mirrors = true →
        s.get CAER_PAIR_CFG CAER_PAIR_CFG_PEN = 0 → t.caer.pairOkLow = true ∧ t.caer.takeLow = false ∧ t.pair = 0)) ∧
      (2 ≤ s.lcState → ¬ retained → s.does .bootStart fun t => told t ∧ t.boot.load = some l ∧
        t.boot.src = .slot 0 ∧ st BOOT_STATUS_PHASE t = 1 ∧ (l = .warm → t.get BOOT_UPDATE BOOT_UPDATE_FLASH = 0) ∧
        t.boot.mode4 = false ∧ t.boot.sent = x.sent ++ [⟨0xAB, 0, []⟩, ⟨0x66, 0, []⟩, ⟨0x99, 0, []⟩, ⟨0x0108005A, 0, []⟩]) ∧
      (2 ≤ s.lcState → retained →
        (x.ret.copy.retained.any fun k => appliesOn l (x.ret.copy.sect k) (tget x.ret.copy.bodies [] k)) = true →
        s.does .bootStart fun t => told t ∧ t.boot.load = some l ∧ t.boot.src = .copy ∧ t.boot.img = x.ret.copy ∧
          st BOOT_STATUS_PHASE t = 7)) ∧
    (phase 1 →
      let taken := f.present = true ∧ 1 ≤ f.major ∧ 9 ≤ f.dwords
      let quad := f.qer = 0 ∨ f.qe = true
      let mode := fun (t : State) => t.get BOOT_INFO BOOT_INFO_MODE
      let shown := fun (t : State) => st BOOT_STATUS_NOSFDP t = (if taken then 0 else 1) ∧ (¬ taken → mode t = 0) ∧
        (taken → (quad ∧ f.r144.isSome = true → mode t = 5) ∧ (quad ∧ f.r144 = none ∧ f.r114.isSome = true → mode t = 4) ∧
          (¬ quad ∨ f.r144 = none ∧ f.r114 = none →
            mode t = if f.r122.isSome then 3 else if f.r112.isSome then 2 else 1)) ∧
        (¬ taken → t.boot.rdInstr = 3 ∧ t.boot.rdDummy = 0 ∧ t.boot.rdAddr4 = false) ∧
        (∀ g, taken → quad → f.r144 = some g → (t.rd BOOT_DENS).toNat ≤ 2 ^ 24 →
          t.boot.rdInstr = g.instr ∧ t.boot.rdDummy = g.mode + g.dummy ∧ t.boot.rdAddr4 = false) ∧
        (∀ g y, taken → quad → f.r144 = some g → f.fourByte = some y → 2 ^ 24 < (t.rd BOOT_DENS).toNat →
          t.boot.rdInstr = y.r144 ∧ t.boot.rdDummy = g.mode + g.dummy ∧ t.boot.rdAddr4 = true) ∧
        (t.rd BOOT_DENS).toNat = (if taken then f.density % 2 ^ 32 else 0) ∧
        (x.mode4 = false → f.fourByte.isSome = true ∨ (t.rd BOOT_DENS).toNat ≤ 2 ^ 24 →
          t.get BOOT_INFO BOOT_INFO_ADDR4 = (decide (2 ^ 24 < (t.rd BOOT_DENS).toNat)).toNat ∧ t.boot.sent = x.sent)
      (4 ≤ a.length → 4 ≤ b.length → a.take 4 ≠ [0x47, 0x4C, 0x52, 0x53] → b.take 4 ≠ [0x47, 0x4C, 0x52, 0x53] →
        s.does (.headersRead f a b) fun t => shown t ∧ failed t ∧ fails 0 1 t ∧ (taken → fails 1 1 t) ∧
          (taken → x.mode4 = false → f.fourByte = none → 2 ^ 25 ≤ f.density % 2 ^ 32 →
            t.get BOOT_INFO BOOT_INFO_ADDR4 = 1 ∧ t.boot.sent = x.sent ++ [⟨0xB7, 0, []⟩, ⟨0xE9, 0, []⟩])) ∧
      (f.present = false → a.length = 0x40 + 48 * one.nsect + 128 → s.reason one = 0 → s.does (.headersRead f a b) fun t => shown t ∧
        t.boot.img = one ∧ t.boot.queue = [] ∧ t.boot.src = .slot 0 ∧ t.boot.load = x.load ∧
        st BOOT_STATUS_PHASE t = (if 3 ≤ s.lcState then 3 else 4))) ∧
    (phase 3 → x.src = .slot n →
      (img.signatureOk = false → x.queue = [] → s.does .signatureVerifyDone fun t => failed t ∧ fails img.slot 6 t) ∧
      (img.signatureOk = true → 1 ≤ img.nsect → s.does .signatureVerifyDone fun t => st BOOT_STATUS_PHASE t = 4 ∧ t.boot.idx = 0 ∧
        t.boot.load = x.load ∧ t.boot.img = img)) ∧
    (next →
      (sect.typ = 0x30 → why ≠ 0 → x.queue = [] → x.touched = [] → s.does (.sectionEnd body) fun t => failed t ∧ fails n why t ∧
        st BOOT_STATUS_FALLBACK t = 1) ∧
      (sect.typ = 0x20 → x.load = some .cold → 4 ≤ body.length → at_ + (body.length - 4) ≤ 0x100000 → why = 0 → x.idx + 1 < img.nsect →
        intact → s.does (.sectionEnd body) fun t => t.boot.idx = x.idx + 1 ∧ s.sameRegs t [BOOT_INFO] ∧
          (x.noTable4 = false → t.boot.sent = x.sent ++ [readOp]) ∧
          (∀ i, i < body.length - 4 → mget t.mem (at_ + i) = body.getD (4 + i) 0) ∧
          ∀ c, c < at_ ∨ at_ + (body.length - 4) ≤ c → mget t.mem c = mget s.mem c) ∧
      (x.load = some .cold → why = 0 → x.idx + 1 < img.nsect → intact →
        let goesOn := fun (t : State) => t.boot.idx = x.idx + 1 ∧ t.boot.load = x.load ∧ t.boot.touched = x.touched ++ [sect.typ]
        let words := body.length / 2
        let entries := body.length / 8
        (sect.typ = 1 → s.hasCore sect.inst = true → s.running sect.inst = false → words ≤ (if sect.inst = 8 then 4096 else 16384) →
          (∀ k, k < words → ofBytesLE (body.drop (2 * k) |>.take 2) < 2 ^ 14) → s.does (.sectionEnd body) fun t => goesOn t ∧
            s.sameRegs t [BOOT_INFO] ∧
            (∀ k, k < words → t.mrd (progAddr sect.inst k) 4 = ofBytesLE (body.drop (2 * k) |>.take 2)) ∧
            ∀ c, c < progAddr sect.inst 0 ∨ progAddr sect.inst 0 + 4 * words ≤ c → mget t.mem c = mget s.mem c) ∧
        (sect.typ = 2 → sect.inst < 2 → 0 < s.nTeu → entries ≤ s.nTeu → s.bankLocked sect.inst = false → s.does (.sectionEnd body) fun t =>
          goesOn t ∧ (∀ k, k < entries → t.mrd (teuAddr sect.inst k) 8 = ofBytesLE (body.drop (8 * k) |>.take 6)) ∧
            ∀ c, c < teuAddr sect.inst 0 ∨ teuAddr sect.inst entries ≤ c → mget t.mem c = mget s.mem c) ∧
        (sect.typ = 0x15 → body.length = 8 → holdsBack at_ = true → s.does (.sectionEnd body) fun t => goesOn t ∧
          t.boot.held = x.held ++ [(at_, BitVec.ofNat 32 (ofBytesLE (body.drop 4)))] ∧ s.sameRegs t [BOOT_INFO] ∧ t.mem = s.mem ∧
          t.cores = s.cores) ∧
        (0x10 ≤ sect.typ → sect.typ ≤ 0x1E → body.length = 8 → at_ / 0x10000 = windowOf sect.typ → holdsBack at_ = false → x.noTable4 = false →
          let u := { s with boot := { x with sent := x.sent ++ [readOp], touched := x.touched ++ [sect.typ] } }
          let w := u.busStore .boot at_ 4 (ofBytesLE (body.drop 4))
          w.2 = none → w.1.boot = u.boot → s.does (.sectionEnd body) fun t => goesOn t ∧ t = { w.1 with boot := t.boot })) ∧
      (sect.typ = 0x18 → x.load = some .wake → why = 0 → x.idx + 1 < img.nsect → body.length = 8 → at_ = TIME_CTL ∨ at_ = TIME_STEPNS →
        s.does (.sectionEnd body) fun t => t.boot.idx = x.idx + 1 ∧ s.sameRegs t [BOOT_INFO] ∧ t.mem = s.mem ∧ t.tim = s.tim) ∧
      (sect.typ = 1 ∧ s.hasCore sect.inst = true ∧ body.length = 2 ∧ 2 ^ 14 ≤ ofBytesLE body ∨
          sect.typ = 0x12 ∧ body.length = 8 ∧ at_ / 0x10000 ≠ windowOf 0x12 →
        x.load = some .cold → x.queue = [] → x.touched = [] → s.does (.sectionEnd body) fun t =>
          failed t ∧ fails n 0xA t ∧ st BOOT_STATUS_FALLBACK t = 1) ∧
      (sect.typ = 0x30 → x.load = some .cold → why = 0 → x.idx + 1 = img.nsect → x.held = [] → img.coldResume = false →
        let done := fun (t : State) => t.boot.load = none ∧ t.boot.run = img ∧ st BOOT_STATUS_PHASE t = 5 ∧ raised 208 t ∧
          (t.rd BOOT_SEQ).toNat = img.seq ∧ (t.rd BOOT_VER).toNat = img.version ∧ st BOOT_STATUS_FROM t = n % 4 ∧ fails n 0 t ∧
          t.jrn.epoch = some (img.seq, s.jseq) ∧ t.jrn.stale = s.jrn.toAck.length ∧ t.jrn.ckpts = [] ∧
          t.get JRN_RSTAT JRN_RSTAT_WHY = 3 ∧ t.mem = s.mem ∧ idle t
        (x.ret.committed = none → s.does (.sectionEnd body) fun t => done t ∧ t.boot.ret.committed = some img.seq ∧
          t.boot.ret.trial = none ∧ st BOOT_STATUS_TRIAL t = 0) ∧
        (x.ret.committed = some img.seq →
          (x.ret.valid = true → x.ret.copy.head = img.head → s.does (.sectionEnd body) fun t => done t ∧
            t.boot.ret = { x.ret with trial := none } ∧ st BOOT_STATUS_TRIAL t = 0 ∧ t.boot.copying = x.copying) ∧
          (x.ret.valid = false → img.copyLines ≤ 8192 → s.does (.sectionEnd body) fun t => done t ∧ t.boot.copying = true ∧
            t.boot.ret = { x.ret with trial := none, copy := {}, valid := false, none_ := false, lines := img.copyLines } ∧
            st BOOT_STATUS_RETVALID t = 0 ∧ (t.rd BOOT_RET1).toNat = img.copyLines)) ∧
        (x.ret.committed.isSome = true → x.ret.committed ≠ some img.seq → s.does (.sectionEnd body) fun t => done t ∧
          t.boot.ret = { x.ret with trial := some img.seq } ∧ st BOOT_STATUS_TRIAL t = 1))) ∧
    (s.fabric = true → x.copying = true → s.does .retainedCopyDone fun t => t.boot = { x with
        copying := false, ret := { x.ret with copy := x.run.copyOf, valid := true } } ∧
      st BOOT_STATUS_RETVALID t = 1 ∧ t.hic.inflight = s.hic.inflight ++ [210]) ∧
    (s.fabric = true →
      let keyed := fieldOf v BOOT_COMMIT_KEY = 0x3D71 ∧ fieldOf v BOOT_COMMIT_COMMIT = 1 ∧ st BOOT_STATUS_TRIAL s = 1
      (keyed → s.does (.imageCommit v) fun t => t.boot.ret.committed = some x.run.seq ∧ t.boot.ret.trial = none ∧
        st BOOT_STATUS_TRIAL t = 0 ∧ t.fuse = { s.fuse with
          floor := if s.lcState = 3 ∨ s.lcState = 4 then max s.fuse.floor x.run.rollback else s.fuse.floor }) ∧
      (¬ keyed → s.does (.imageCommit v) fun t => t = s)) ∧
    (s.fabric = true ∨ s.pow.phase = .oasis ∨ s.pow.phase = .warm →
      (fieldOf v BOOT_UPDATE_KEY = 0x3D71 → s.does (.updateRequest v) fun t => s.onlyRegs t ∧ s.sameRegs t [BOOT_UPDATE] ∧
        t.get BOOT_UPDATE BOOT_UPDATE_FLASH = fieldOf v BOOT_UPDATE_FLASH) ∧
      (fieldOf v BOOT_UPDATE_KEY ≠ 0x3D71 → s.does (.updateRequest v) fun t => t = s)) ∧
    (free → fst BOOT_FSTAT_BUSY s = 0 →
      (fieldOf v BOOT_FCMD_WREN = 1 → fieldOf v BOOT_FCMD_ADDREN = 0 ∨ inOwn → s.does (.flashCommand v a) fun t => ends 2 t ∧
        t.boot = x ∧ t.mem = s.mem) ∧
      (fieldOf v BOOT_FCMD_WREN = 0 → fieldOf v BOOT_FCMD_WRITE = 0 → a.length = len → buf + len ≤ 0x100000 → intact →
        s.does (.flashCommand v a) fun t => ends 1 t ∧ out [] [] t ∧ (∀ i, i < len → mget t.mem (buf + i) = a.getD i 0) ∧
          ∀ c, c < buf ∨ buf + len ≤ c → mget t.mem c = mget s.mem c) ∧
      (fieldOf v BOOT_FCMD_WREN = 1 → fieldOf v BOOT_FCMD_ADDREN = 1 → ¬ inOwn → fieldOf v BOOT_FCMD_WRITE = 1 → buf + len ≤ 0x100000 →
        intact → s.does (.flashCommand v a) fun t => fst BOOT_FSTAT_BUSY t = 1 ∧ t.mem = s.mem ∧
          out [⟨6, 0, []⟩] ((List.range len).map fun i => mget s.mem (buf + i)) t)) ∧
    (free → fst BOOT_FSTAT_BUSY s = 1 →
      (s.does (.flashStatusPoll sr) fun t => fst BOOT_FSTAT_SR t = sr.toNat ∧ s.sameRegs t [BOOT_FSTAT] ∧
        t.boot = { x with sent := x.sent ++ [⟨5, 0, []⟩] } ∧ t.mem = s.mem ∧
        (sr.toNat % 2 = 0 → ends 1 t) ∧
        (sr.toNat % 2 = 1 → fst BOOT_FSTAT_BUSY t = 1 ∧ t = { s with regs := t.regs, boot := t.boot })) ∧
      s.does .flashPollTimeout fun t => ends 4 t ∧ s.sameRegs t [BOOT_FSTAT] ∧ t.boot = x)

/-! ## The journal and replay (chapter 17) -/

/-- R31, R373, R420, R422–R427, R429, R471: a record's bytes and how 16-byte and 64-byte ones share lines; a group goes into staging whole,
with the next sequence numbers, or is refused; it is acknowledged to its requester, enters the index, and is streamed to the partner, at
once, from the send buffer later, or with STREAMGAP not at all; lines are read from the protected staging SRAM, written to the store, verified, moved off a bad line,
and flushed at a power failure. The model's choices: a record that may not be refused waits where 64 lines are unflushed, and a checkpoint
ends the list of its core's launch commits (log 57); where a line lies in the staging SRAM, when it is read, that an uncorrectable error's
bits go to the store as they stand, and how the writes of a partly filled line follow one another (log 58); that JRN_RDDATA of the control
line is left open, and that a group of an earlier epoch that commits late adds its launch commits alone (log 59); that a group arrives
behind the events which its island had sent to the controller, which leads to `u` (log 11). -/
def Obligations.JournalLines : Prop :=
  ∀ (s : State) (g : Group) (rest : List Group) (first : Nat) (acks : List (Nat × Group)) (l : List Byte) (more : List (List Byte))
    (k p : Nat) (r : Rec) (ok : Bool),
    let j := s.jrn
    let u := s.eventsAhead
    let i := u.jrn
    let g' : Group := { g with events := 0, recs := g.recs ++ match g.frm with
      | .ckpt c => (u.ckQueues c).map fun q => u.qmarkRec q (u.qst q).rd
      | _ => [] }
    let lines := ((groupBytes u.jseq false g'.recs).foldl JrnSt.stage i).lines
    let allowed := g'.recs.all (fun r => u.kindOn r.kind) = true ∧ u.listFull g' = none
    let sure := g'.sure = true ∨ u.pow.flushing = true
    let fits := fun (bound : Nat) => lines.length ≤ max i.lines.length bound
    let taken := fun (t : State) => t.jrn.handed = rest ∧ t.jrn.lines = lines ∧ t.jrn.toAck = i.toAck ++ [(u.jseq, g')] ∧
      t.jseq = (u.jseq + g'.recs.length) % 2 ^ 32 ∧ t.hic = u.hic
    let wants := (match g.frm with | .launch _ | .qmark _ | .ckpt _ => true | _ => false) = true
    let told := (match g.frm with | .launch _ | .qmark _ | .ckpt _ | .fault _ true => true | _ => false) = true
    let place := j.partialAt.getD s.nextLine
    let begins := fun (w : List Byte) (others : List Nat) (t : State) => t.jrn.writing = some (place, w) ∧
      t.get JRN_STATUS JRN_STATUS_FLUSHBUSY = 1 ∧ t.jrn.lines = j.lines ∧ t.jrn.store = j.store ∧ s.sameRegs t (JRN_STATUS :: others) ∧
      (j.partialAt = none → t.jrn.head = if place + 1 < s.ringEnd then place + 1 else s.boot.ret.lines)
    let begun := fun (t : State) => ((∀ n, tget j.flips 0 n = 0) → begins l [] t ∧ t.hic = s.hic) ∧
      (s.fabric = true → (∀ n, tget j.flips 0 n = if n = j.offset 0 0 then 2 ^ p else 0) → p ≤ 38 → 4 ≤ l.length →
        begins l [SYS_ECC_CNT] t ∧ (∀ n, tget t.jrn.flips 0 n = 0) ∧ t.hic = s.hic ∧
        t.get SYS_ECC_CNT SYS_ECC_CNT_CORR = min (2 ^ 16 - 1) (s.get SYS_ECC_CNT SYS_ECC_CNT_CORR + 1))
    let holds := fun (t : State) (p : Nat) => ∀ n, tget t.jrn.store [] n = if n = p then fullLine l else tget j.store [] n
    let b := r.bytes (u.jseq % 2 ^ 32) false false
    let word := fun (b : List Byte) (i : Nat) => ofBytesLE (b.drop (4 * i) |>.take 4)
    let bs := groupBytes first false g.recs
    let room := 4096 - ((s.caer.jbuf.filter fun b => !isBase b).map List.length).sum
    (∀ (n : Nat) (m base : Bool), n < 2 ^ 32 → r.kind < 16 → r.src < 256 → r.argd < 65536 → (∀ w, w ∈ r.body → w < 2 ^ 32) →
      let b := r.bytes n m base
      let size := if r.kind = 1 ∨ r.kind = 4 ∨ r.kind = 5 ∨ r.kind = 7 ∨ r.kind = 6 ∧ r.src = 1 then 64 else 16
      b.length = size ∧ word b 0 = n ∧ word b 1 = r.kind + 16 * (decide (size = 64)).toNat + 32 * m.toNat + 64 * base.toNat +
        256 * r.src + 65536 * r.argd ∧
      (∀ i, i < (size - 12) / 4 → word b (2 + i) = r.body.getD i 0) ∧ word b (size / 4 - 1) = (crc32c (b.take (size - 4))).toNat) ∧
    (∀ n, g'.recs[n]? = some r → (groupBytes u.jseq false g'.recs)[n]? =
      some (r.bytes ((u.jseq + n) % 2 ^ 32) (decide (n + 1 < g'.recs.length)) false)) ∧
    (g'.recs = [r] →
      (i.tail = none → i.lines = [] → lines = [b]) ∧
      (i.tail = none → i.lines = more ++ [l] →
        (r.long = false → l.length < 64 → lines = more ++ [l ++ b]) ∧
        (r.long = true → l.length < 64 → lines = more ++ [l ++ List.replicate (64 - l.length) 0xFF, b]) ∧
        (l.length = 64 → lines = more ++ [l, b])) ∧
      (i.tail = some (p, l) → r.long = false → lines = [l ++ b]) ∧ (i.tail = some (p, l) → r.long = true → lines = [b])) ∧
    (i.handed = g :: rest → s.fabric = true →
      (allowed → fits 54 ∨ sure ∧ fits 64 → s.does .recordSubmit taken) ∧
      (¬ allowed ∨ ¬ sure ∧ ¬ fits 54 → s.does .recordSubmit fun t => t.jrn.lines = i.lines ∧ t.jrn.toAck = i.toAck ∧ t.jseq = u.jseq ∧
        t.jrn.handed = rest ∧ t.get JRN_STATUS JRN_STATUS_REFUSED = 1 ∧ t.hic.inflight = u.hic.inflight ++ [213] ∧
        (wants → t.jrn.acked = i.acked ++ [(g', false)])) ∧
      (allowed → sure → ¬ fits 64 → s.does .recordSubmit fun t => t = u)) ∧
    (j.toAck = (first, g) :: acks → s.fabric = true → s.pair ≠ 2 →
      (told → s.does .recordAck fun t => ∃ j' : JrnSt, t = { s with jrn := { j' with toAck := acks, acked := j.acked ++ [(g, true)] } } ∧
        (j'.lines = j.lines ∧ j'.store = j.store ∧ j'.handed = j.handed) ∧
        (g.recs = [r] → r.kind = 1 → tget j'.launches none r.argd = some (first, r) ∧ j'.ckpts = j.ckpts ∧ j'.qmarks = j.qmarks ∧
          (j.stale = 0 → r.src < 8 → tget j'.since [] r.src = tget j.since [] r.src ++ [r])) ∧
        (j.stale = 0 → g.recs = [r] → r.kind = 3 →
          tget j'.qmarks none r.src = some (first, r) ∧ j'.ckpts = j.ckpts ∧ j'.launches = j.launches) ∧
        (j.stale = 0 → g.recs.head? = some r → r.kind = 5 →
          tget j'.ckpts none r.src = some (first, g.recs) ∧ tget j'.since [] r.src = [] ∧ j'.launches = j.launches) ∧
        (j.stale ≠ 0 → j' = { j with stale := j.stale - 1, launches := j'.launches })) ∧
      (j.stale = 0 → g.frm = .snap → g.recs.head? = some r → r.kind = 6 → s.does .recordAck fun t => t = { s with
        jrn := { j with toAck := acks, snap := some (first, g.recs), stepsSince := s.teu.after }, teu := { s.teu with snapBusy := false } })) ∧
    (j.toAck = (first, g) :: acks → s.fabric = true → s.pair = 2 →
      (s.linkUp s.plink = false → bs.flatten.length ≤ room → s.does .recordAck fun t => t.caer = { s.caer with jbuf := s.caer.jbuf ++ bs } ∧
        t.hic = s.hic ∧ t.jrn.toAck = acks) ∧
      (s.linkUp s.plink = false → g.recs = [r] → room < bs.flatten.length → s.does .recordAck fun t => t.jrn.toAck = acks ∧
        t.caer = { s.caer with gap := true } ∧ t.get CAER_STATUS CAER_STATUS_STREAMGAP = 1 ∧
        t.hic.inflight = s.hic.inflight ++ [195]) ∧
      (s.roomOn s.plink → s.caer.jbuf = [] → g.recs = [r] → first < 2 ^ 32 → r.kind < 16 → s.does .recordAck fun t => t.jrn.toAck = acks ∧
        s.sentSeq t s.plink { typ := 9, src := s.hub, payload := r.bytes first false false } ∧ t.caer.jbuf = [] ∧
        t.caer.lastLive = some first)) ∧
    (j.lines = l :: more → s.aoOn = true → j.writing = none →
      (l.length = 64 → s.does .lineWrite begun) ∧ (l.length < 64 → s.does .flushIdleTimeout begun)) ∧
    (j.writing = some (k, l) → s.aoOn = true →
      (∀ m, j.lines = m :: more →
        (m.length = l.length → s.does (.lineWriteDone true) fun t => holds t k ∧ t.jrn.lines = more ∧ t.jrn.writing = none ∧
          t.jrn.partialAt = none ∧ t.get JRN_STATUS JRN_STATUS_FLUSHBUSY = 0) ∧
        (m.length ≠ l.length → s.does (.lineWriteDone true) fun t => holds t k ∧ t.jrn.lines = j.lines ∧ t.jrn.writing = none ∧
          t.jrn.partialAt = some k)) ∧
      s.does (.lineWriteDone false) fun t => t.jrn = { j with
          bad := j.bad ++ [k], written := j.written.filter (· != k), writing := none, partialAt := none, tail := none } ∧
        t.get JRN_STATUS JRN_STATUS_NVFAULT = 1 ∧ (s.fabric = true → t.hic.inflight = s.hic.inflight ++ [215])) ∧
    (s.pow.flushing = true → s.aoOn = true → j.writing = none →
      let flushed := fun (t : State) => t.jrn.lines = [] ∧ t.pow.flushing = false ∧ t.get SYS_STATUS SYS_STATUS_FLUSHED = 1 ∧
        t.get JRN_STATUS JRN_STATUS_FLUSHBUSY = 0
      (j.lines = [] → s.does .flushComplete fun t => flushed t ∧ t.jrn = j) ∧
      (j.lines = [l] → (∀ n, tget j.flips 0 n = 0) → s.does .flushComplete fun t => flushed t ∧ holds t place) ∧
      (∀ m, j.lines = [l, m] → (∀ n, tget j.flips 0 n = 0) → j.partialAt = none → j.bad = [] →
        let lo := s.boot.ret.lines
        let at_ := if lo ≤ j.head ∧ j.head < s.ringEnd then j.head else lo
        let next := if at_ + 1 < s.ringEnd then at_ + 1 else lo
        s.does .flushComplete fun t => flushed t ∧ ∀ n, tget t.jrn.store [] n =
          if n = next then fullLine m else if n = at_ then fullLine l else tget j.store [] n)) ∧
    (s.fabric = true → j.reading = some k → s.lcs.waiting = none →
      let read := fun (t : State) => t.jrn.reading = none ∧ t.get JRN_RDCTL JRN_RDCTL_BUSY = 0
      (k < s.boot.ret.lines → s.does (.lineReadDone ok) fun t => read t ∧ t.get JRN_RDCTL JRN_RDCTL_ERR = 1) ∧
      (s.boot.ret.lines ≤ k → k ∈ j.bad ∨ ok = false → s.does (.lineReadDone ok) fun t => read t ∧
        t.get JRN_RDCTL JRN_RDCTL_ERR = 1 ∧ t.hic.inflight = s.hic.inflight ++ [215]) ∧
      (s.boot.ret.lines ≤ k → k ∉ j.bad → ok = true → s.does (.lineReadDone ok) fun t => read t ∧ t.get JRN_RDCTL JRN_RDCTL_ERR = 0 ∧
        (k ≠ 16383 → ∀ i, i < 16 → (t.rd (JRN_RDDATA i)).toNat = ofBytesLE ((s.lineAt k).drop (4 * i) |>.take 4)))) ∧
    (s.fabric = true → ∀ v : Word, fieldOf v JRN_RDCTL_GO = 1 → j.reading = none → s.does (.lineRead v) fun t =>
      t.jrn = { j with reading := some (fieldOf v JRN_RDCTL_LINE) } ∧ t.get JRN_RDCTL JRN_RDCTL_BUSY = 1 ∧ s.sameRegs t [JRN_RDCTL])

/-- R416, R425, R426, R431, R432, R434, R435, R437, R438, R445–R447: replay restores the cores and the queues from the newest checkpoints and
marks, or is skipped with its reason; it arms DMA channels again, loads the TEU's snapshot and runs its catch-up steps, and ends, as a COLD
resume ends that rebuilds the index from the ring, with MODE, HOLD and source 212; the partner ring's configuration, what a baseline holds
and how it starts. The model's choices: which image ran before the reset, and when a core runs after its restore (log 61); what a COLD resume
rebuilds (log 62); how the partner ring is cleared and how a baseline starts (log 60); where a line written early goes that the partner
ring takes over (log 58); that catch-up steps run whatever ENABLE is (log 75). -/
def Obligations.ReplayAndMirror : Prop :=
  ∀ (s : State) (v : Word) (c q i first : Nat) (r : Rec) (rest : List Rec),
    let j := s.jrn
    let reg := fun (n : Nat) => BitVec.ofNat 32 (r.body.getD n 0)
    let ended := fun (mode hold : Nat) (t : State) => t.get JRN_RSTAT JRN_RSTAT_MODE = mode ∧
      t.get JRN_STATUS JRN_STATUS_REPLAYING = 0 ∧ t.get TIME_CTL TIME_CTL_HOLD = hold ∧ 212 ∈ t.hic.inflight ∧ t.jrn.restored = false ∧
      t.boot.load = none ∧ t.get BOOT_STATUS BOOT_STATUS_PHASE = 5
    let lines := fieldOf v JRN_PCFG_PLINES
    let old := s.ringEnd
    let limit := s.get JRN_POLICY JRN_POLICY_RLIMIT
    let why := if s.boot.ran ≠ s.boot.run.head then 1 else if limit ≠ 0 ∧ limit ≤ j.quick then 2 else 0
    (s.replayDue .warm = true →
      (why ≠ 0 → s.boot.held = [] → s.does .replayRestore fun t => ended 3 0 t ∧ t.get JRN_RSTAT JRN_RSTAT_WHY = why ∧
        (∀ k, (t.lent k).st = .free) ∧ t.jrn.epoch = some (s.boot.run.seq, s.jseq) ∧ t.jrn.replayEnd = none) ∧
      (why = 0 → s.does .replayRestore fun t => t.jrn.restored = true ∧ t.boot = s.boot ∧
        (c < s.nCore → tget j.ckpts none c = some (first, r :: rest) →
          (t.core c).pc = reg 11 ∧ (t.core c).lr = reg 8 ∧ (i < 8 → (t.core c).gr i = reg i) ∧ (t.core c).started = true ∧
          (t.core c).mode = (s.core c).mode ∧ (t.core c).wd = (s.core c).wd ∧ (t.core c).latch = (s.core c).latch ∧
          bitAt (t.rd JRN_RSTAT) c = true ∧ tget t.jrn.sup [] c = tget j.since [] c) ∧
        (q < 64 → (s.qst q).restore = true → tget j.qmarks none q = some (first, r) → r.body.getD 0 0 = (s.rd (QM_Q_CFG q)).toNat % 2 ^ 20 →
          t.qst q = { s.qst q with rd := r.argd, mark := r.argd, scan := some r.argd } ∧ bitAt (t.rd (if q < 32 then JRN_RQ0 else JRN_RQ1)) (q % 32) = true))) ∧
    (s.fabric = true → j.restored = true → s.scansDone = true → s.boot.held = [] →
      (j.snap = none → s.does .replayFinish fun t => ended 1 0 t ∧ t.jrn.replayEnd = some (s.raw : Int)) ∧
      (∀ k : Dma, j.snap = none → tget j.dmas none k = some (first, r) →
        (r.argd % 4 < 2 → s.dstat k DME_CH_STAT_SHVALID = false → shadowOk .scfg (reg 3) = true → shadowOk .slist (reg 0) = true →
          s.does .replayFinish fun t => t.get (DME_CH_CTL k) DME_CH_CTL_EN = 1 ∧ t.dstat k DME_CH_STAT_SHVALID = true ∧
            bitAt (t.rd JRN_RDMA) k = true ∧ t.rd (DME_CH_SLIST k) = reg 0 ∧ t.rd (DME_CH_SFIX k) = reg 1 ∧
            ∀ f, f ∈ [DME_CH_SCFG_JRNEN, DME_CH_SCFG_FULLIE, DME_CH_SCFG_HALFIE, DME_CH_SCFG_QWAIT, DME_CH_SCFG_FIXMODE,
                DME_CH_SCFG_LISTSIDE, DME_CH_SCFG_PRI] →
              t.get (DME_CH_SCFG k) f = fieldOf (reg 3) f) ∧
        (2 ≤ r.argd % 4 → s.does .replayFinish fun t => bitAt (t.rd JRN_RDMA) k = bitAt (s.rd JRN_RDMA) k ∧
          t.dstat k DME_CH_STAT_SHVALID = s.dstat k DME_CH_STAT_SHVALID)) ∧
      (j.snap = some (first, r :: rest) →
        let bank := r.argd / 1024 % 2
        let states := snapStates (r.argd % 1024) rest
        let loaded := fun (t : State) => ∀ m, m < states.length → t.mrd (xAddr m) 4 = states.getD m 0 % 2 ^ 32
        let match_ := s.hasTeu = true ∧ s.bankValid bank = true ∧ s.nStates bank = r.argd % 1024
        (¬ match_ → s.does .replayFinish fun t => ended 1 0 t ∧ t.get JRN_RSTAT JRN_RSTAT_TEUFAIL = 1) ∧
        (match_ → 8 < j.stepsSince → s.does .replayFinish fun t => ended 1 0 t ∧ t.get JRN_RSTAT JRN_RSTAT_TEU = 1 ∧
          t.get JRN_RSTAT JRN_RSTAT_TEUOLD = 1 ∧ t.get TEU_STATUS TEU_STATUS_ABANK = bank ∧ t.rd TEU_STEPCNT = reg 0 ∧ loaded t) ∧
        (match_ → j.stepsSince = 0 → s.does .replayFinish fun t => ended 1 0 t ∧ t.get JRN_RSTAT JRN_RSTAT_TEU = 1 ∧
          t.get JRN_RSTAT JRN_RSTAT_CATCHUP = 0 ∧ t.get TEU_STATUS TEU_STATUS_ABANK = bank ∧ t.rd TEU_STEPCNT = reg 0 ∧ loaded t) ∧
        (∀ x, match_ → j.stepsSince = 1 → j.stepIn = [x] → s.get TEU_STATUS TEU_STATUS_PENDV = 0 → (∀ a, tget s.flips 0 a = 0) →
          s.does .replayFinish fun t => ended 1 0 t ∧ t.get JRN_RSTAT JRN_RSTAT_TEU = 1 ∧ t.get JRN_RSTAT JRN_RSTAT_CATCHUP = 1 ∧
            t.get TEU_STATUS TEU_STATUS_ABANK = bank ∧ t.rd TEU_STEPCNT = reg 0 + 1))) ∧
    (s.replayDue .cold = true → s.boot.held = [] → s.does .coldResume fun t => ended 2 1 t ∧ t.jrn.coldHold = true ∧
      (j.written = [] → t.tim.table = s.tim.table) ∧
      (s.ringGroups = [(first, r :: rest)] → r.kind = 5 → r.src = c → c < s.nCore → rest = [] → (t.core c).pc = reg 11 ∧
        (t.core c).lr = reg 8 ∧ (i < 8 → (t.core c).gr i = reg i) ∧ (t.core c).started = true ∧ bitAt (t.rd JRN_RSTAT) c = true ∧
        t.jseq = (first + 1) % 2 ^ 32) ∧
      (s.ringGroups = [(first, [r])] → r.kind = 1 → t.rd TIME_SEQ = reg 0 + 1 ∧ t.jseq = (first + 1) % 2 ^ 32 ∧
        let e := t.lent (r.argd % 1024)
        e.st = .armed ∧ e.seq = reg 0 ∧ e.w0 = reg 1 ∧ e.w1 = reg 2 ∧ e.w2 = reg 3 ∧ e.w3 = reg 4 &&& 0x7FF8FFFF)) ∧
    (∀ k : Nat, j.epoch = some (q, first) → j.written = [k] →
      (k ∈ j.bad → s.ringGroups = []) ∧
      (k ∉ j.bad → lineRecords (s.lineAt k) = [(first, false, r)] → s.ringGroups = [(first, [r])]) ∧
      (k ∉ j.bad → lineRecords (s.lineAt k) = [(first, true, r)] → s.ringGroups = [])) ∧
    (∀ m : Bool, first < 2 ^ 32 → r.kind = 1 → r.src < 256 → r.argd < 65536 → r.body.length = 5 → (∀ w, w ∈ r.body → w < 2 ^ 32) →
      lineRecords (r.bytes first m false) = [(first, m, r)]) ∧
    (s.fabric = true →
      (s.mirrors = false → s.does (.partnerRingConfig v) fun t => t = s) ∧
      (s.mirrors = true → 16383 < lines + s.boot.ret.lines + 1024 → s.does (.partnerRingConfig v) fun t =>
        t.get JRN_STATUS JRN_STATUS_CFGERR = 1 ∧ s.onlyRegs t ∧ s.sameRegs t [JRN_STATUS]) ∧
      (s.mirrors = true → lines + s.boot.ret.lines + 1024 ≤ 16383 → s.does (.partnerRingConfig v) fun t =>
        t.get JRN_PCFG JRN_PCFG_PLINES = lines ∧ t.get JRN_PSTAT JRN_PSTAT_PVALID = 0 ∧ t.get JRN_PSTAT JRN_PSTAT_FROZEN = 0 ∧
        (16383 - lines ∉ j.bad → t.get JRN_PSTAT JRN_PSTAT_PHEAD = 16383 - lines) ∧ t.jrn.lines = j.lines ∧
        t.jrn.writing = j.writing.filter (·.1 < 16383 - lines) ∧ t.jrn.partialAt = j.partialAt.filter (· < 16383 - lines) ∧
        t.get JRN_STATUS JRN_STATUS_FLUSHBUSY = t.jrn.writing.isSome.toNat ∧ s.sameRegs t [JRN_PCFG, JRN_PSTAT, JRN_STATUS] ∧
        ∀ k, tget t.jrn.store [] k = if k < min old (16383 - lines) ∨ k = 16383 then tget j.store [] k else [])) ∧
    (s.fabric = true → s.pair = 2 → s.caer.gap = true → s.caer.jbuf = [] → s.linkUp s.plink = false → s.does .baselineStart fun t =>
      t = { s with caer := { s.caer with gap := false, jbuf := s.baseline } }) ∧
    (∀ b bs, s.fabric = true → s.pair = 2 → s.caer.gap = true → s.caer.jbuf = [] → s.baseline = b :: bs → s.roomOn s.plink →
      bs = [] ∨ (s.link s.plink).unacked.length = 15 → s.does .baselineStart fun t =>
        s.sentSeq t s.plink { typ := 9, src := s.hub, payload := b } ∧ t.caer.gap = false ∧ t.caer.jbuf = bs ∧
        (isBase b = true → t.caer.lastLive = s.caer.lastLive)) ∧
    (∀ b, (∃ k, k < 8 ∧ tget j.ckpts none k = some (first, r :: rest) ∧ b ∈ groupBytes first true (r :: rest)) ∨
        (∃ k, k < 64 ∧ s.get (QM_Q_CFG k) QM_Q_CFG_JRNEN = 1 ∧ tget j.qmarks none k = some (first, r) ∧ b ∈ groupBytes first true [r]) ∨
        (∃ k, k < 16 ∧ tget j.dmas none k = some (first, r) ∧ b ∈ groupBytes first true [r]) ∨
        (j.snap = some (first, r :: rest) ∧ b ∈ groupBytes first true (r :: rest)) ∨
        (∃ k e, (k, e) ∈ s.tim.table ∧ e.st = .armed ∧ e.journal = true ∧ tget j.launches none k = some (first, r) ∧
          b ∈ groupBytes first true [r]) → b ∈ s.baseline)

/-! ## Life cycle and service (chapter 18) -/

/-- R451–R468: a service command that is malformed, comes to a busy port, or lacks its right is answered with its status and does
nothing else; each command has its effect and its answer, and a code that is not listed the answer UNKNOWN; tokens open and end sessions,
hold a RETURN and revoke a slot; the counter moves on LOCK and the vendor transitions; USB_VBUS, the bus reset and the standard requests
of USB, and the debug commands of the DAP. The model's choices: the rights in BLANK and MAKER, the codes and answers of vendor and debug
commands (log 65); the order of the checks and the answers of READ32, WRITE32, JRNREAD, LOCK and NONCE at a failure (log 66); a
RETURN-VENDOR without a held RETURN, and what tells of a session (log 67); a second LOCK, a debug command over USB, to an absent core or to
one that is not held, which bytes of the descriptors are open, and that responses wait while endpoint 2 is halted (log 68); the standard
requests, their answers and stalls as USB 2.0 chapter 9 has them (log 74). -/
def Obligations.LifeCycleAndService : Prop :=
  ∀ (s : State) (f : UFrame) (a : List Byte) (k : Nat) (rq : UsbRequest) (c : Core) (g : GReg) (sp : Special),
    let x := s.lcs
    let free := fun (cmd : Nat) => s.pathUp f = true ∧ frameOk f cmd = true ∧ x.waiting = none
    let heard := fun (cmd : Nat) => free cmd ∧ (f.path = .dap → s.dapClosed = false)
    let raised := fun (src : Nat) (t : State) => src ∈ t.hic.inflight
    let replies := fun (cmd status detail len : Nat) (p : List Byte) (t : State) =>
      let r : Response := { path := f.path, cmd, tag := f.tag, len, status, detail, payload := p }
      if f.path = .usb ∧ x.usb.haltIn = true then t.lcs.resp = x.resp ∧ t.lcs.usb = { x.usb with late := x.usb.late ++ [r] }
      else t.lcs.resp = some r ∧ t.lcs.usb = x.usb
    let gives := fun (cmd status detail len : Nat) (p : List Byte) (t : State) => t.lcs.waiting = (if status = 5 then x.waiting else none) ∧
      replies cmd status detail len p t
    let ok := fun (cmd : Nat) (p : List Byte) => gives cmd 0 0 p.length p
    let no := fun (cmd status : Nat) => gives cmd status 0 0 []
    let still := fun (t : State) => t.fuse = s.fuse ∧ t.mem = s.mem ∧ t.cores = s.cores
    let denied := fun (t : State) => t.get LCS_STATUS LCS_STATUS_DENIED = 1 ∧ raised 217 t ∧ still t ∧ s.sameRegs t [LCS_STATUS]
    let told := fun (src argd : Nat) (body : Nat) (t : State) =>
      t.jrn.handed = s.jrn.handed ++ [{ frm := .lcs, recs := [{ kind := 8, src, argd, body := [body] }] }]
    let rows := fun (n : Nat) (t : State) => t.fuse = { s.fuse with rowA := n, rowB := n } ∧ told 1 n 0 t ∧ raised 216 t
    let w := fun (i : Nat) => ofBytesLE (f.payload.drop (4 * i) |>.take 4)
    let all : List (Instr × Nat × Bool) := [(.hello f, 1, f.len = 0), (.read32 f, 2, f.len = 8 && 1 ≤ w 1 && w 1 ≤ 256), (
      .write32 f, 3, f.len % 4 = 0 && 8 ≤ f.len), (.jrnread f, 4, f.len = 4), (.flashcmd f a, 5, flashLenOk f), (.nonce f, 6, f.len = 0), (
      .token f, 7, f.len = 192), (.endsvc f, 8, f.len = 0), (.reset f, 9, f.len = 0), (.lock f, 0xA, f.len = 4)]
    (∀ p ∈ all, f.path = .usb → s.attached = false ∨ x.usb.configured = false ∨ x.usb.haltOut = true → s.does p.1 fun t => t = s) ∧
    (∀ p ∈ all, s.pathUp f = true →
      ((frameOk f p.2.1 && p.2.2) = false → s.does p.1 fun t => still t ∧ t.regs = s.regs ∧ raised 220 t ∧ replies p.2.1 1 0 0 [] t ∧
        t.lcs = { x with resp := t.lcs.resp, usb := t.lcs.usb }) ∧
      ((frameOk f p.2.1 && p.2.2) = true → x.waiting.isSome = true → s.does p.1 fun t => no p.2.1 5 t ∧ t = { s with lcs := t.lcs }) ∧
      ((frameOk f p.2.1 && p.2.2) = true → x.waiting = none → f.path = .dap → s.dapClosed = true → p.2.1 ≠ 1 →
        s.does p.1 fun t => no p.2.1 3 t ∧ denied t)) ∧
    (free 1 → f.len = 0 → s.does (.hello f) fun t => t = { s with lcs := t.lcs } ∧ ok 1 (bytesLE 16 s.fuse.devid.toNat ++
      [s.lcsStateWord, s.units, s.caps, s.rd BOOT_SEQ, s.rd BOOT_VER].flatMap wordBytes) t) ∧
    (heard 2 → f.len = 8 → w 1 = 1 →
      let r := s.busLoad .dbg (w 0) 4
      (r.2.2 = none → s.does (.read32 f) fun t => t = { r.1 with lcs := t.lcs } ∧ ok 2 (bytesLE 4 r.2.1) t) ∧
      (∀ e, r.2.2 = some e → s.does (.read32 f) fun t => t = { r.1 with lcs := t.lcs } ∧ gives 2 4 (kindOf e) 0 [] t)) ∧
    (heard 3 → f.len = 8 →
      let r := s.busStore .dbg (w 0) 4 (w 1)
      (s.mayStore .dbg (w 0) = false → s.does (.write32 f) fun t => no 3 3 t ∧ denied t) ∧
      (s.mayStore .dbg (w 0) = true → r.1.lcs = x → s.does (.write32 f) fun t => t = { r.1 with lcs := t.lcs } ∧
        (r.2 = none → gives 3 0 0 1 [] t) ∧ ∀ e, r.2 = some e → gives 3 4 (kindOf e) 0 [] t)) ∧
    (heard 4 → f.len = 4 → s.jrn.reading = none → s.does (.jrnread f) fun t => t.lcs.waiting = some (.line, f) ∧
      t.jrn.reading = some (w 0 % 2 ^ 14) ∧ t.get JRN_RDCTL JRN_RDCTL_BUSY = 1) ∧
    (x.waiting = some (.line, f) → s.fabric = true → s.jrn.reading = some k → s.boot.ret.lines ≤ k → k ∉ s.jrn.bad → k ≠ 16383 →
      (s.lineAt k).length = 64 → s.does (.lineReadDone true) (ok 4 (s.lineAt k))) ∧
    (heard 5 → flashLenOk f = true → s.get BOOT_FSTAT BOOT_FSTAT_BUSY = 0 →
      (s.roleRight 3 = false → s.does (.flashcmd f a) fun t => no 5 3 t ∧ denied t) ∧
      (s.roleRight 3 = true → fieldOf (BitVec.ofNat 32 (w 0)) BOOT_FCMD_WREN = 0 → fieldOf (BitVec.ofNat 32 (w 0)) BOOT_FCMD_WRITE = 0 →
        a.length = w 2 → (∀ n, tget s.flips 0 n = 0) → s.does (.flashcmd f a) fun t => ok 5 (wordBytes (t.rd BOOT_FSTAT) ++ a) t ∧
          t.get BOOT_FSTAT BOOT_FSTAT_RESULT = 1 ∧ (t.rd BOOT_FADDR).toNat = w 1)) ∧
    (heard 6 → f.len = 0 →
      (x.fails < 8 → s.does (.nonce f) fun t => ∃ n, t.lcs.nonce = some n ∧ ok 6 (bytesLE 8 n.toNat) t ∧ still t ∧ t.regs = s.regs) ∧
      (8 ≤ x.fails → s.does (.nonce f) fun t => no 6 3 t ∧ t = { s with lcs := { x with resp := t.lcs.resp, usb := t.lcs.usb } })) ∧
    (heard 7 → f.len = 192 → s.does (.token f) fun t => t = { s with lcs := { x with waiting := some (.token, f) } }) ∧
    (x.waiting = some (.token, f) → s.fabric = true →
      let tk := tokenOf f.payload
      (s.tokenReason f.payload = 0 →
        (tk.typ = 1 → s.does .tokenCheckDone fun t => ok 7 [] t ∧ t.lcs.nonce = none ∧ told 2 tk.arg (tk.minutes + tk.slot * 2 ^ 16) t ∧
          t.lcs.session = some { roles := tk.arg, slot := tk.slot, minutes := tk.minutes, left := tk.minutes }) ∧
        (tk.typ = 2 → s.does .tokenCheckDone fun t => ok 7 [] t ∧ t.lcs.nonce = x.nonce ∧ t.lcs.heldRet = true ∧ still t) ∧
        (tk.typ = 3 → s.lcPend < 4 → s.does .tokenCheckDone fun t => ok 7 [] t ∧ t.lcs.nonce = none ∧
          (x.heldRet = true → rows 4 t) ∧ (x.heldRet = false → t.fuse = s.fuse)) ∧
        (tk.typ = 4 → s.does .tokenCheckDone fun t => ok 7 [] t ∧ t.lcs.nonce = none ∧ told 5 tk.arg 0 t ∧
          s.fuse.keeps t.fuse ∧ (tget t.fuse.slots {} tk.arg).revoked = true)) ∧
      (s.tokenReason f.payload ≠ 0 → s.does .tokenCheckDone fun t => gives 7 6 (s.tokenReason f.payload) 0 [] t ∧ still t ∧
        t.lcs.fails = x.fails + 1 ∧ t.lcs.heldRet = false ∧ t.lcs.nonce = none ∧ t.lcs.session = x.session ∧
        told 4 (s.tokenReason f.payload) tk.typ t ∧ raised 218 t)) ∧
    (let ended := fun (t : State) => t.lcs.session = none ∧ t.lcs.heldRet = false ∧ (s.fabric = true → raised 216 t) ∧
        ∀ d, d < 9 → t.core d = { s.core d with held := false }
     (heard 8 → f.len = 0 → (s.lcState = 4 → s.does (.endsvc f) fun t => ok 8 [] t ∧ ended t ∧ ∃ m, told 3 1 m t) ∧
       (s.lcState ≠ 4 → s.does (.endsvc f) fun t => ok 8 [] t ∧ t = { s with lcs := t.lcs })) ∧
     (s.fabric = true → (s.lcState = 4 → s.does .lcsEndsvc fun t => ended t ∧ ∃ m, told 3 1 m t) ∧
       (s.lcState ≠ 4 → s.does .lcsEndsvc fun t => t = s)) ∧
     ∀ y, x.session = some y → s.pow.phase ≠ .cold → s.does .serviceExpiry fun t => ended t ∧ told 3 0 y.minutes t) ∧
    (heard 9 → f.len = 0 →
      (s.roleRight 1 = true → s.does (.reset f) fun t => ok 9 [] t ∧ t.lcs.resetDue = true ∧ t = { s with lcs := t.lcs }) ∧
      (s.roleRight 1 = false → s.does (.reset f) fun t => no 9 3 t ∧ denied t)) ∧
    (heard 0xA → f.len = 4 →
      (w 0 = 0x4C4F434B → s.lockOk = true → s.lcPend < 3 → s.does (.lock f) fun t => ok 0xA [] t ∧ rows 3 t) ∧
      (w 0 ≠ 0x4C4F434B ∨ s.lockOk = false → s.does (.lock f) fun t => no 0xA 3 t ∧ t = { s with lcs := t.lcs })) ∧
    (s.fabric = true →
      (s.lockOk = true → s.lcPend < 3 → s.does .lcsLock (rows 3)) ∧
      (s.lockOk = false → s.does .lcsLock fun t => t.get LCS_STATUS LCS_STATUS_CFGERR = 1 ∧ s.onlyRegs t ∧ s.sameRegs t [LCS_STATUS])) ∧
    (∀ op : VendorOp, heard (vendorCode op) →
      (vendorCode op < 0xF0 → s.does (.vendorCommand f op) fun t => no (vendorCode op) 2 t ∧ t = { s with lcs := t.lcs }) ∧
      (0xF0 ≤ vendorCode op → 2 ≤ s.lcState → s.lcState ≠ 5 → s.does (.vendorCommand f op) fun t => no (vendorCode op) 3 t ∧ denied t) ∧
      (op = .toMaker → s.lcState = 0 → s.lcPend < 1 → s.does (.vendorCommand f op) fun t => ok (vendorCode op) [] t ∧ rows 1 t) ∧
      (op = .toOpen → s.lcState = 1 → s.fuse.devid ≠ 0 → s.fuse.vendor.isSome = true → s.lcPend < 2 → s.does (.vendorCommand f op) fun t =>
        ok (vendorCode op) [] t ∧ rows 2 t) ∧
      (op = .toOpen → s.lcState = 1 → s.fuse.devid = 0 → s.does (.vendorCommand f op) fun t => no (vendorCode op) 3 t ∧
        t = { s with lcs := t.lcs })) ∧
    (∀ lev : VbusLevel, (x.vbus = lev → s.does (.vbusChange lev) fun t => t = s) ∧
      (x.vbus ≠ lev → s.does (.vbusChange lev) fun t => t.lcs.vbus = lev ∧ (s.fabric = true → raised 219 t) ∧
        t = { s with lcs := t.lcs, hic := t.hic } ∧ (lev = .low → t.attached = false) ∧ (lev = .mid → t.attached = s.attached) ∧
        (lev = .high → t.attached = (s.flag LCS_USB LCS_USB_EN && s.fabric)) ∧ (t.attached = false → t.lcs.usb.configured = false))) ∧
    (s.attached = true →
      let asks := fun (typ req value index length : Nat) => rq.typ.toNat = typ ∧ rq.req.toNat = req ∧ rq.value.toNat = value ∧
        rq.index.toNat = index ∧ rq.length.toNat = length
      let device := fun (u : UsbSt) (t : State) => t = { s with lcs := { x with usb := u } }
      (s.does .usbBusReset fun t => t.lcs = { x with usb := { kept := x.usb.kept } } ∧ raised 219 t) ∧
      (x.usb.configured = true →
        (asks 2 3 0 1 0 → x.usb.haltIn = true ∨ x.usb.late = [] → s.does (.standardRequest rq)
          (device { x.usb with haltOut := true, answer := some [] })) ∧
        (asks 2 1 0 1 0 → x.usb.haltIn = true ∨ x.usb.late = [] → s.does (.standardRequest rq)
          (device { x.usb with haltOut := false, answer := some [] })) ∧
        (asks 1 11 0 0 0 → x.usb.late = [] → s.does (.standardRequest rq)
          (device { x.usb with haltOut := false, haltIn := false, answer := some [] })) ∧
        (∀ l y, asks 1 11 0 0 0 → x.usb.late = l ++ [y] → s.does (.standardRequest rq) fun t => t = { s with lcs := { x with
          resp := some y, usb := { x.usb with haltOut := false, haltIn := false, late := [], answer := some [] } } }) ∧
        (asks 2 3 0 0x82 0 → s.does (.standardRequest rq) (device { x.usb with haltIn := true, answer := some [] })) ∧
        (asks 2 1 0 0x82 0 → x.usb.late = [] → s.does (.standardRequest rq) (device { x.usb with haltIn := false, answer := some [] })) ∧
        ∀ l y, asks 2 1 0 0x82 0 → x.usb.late = l ++ [y] → s.does (.standardRequest rq) fun t =>
          t = { s with lcs := { x with resp := some y, usb := { x.usb with haltIn := false, late := [], answer := some [] } } }) ∧
      (x.usb.haltIn = true ∨ x.usb.late = [] →
      (asks 0x80 0 0 0 2 → s.does (.standardRequest rq) (device { x.usb with answer := some [1, 0] })) ∧
      (∀ d, d < 128 → asks 0 5 d 0 0 → x.usb.configured = false → s.does (.standardRequest rq)
        (device { x.usb with addr := d, answer := some [] })) ∧
      (asks 0 9 usbConfigValue 0 0 → s.does (.standardRequest rq)
        (device { x.usb with configured := true, haltOut := false, haltIn := false, late := [], answer := some [] })) ∧
      (asks 0 9 0 0 0 → s.does (.standardRequest rq) (device { x.usb with configured := false, late := [], answer := some [] })) ∧
      (∀ d, d ≠ 0 → d ≠ usbConfigValue → asks 0 9 d 0 0 → s.does (.standardRequest rq) (device { x.usb with answer := none })) ∧
      (asks 0x80 6 0x100 0 18 → s.does (.standardRequest rq) fun t => ∃ l, device { x.usb with answer := some l } t ∧ l.length = 18 ∧
        l.getD 0 0 = 18 ∧ l.getD 1 0 = 1 ∧ ofBytesLE (l.drop 8 |>.take 2) = s.fuse.vid.toNat ∧
        ofBytesLE (l.drop 10 |>.take 2) = s.fuse.pid.toNat ∧ l.getD 17 0 = 1) ∧
      (asks 0x80 6 0x200 0 32 → s.does (.standardRequest rq) fun t => ∃ l, device { x.usb with answer := some l } t ∧ l.length = 32 ∧
        (l.drop 18).take 7 = [7, 5, 1, 2, 64, 0, 0] ∧ (l.drop 25).take 7 = [7, 5, 0x82, 2, 64, 0, 0]) ∧
      (asks 0x80 6 (0x300 + usbSerialIx) 0x409 255 → s.does (.standardRequest rq) fun t =>
        ∃ l, device { x.usb with answer := some l } t ∧ l.length = 66 ∧ l.getD 0 0 = 66 ∧ l.getD 1 0 = 3 ∧ ∀ i, i < 32 →
          let d := s.fuse.devid.toNat / 16 ^ (31 - i) % 16
          d < 10 → l.getD (2 + 2 * i) 0 = BitVec.ofNat 8 (0x30 + d) ∧ l.getD (3 + 2 * i) 0 = 0) ∧
      ∀ typ req value index length, typ / 32 % 4 ≠ 0 → asks typ req value index length → s.does (.standardRequest rq)
        (device { x.usb with answer := none }))) ∧
    (∀ op : DebugOp, let code := (Config.debugCode (debugKind op)).toNat
      free code →
      (f.path = .usb ∨ s.dapClosed = true → s.does (.debugCommand f c op) fun t => no code 3 t ∧ denied t) ∧
      (f.path = .dap → s.dapClosed = false →
        (s.hasCore c = false → s.does (.debugCommand f c op) fun t => ok code [] t ∧ t = { s with lcs := t.lcs }) ∧
        (s.hasCore c = true →
          (op = .hold → s.does (.debugCommand f c op) fun t => ok code [] t ∧ t.core c = { s.core c with held := true } ∧
            ∀ d : Nat, d ≠ c.val → t.core d = s.core d) ∧
          (op = .resume → s.does (.debugCommand f c op) fun t => ok code [] t ∧ t.core c = { s.core c with held := false } ∧
            ∀ d : Nat, d ≠ c.val → t.core d = s.core d) ∧
          ∀ p ∈ ([(.readPc, (s.core c).pc), (.readGather g, (s.core c).gr g), (.readSpecial sp, (s.core c).special sp), (
              .readSavedPc, (s.core c).savedPc), (.readSavedFlags, (s.core c).savedFlags.setWidth 32)] : List (DebugOp × Word)),
            op = p.1 → s.does (.debugCommand f c op) fun t => ok code (wordBytes p.2) t ∧ t.lcs.dbg = p.2 ∧ t = { s with lcs := t.lcs })))

/-! ## The registers, the queue of commands, reset, and what every step keeps -/

/-- R9, R11, R12, R462: a word that a requester stores to a configuration register of SYS, which neither a bus error nor the rights
stop, writes its RW fields, clears W1C bits where it holds 1, leaves RO fields, and ignores a reserved encoding with CFGERR; a store
completes in every state, at every address. The model's choices: BOWARN cleared while VCOREWARN is 1 is set again at once (log 15), and the
bus error that the requester hears of stands in the model's record of output (log 71); and a store of a requester that is not on the bus
changes nothing (log 9). -/
def Obligations.RegisterWrite : Prop :=
  ∀ (s : State) (r : Req) (v : Word),
    let stores := fun (a : Nat) => s.onBus r = true ∧ s.fabric = true ∧ s.mayStore r a = true
    let at_ := fun (a : Nat) => BitVec.ofNat 32 a
    let quiet := fun (t : State) => s.onlyRegs { t with rerr := s.rerr } ∧ t.rerr = none
    (stores SYS_TEMPCFG → s.does (.registerWrite r (at_ SYS_TEMPCFG) v) fun t => quiet t ∧ s.sameRegs t [SYS_TEMPCFG] ∧
      t.get SYS_TEMPCFG SYS_TEMPCFG_TEMP_HI = fieldOf v SYS_TEMPCFG_TEMP_HI ∧ t.get SYS_TEMPCFG SYS_TEMPCFG_HYST = fieldOf v SYS_TEMPCFG_HYST) ∧
    (stores SYS_CLKOUT →
      (fieldOf v SYS_CLKOUT_SEL < 5 → s.does (.registerWrite r (at_ SYS_CLKOUT) v) fun t => quiet t ∧ s.sameRegs t [SYS_CLKOUT] ∧
        t.get SYS_CLKOUT SYS_CLKOUT_SEL = fieldOf v SYS_CLKOUT_SEL) ∧
      (5 ≤ fieldOf v SYS_CLKOUT_SEL → s.does (.registerWrite r (at_ SYS_CLKOUT) v) fun t => quiet t ∧ s.sameRegs t [SYS_STATUS] ∧
        t.get SYS_STATUS SYS_STATUS_CFGERR = 1)) ∧
    (stores SYS_STATUS → s.does (.registerWrite r (at_ SYS_STATUS) v) fun t => quiet t ∧ s.sameRegs t [SYS_STATUS] ∧
      (∀ i, i < 32 → i ≠ 7 → bitAt (t.rd SYS_STATUS) i = (bitAt (s.rd SYS_STATUS) i && !(bitAt v i && [31, 11, 10, 8, 3].contains i))) ∧
      (s.get SYS_STATUS SYS_STATUS_VCOREWARN = 0 → bitAt (t.rd SYS_STATUS) 7 = (bitAt (s.rd SYS_STATUS) 7 && !bitAt v 7)) ∧
      (s.get SYS_STATUS SYS_STATUS_VCOREWARN = 1 → bitAt v 7 = true ∨ bitAt (s.rd SYS_STATUS) 7 = true → bitAt (t.rd SYS_STATUS) 7 = true)) ∧
    (∀ a, exec (.registerWrite r a v) s = .next (if s.onBus r then
      { (s.busStore r a.toNat 4 v.toNat).1 with rerr := (s.busStore r a.toNat 4 v.toNat).2 } else s)) ∧
    (s.onBus r = true → ∀ a e, s.busErr r a.toNat 4 true = some e → s.does (.registerWrite r a v) fun t =>
      t.rerr = some e ∧ t.regs = s.regs ∧ t.mem = s.mem)

/-- In place of the fetch: a step takes the command at the front of the queue and runs it on the state with the queue's rest; with
no command waiting it is a tick of TIME, the model's own choice (logs 1 and 12). -/
def Obligations.StepRunsTheFrontCommand : Prop :=
  ∀ s : State, (∀ c rest, s.pending = c :: rest → step s = exec c { s with pending := rest }) ∧
    (s.pending = [] → step s = .next s.tick) ∧ step State.reset = .next State.reset

/-- What the release of a COLD reset leaves (R14, R80, R84, R179–R181, R284, R305, R320, R451): registers at the reset values of their
tables, cores stopped with their flags clear, every queue empty and disabled, no entry of the launch table valid, nothing on the way
to the interrupt controller, and the queue of commands empty. The model's choices: reset is the instant at which the fabric leaves a COLD
reset whose cause was PORST_N, on a GLS9696 with good supplies (log 3); memory reads 0 (log 4); the fuses of a part in OPEN (log 6); that
the reference is present then (log 15). -/
def Obligations.ResetState : Prop :=
  State.reset.Inv ∧ State.reset.pending = [] ∧ State.reset.fabric = true ∧ State.reset.mem = [] ∧ State.reset.hic = {} ∧
  (∀ a, a ≠ SYS_STATUS → a ≠ SYS_RESETCAUSE → State.reset.rd a = resetWord a) ∧
  State.reset.get SYS_STATUS SYS_STATUS_REFOK = 1 ∧ State.reset.get SYS_RESETCAUSE SYS_RESETCAUSE_PORST = 1 ∧
  (∀ c, c < 9 → State.reset.running c = false ∧ (State.reset.core c).flags = 0 ∧ (State.reset.core c).crcv = 0xFFFFFFFF ∧
    (State.reset.core c).crcp = 0x1EDC6F41 ∧ (State.reset.core c).crcc = 4) ∧
  (∀ q, q < 64 → State.reset.qlive q = false) ∧ (∀ i, (State.reset.lent i).st = .free) ∧ State.reset.time = 0 ∧
  State.reset.get SYS_TEMPCFG SYS_TEMPCFG_HYST = 5 ∧ State.reset.lcState = 2

/-- Every step from a state whose memory is in canonical form leads to one: addresses rise, and no byte that reads 0 is listed. -/
def Obligations.EveryStepKeepsMemoryCanonical : Prop :=
  ∀ s t : State, s.Inv → step s = .next t → t.Inv

/-- R410, R451, R454, R455, R462: whatever the command, no step unblows a fuse: the two rows of the life-cycle counter and the roll-back
floor never fall, a revoked key slot stays revoked, and the device ID, the key hashes and the USB identifiers stay as they are. -/
def Obligations.FusesNeverFall : Prop :=
  ∀ s t : State, step s = .next t → s.fuse.keeps t.fuse
end

