-- ==== Sys2Proof/Laws/Tables.lean ====
section
/-! SUPPORT. What the sparse tables, the memory and the bit fields answer after they are written. -/

namespace Sys2Proof.Machine

open Sys2Proof

/-! ## Sparse tables -/

theorem tget_tput {α : Type} (t : Tab α) (d v : α) (i j : Nat) :
    tget (tput t i v) d j = if i = j then v else tget t d j := by
  induction t with
  | nil => simp [tput, tget]
  | cons e r ih =>
    obtain ⟨k, w⟩ := e
    by_cases h : k = i
    · subst h; by_cases h2 : k = j <;> simp [tput, tget, h2]
    · by_cases h1 : i < k
      · simp [tput, tget, h, h1]
      · by_cases h2 : k = j
        · subst h2; simp [tput, tget, h, h1, Ne.symm h]
        · simp [tput, tget, h, h1, ih, h2]

theorem tget_tdel {α : Type} (t : Tab α) (d : α) (i j : Nat) :
    tget (tdel t i) d j = if i = j then d else tget t d j := by
  induction t with
  | nil => simp [tdel, tget]
  | cons e r ih =>
    obtain ⟨k, w⟩ := e
    unfold tdel at ih ⊢
    by_cases h : k = i
    · subst h; by_cases h2 : k = j
      · subst h2; simpa using ih
      · simpa [h2, tget] using ih
    · by_cases h2 : k = j
      · subst h2; simp [h, Ne.symm h, tget]
      · simp [h, h2, ih, tget]

/-- A table answers the value written at that number, and elsewhere what it did. -/
theorem tget_tset {α : Type} [DecidableEq α] (t : Tab α) (d v : α) (i j : Nat) :
    tget (tset d t i v) d j = if i = j then v else tget t d j := by
  unfold tset
  by_cases h : v = d
  · simp [h, tget_tdel]
  · simp [h, tget_tput]

@[simp] theorem tget_tset_self {α : Type} [DecidableEq α] (t : Tab α) (d v : α) (i : Nat) :
    tget (tset d t i v) d i = v := by simp [tget_tset]

@[simp] theorem tget_nil {α : Type} (d : α) (i : Nat) : tget [] d i = d := rfl

/-! ## Memory -/

theorem mget_eq_tget (m : List Host.Cell) (a : Nat) : mget m a = tget m 0 a := by
  induction m with
  | nil => rfl
  | cons e r ih => obtain ⟨b, v⟩ := e; simp [mget, tget, ih]

/-- The byte written reads back, and every other byte is as before. -/
theorem mget_mset (m : List Host.Cell) (a b : Nat) (v : Byte) : mget (mset m a v) b = if a = b then v else mget m b := by
  simp [mget_eq_tget, mset, tget_tset]

/-- Bytes outside those written are as before. -/
theorem mget_mwrites_ne (m : List Host.Cell) (a b : Nat) (l : List Byte) (h : b < a ∨ a + l.length ≤ b) :
    mget (mwrites m a l) b = mget m b := by
  induction l generalizing m a with
  | nil => rfl
  | cons x r ih =>
    simp only [mwrites, List.length_cons] at *
    rw [ih _ _ (by omega), mget_mset, if_neg (by omega)]

theorem bytesLE_length (k n : Nat) : (bytesLE k n).length = k := by
  induction k generalizing n with
  | zero => rfl
  | succ k ih => simp [bytesLE, ih]

theorem mbytes_mwrites (m : List Host.Cell) (a : Nat) (l : List Byte) : mbytes (mwrites m a l) a l.length = l := by
  induction l generalizing m a with
  | nil => rfl
  | cons x r ih =>
    simp only [mwrites, List.length_cons, mbytes]
    rw [ih, mget_mwrites_ne _ _ _ _ (by omega), mget_mset, if_pos rfl]

theorem ofBytesLE_bytesLE (k n : Nat) : ofBytesLE (bytesLE k n) = n % 256 ^ k := by
  induction k generalizing n with
  | zero => simp [bytesLE, ofBytesLE, Nat.mod_one]
  | succ k ih =>
    simp only [bytesLE, ofBytesLE, ih, BitVec.toNat_ofNat]
    rw [show (2 : Nat) ^ 8 = 256 by rfl, Nat.pow_succ, Nat.mul_comm (256 ^ k), Nat.mod_mul]

/-- A number written to memory reads back, modulo the size of its bytes (R6). -/
theorem mrd_mwr (s : State) (a k v : Nat) : (s.mwr a k v).mrd a k = v % 256 ^ k := by
  have h := mbytes_mwrites s.mem a (bytesLE k v)
  rw [bytesLE_length] at h
  simp [State.mrd, State.mwr, h, ofBytesLE_bytesLE]

/-! ## Canonical form -/

theorem tput_keys {α : Type} (t : Tab α) (i : Nat) (v : α) (e : Nat × α) (h : e ∈ tput t i v) : e = (i, v) ∨ e ∈ t := by
  induction t with
  | nil => simpa [tput] using h
  | cons f r ih =>
    obtain ⟨j, w⟩ := f
    simp only [tput] at h
    split at h
    · rcases List.mem_cons.mp h with h | h
      · exact .inl h
      · exact .inr (List.mem_cons_of_mem _ h)
    · split at h
      · exact List.mem_cons.mp h
      · rcases List.mem_cons.mp h with h | h
        · exact .inr (h ▸ List.mem_cons_self)
        · exact (ih h).imp id (List.mem_cons_of_mem _)

/-- A table stays sorted when a value is put into it. -/
theorem tput_sorted {α : Type} (t : Tab α) (i : Nat) (v : α) (h : t.Pairwise fun x y => x.1 < y.1) :
    (tput t i v).Pairwise fun x y => x.1 < y.1 := by
  induction t with
  | nil => simp [tput]
  | cons f r ih =>
    obtain ⟨j, w⟩ := f
    rw [List.pairwise_cons] at h
    simp only [tput]
    split
    · rename_i hj; subst hj; exact List.pairwise_cons.mpr h
    · split
      · rename_i hlt
        refine List.pairwise_cons.mpr ⟨fun e he => ?_, List.pairwise_cons.mpr h⟩
        rcases List.mem_cons.mp he with he | he
        · subst he; exact hlt
        · exact Nat.lt_trans hlt (h.1 e he)
      · rename_i hne hle
        refine List.pairwise_cons.mpr ⟨fun e he => ?_, ih h.2⟩
        rcases tput_keys r i v e he with he | he
        · subst he; simp only; omega
        · exact h.1 e he

theorem Memory.wf_iff (m : List Host.Cell) :
    Memory.wf m = true ↔ (m.Pairwise fun x y => x.1 < y.1) ∧ ∀ e ∈ m, e.2 ≠ 0 := by
  simp [Memory.wf]

/-- Writing a byte keeps the canonical form. -/
theorem wf_mset (m : List Host.Cell) (a : Nat) (v : Byte) (h : Memory.wf m = true) : Memory.wf (mset m a v) = true := by
  rw [Memory.wf_iff] at h ⊢
  unfold mset tset
  by_cases hv : v = 0
  · rw [if_pos hv]
    exact ⟨h.1.filter _, fun e he => h.2 e (List.mem_filter.mp he).1⟩
  · rw [if_neg hv]
    refine ⟨tput_sorted _ _ _ h.1, fun e he => ?_⟩
    rcases tput_keys _ _ _ _ he with he | he
    · subst he; exact hv
    · exact h.2 e he

/-- Writing bytes keeps the canonical form. -/
theorem wf_mwrites (m : List Host.Cell) (a : Nat) (l : List Byte) (h : Memory.wf m = true) :
    Memory.wf (mwrites m a l) = true := by
  induction l generalizing m a with
  | nil => exact h
  | cons x r ih => exact ih _ _ (wf_mset _ _ _ h)

/-- Leaving bytes out keeps the canonical form. -/
theorem wf_filter (m : List Host.Cell) (p : Host.Cell → Bool) (h : Memory.wf m = true) : Memory.wf (m.filter p) = true := by
  rw [Memory.wf_iff] at h ⊢
  exact ⟨h.1.filter _, fun e he => h.2 e (List.mem_filter.mp he).1⟩

/-! ## Bit fields -/

theorem bitsOf_testBit (n lo w i : Nat) : (bitsOf n lo w).testBit i = (decide (i < w) && n.testBit (lo + i)) := by
  rw [bitsOf, Nat.testBit_mod_two_pow, Nat.testBit_div_two_pow, Nat.add_comm]

theorem setBitsOf_testBit (n lo w v i : Nat) :
    (setBitsOf n lo w v).testBit i =
      if i < lo then n.testBit i else if i < lo + w then v.testBit (i - lo) else n.testBit i := by
  have e : setBitsOf n lo w v = 2 ^ (lo + w) * (n / 2 ^ (lo + w)) + (2 ^ lo * (v % 2 ^ w) + n % 2 ^ lo) := by
    simp only [setBitsOf, Nat.mul_comm (n / _), Nat.mul_comm (v % _), Nat.add_assoc]
  have hl : n % 2 ^ lo < 2 ^ lo := Nat.mod_lt _ (Nat.two_pow_pos lo)
  have hm : 2 ^ lo * (v % 2 ^ w) + n % 2 ^ lo < 2 ^ (lo + w) := by
    rw [Nat.pow_add]
    have := Nat.mod_lt v (Nat.two_pow_pos w)
    calc 2 ^ lo * (v % 2 ^ w) + n % 2 ^ lo < 2 ^ lo * (v % 2 ^ w) + 2 ^ lo := by omega
      _ = 2 ^ lo * (v % 2 ^ w + 1) := by rw [Nat.mul_add, Nat.mul_one]
      _ ≤ 2 ^ lo * 2 ^ w := Nat.mul_le_mul_left _ this
  rw [e, Nat.testBit_two_pow_mul_add _ hm]
  split
  · rename_i h
    rw [Nat.testBit_two_pow_mul_add _ hl]
    split
    · rename_i h2; simp [h2]
    · rename_i h2; simp [show i - lo < w by omega]
  · rename_i h
    rw [if_neg (show ¬ i < lo by omega), Nat.testBit_div_two_pow]
    congr 1; omega

/-- A field that has been replaced. -/
theorem fieldOf_setField (w : Word) (f : Fld) (v : Nat) (h : f.lo + f.w ≤ 32) : fieldOf (setField w f v) f = v % 2 ^ f.w := by
  apply Nat.eq_of_testBit_eq
  intro i
  rw [fieldOf, setField, bitsOf_testBit, BitVec.toNat_ofNat, Nat.testBit_mod_two_pow, setBitsOf_testBit,
    Nat.testBit_mod_two_pow]
  by_cases hi : i < f.w
  · simp [hi, show f.lo + i < 32 by omega, show ¬ f.lo + i < f.lo by omega]
  · simp [hi]

/-- A field beside the one that has been replaced. -/
theorem fieldOf_setField_ne (w : Word) (f g : Fld) (v : Nat) (hg : g.lo + g.w ≤ 32)
    (h : g.lo + g.w ≤ f.lo ∨ f.lo + f.w ≤ g.lo) : fieldOf (setField w f v) g = fieldOf w g := by
  apply Nat.eq_of_testBit_eq
  intro i
  rw [fieldOf, fieldOf, setField, bitsOf_testBit, bitsOf_testBit, BitVec.toNat_ofNat, Nat.testBit_mod_two_pow,
    setBitsOf_testBit]
  by_cases hi : i < g.w
  · rcases h with h | h
    · simp [hi, show g.lo + i < 32 by omega, show g.lo + i < f.lo by omega]
    · simp [hi, show g.lo + i < 32 by omega, show ¬ g.lo + i < f.lo by omega, show ¬ g.lo + i < f.lo + f.w by omega]
  · simp [hi]

theorem fieldOf_lt (w : Word) (f : Fld) : fieldOf w f < 2 ^ f.w := Nat.mod_lt _ (Nat.two_pow_pos _)

/-! ## Registers -/

/-- The register written reads back, and every other one is as before. -/
theorem rd_wr (s : State) (a b : Nat) (v : Word) : (s.wr a v).rd b = if a = b then v else s.rd b := by
  unfold State.rd State.wr
  simp only
  by_cases h : a = b
  · subst h; simp
  · rw [if_neg h]
    -- the entries beside `a` do not depend on its default
    have : ∀ d d' : Word, tget (tset d s.regs a v) d' b = tget s.regs d' b := by
      intro d d'
      unfold tset
      split
      · rw [tget_tdel, if_neg h]
      · rw [tget_tput, if_neg h]
    exact this _ _

@[simp] theorem rd_wr_self (s : State) (a : Nat) (v : Word) : (s.wr a v).rd a = v := by simp [rd_wr]

theorem rd_set (s : State) (a b : Nat) (f : Fld) (v : Nat) :
    (s.set a f v).rd b = if a = b then setField (s.rd a) f v else s.rd b := by simp [State.set, rd_wr]

/-- The field written reads back. -/
theorem get_set_self (s : State) (a : Nat) (f : Fld) (v : Nat) (h : f.lo + f.w ≤ 32) : (s.set a f v).get a f = v % 2 ^ f.w := by
  simp [State.get, rd_set, fieldOf_setField _ _ _ h]

/-- Another field of the same register is as before. -/
theorem get_set_ne (s : State) (a : Nat) (f g : Fld) (v : Nat) (hg : g.lo + g.w ≤ 32)
    (h : g.lo + g.w ≤ f.lo ∨ f.lo + f.w ≤ g.lo) : (s.set a f v).get a g = s.get a g := by
  simp [State.get, rd_set, fieldOf_setField_ne _ _ _ _ hg h]

/-- A field of another register is as before. -/
theorem get_set_other (s : State) (a b : Nat) (f g : Fld) (v : Nat) (h : a ≠ b) : (s.set a f v).get b g = s.get b g := by
  simp [State.get, rd_set, h]

end Sys2Proof.Machine
end

