-- ==== Sys2Proof/Laws/State.lean ====
section
/-! SUPPORT. What the smallest updates of the state leave unchanged, field by field, and what they answer. -/

namespace Sys2Proof.Machine

open Sys2Proof

/-! ## `State.wr` changes `regs` alone -/

@[simp] theorem State.wr_pending (s : State) (a : Nat) (v : Word) : (s.wr a v).pending = s.pending := rfl
@[simp] theorem State.wr_variant (s : State) (a : Nat) (v : Word) : (s.wr a v).variant = s.variant := rfl
@[simp] theorem State.wr_time (s : State) (a : Nat) (v : Word) : (s.wr a v).time = s.time := rfl
@[simp] theorem State.wr_mem (s : State) (a : Nat) (v : Word) : (s.wr a v).mem = s.mem := rfl
@[simp] theorem State.wr_flips (s : State) (a : Nat) (v : Word) : (s.wr a v).flips = s.flips := rfl
@[simp] theorem State.wr_freeCtr (s : State) (a : Nat) (v : Word) : (s.wr a v).freeCtr = s.freeCtr := rfl
@[simp] theorem State.wr_rdata (s : State) (a : Nat) (v : Word) : (s.wr a v).rdata = s.rdata := rfl
@[simp] theorem State.wr_rerr (s : State) (a : Nat) (v : Word) : (s.wr a v).rerr = s.rerr := rfl
@[simp] theorem State.wr_pow (s : State) (a : Nat) (v : Word) : (s.wr a v).pow = s.pow := rfl
@[simp] theorem State.wr_hic (s : State) (a : Nat) (v : Word) : (s.wr a v).hic = s.hic := rfl
@[simp] theorem State.wr_qm (s : State) (a : Nat) (v : Word) : (s.wr a v).qm = s.qm := rfl
@[simp] theorem State.wr_cores (s : State) (a : Nat) (v : Word) : (s.wr a v).cores = s.cores := rfl
@[simp] theorem State.wr_jrn (s : State) (a : Nat) (v : Word) : (s.wr a v).jrn = s.jrn := rfl
@[simp] theorem State.wr_caer (s : State) (a : Nat) (v : Word) : (s.wr a v).caer = s.caer := rfl
@[simp] theorem State.wr_tim (s : State) (a : Nat) (v : Word) : (s.wr a v).tim = s.tim := rfl
@[simp] theorem State.wr_act (s : State) (a : Nat) (v : Word) : (s.wr a v).act = s.act := rfl
@[simp] theorem State.wr_afe (s : State) (a : Nat) (v : Word) : (s.wr a v).afe = s.afe := rfl
@[simp] theorem State.wr_flt (s : State) (a : Nat) (v : Word) : (s.wr a v).flt = s.flt := rfl
@[simp] theorem State.wr_evt (s : State) (a : Nat) (v : Word) : (s.wr a v).evt = s.evt := rfl
@[simp] theorem State.wr_teu (s : State) (a : Nat) (v : Word) : (s.wr a v).teu = s.teu := rfl
@[simp] theorem State.wr_dme (s : State) (a : Nat) (v : Word) : (s.wr a v).dme = s.dme := rfl
@[simp] theorem State.wr_fuse (s : State) (a : Nat) (v : Word) : (s.wr a v).fuse = s.fuse := rfl
@[simp] theorem State.wr_lcs (s : State) (a : Nat) (v : Word) : (s.wr a v).lcs = s.lcs := rfl
@[simp] theorem State.wr_boot (s : State) (a : Nat) (v : Word) : (s.wr a v).boot = s.boot := rfl
@[simp] theorem State.wr_eth (s : State) (a : Nat) (v : Word) : (s.wr a v).eth = s.eth := rfl
@[simp] theorem State.wr_twp (s : State) (a : Nat) (v : Word) : (s.wr a v).twp = s.twp := rfl

/-! ## `State.set` changes `regs` alone -/

@[simp] theorem State.set_pending (s : State) (a : Nat) (f : Fld) (v : Nat) : (s.set a f v).pending = s.pending := rfl
@[simp] theorem State.set_variant (s : State) (a : Nat) (f : Fld) (v : Nat) : (s.set a f v).variant = s.variant := rfl
@[simp] theorem State.set_time (s : State) (a : Nat) (f : Fld) (v : Nat) : (s.set a f v).time = s.time := rfl
@[simp] theorem State.set_mem (s : State) (a : Nat) (f : Fld) (v : Nat) : (s.set a f v).mem = s.mem := rfl
@[simp] theorem State.set_flips (s : State) (a : Nat) (f : Fld) (v : Nat) : (s.set a f v).flips = s.flips := rfl
@[simp] theorem State.set_freeCtr (s : State) (a : Nat) (f : Fld) (v : Nat) : (s.set a f v).freeCtr = s.freeCtr := rfl
@[simp] theorem State.set_rdata (s : State) (a : Nat) (f : Fld) (v : Nat) : (s.set a f v).rdata = s.rdata := rfl
@[simp] theorem State.set_rerr (s : State) (a : Nat) (f : Fld) (v : Nat) : (s.set a f v).rerr = s.rerr := rfl
@[simp] theorem State.set_pow (s : State) (a : Nat) (f : Fld) (v : Nat) : (s.set a f v).pow = s.pow := rfl
@[simp] theorem State.set_hic (s : State) (a : Nat) (f : Fld) (v : Nat) : (s.set a f v).hic = s.hic := rfl
@[simp] theorem State.set_qm (s : State) (a : Nat) (f : Fld) (v : Nat) : (s.set a f v).qm = s.qm := rfl
@[simp] theorem State.set_cores (s : State) (a : Nat) (f : Fld) (v : Nat) : (s.set a f v).cores = s.cores := rfl
@[simp] theorem State.set_jrn (s : State) (a : Nat) (f : Fld) (v : Nat) : (s.set a f v).jrn = s.jrn := rfl
@[simp] theorem State.set_caer (s : State) (a : Nat) (f : Fld) (v : Nat) : (s.set a f v).caer = s.caer := rfl
@[simp] theorem State.set_tim (s : State) (a : Nat) (f : Fld) (v : Nat) : (s.set a f v).tim = s.tim := rfl
@[simp] theorem State.set_act (s : State) (a : Nat) (f : Fld) (v : Nat) : (s.set a f v).act = s.act := rfl
@[simp] theorem State.set_afe (s : State) (a : Nat) (f : Fld) (v : Nat) : (s.set a f v).afe = s.afe := rfl
@[simp] theorem State.set_flt (s : State) (a : Nat) (f : Fld) (v : Nat) : (s.set a f v).flt = s.flt := rfl
@[simp] theorem State.set_evt (s : State) (a : Nat) (f : Fld) (v : Nat) : (s.set a f v).evt = s.evt := rfl
@[simp] theorem State.set_teu (s : State) (a : Nat) (f : Fld) (v : Nat) : (s.set a f v).teu = s.teu := rfl
@[simp] theorem State.set_dme (s : State) (a : Nat) (f : Fld) (v : Nat) : (s.set a f v).dme = s.dme := rfl
@[simp] theorem State.set_fuse (s : State) (a : Nat) (f : Fld) (v : Nat) : (s.set a f v).fuse = s.fuse := rfl
@[simp] theorem State.set_lcs (s : State) (a : Nat) (f : Fld) (v : Nat) : (s.set a f v).lcs = s.lcs := rfl
@[simp] theorem State.set_boot (s : State) (a : Nat) (f : Fld) (v : Nat) : (s.set a f v).boot = s.boot := rfl
@[simp] theorem State.set_eth (s : State) (a : Nat) (f : Fld) (v : Nat) : (s.set a f v).eth = s.eth := rfl
@[simp] theorem State.set_twp (s : State) (a : Nat) (f : Fld) (v : Nat) : (s.set a f v).twp = s.twp := rfl

/-! ## `State.raise` changes `hic` alone -/

@[simp] theorem State.raise_pending (s : State) (n : Nat) : (s.raise n).pending = s.pending := rfl
@[simp] theorem State.raise_variant (s : State) (n : Nat) : (s.raise n).variant = s.variant := rfl
@[simp] theorem State.raise_time (s : State) (n : Nat) : (s.raise n).time = s.time := rfl
@[simp] theorem State.raise_regs (s : State) (n : Nat) : (s.raise n).regs = s.regs := rfl
@[simp] theorem State.raise_mem (s : State) (n : Nat) : (s.raise n).mem = s.mem := rfl
@[simp] theorem State.raise_flips (s : State) (n : Nat) : (s.raise n).flips = s.flips := rfl
@[simp] theorem State.raise_freeCtr (s : State) (n : Nat) : (s.raise n).freeCtr = s.freeCtr := rfl
@[simp] theorem State.raise_rdata (s : State) (n : Nat) : (s.raise n).rdata = s.rdata := rfl
@[simp] theorem State.raise_rerr (s : State) (n : Nat) : (s.raise n).rerr = s.rerr := rfl
@[simp] theorem State.raise_pow (s : State) (n : Nat) : (s.raise n).pow = s.pow := rfl
@[simp] theorem State.raise_qm (s : State) (n : Nat) : (s.raise n).qm = s.qm := rfl
@[simp] theorem State.raise_cores (s : State) (n : Nat) : (s.raise n).cores = s.cores := rfl
@[simp] theorem State.raise_jrn (s : State) (n : Nat) : (s.raise n).jrn = s.jrn := rfl
@[simp] theorem State.raise_caer (s : State) (n : Nat) : (s.raise n).caer = s.caer := rfl
@[simp] theorem State.raise_tim (s : State) (n : Nat) : (s.raise n).tim = s.tim := rfl
@[simp] theorem State.raise_act (s : State) (n : Nat) : (s.raise n).act = s.act := rfl
@[simp] theorem State.raise_afe (s : State) (n : Nat) : (s.raise n).afe = s.afe := rfl
@[simp] theorem State.raise_flt (s : State) (n : Nat) : (s.raise n).flt = s.flt := rfl
@[simp] theorem State.raise_evt (s : State) (n : Nat) : (s.raise n).evt = s.evt := rfl
@[simp] theorem State.raise_teu (s : State) (n : Nat) : (s.raise n).teu = s.teu := rfl
@[simp] theorem State.raise_dme (s : State) (n : Nat) : (s.raise n).dme = s.dme := rfl
@[simp] theorem State.raise_fuse (s : State) (n : Nat) : (s.raise n).fuse = s.fuse := rfl
@[simp] theorem State.raise_lcs (s : State) (n : Nat) : (s.raise n).lcs = s.lcs := rfl
@[simp] theorem State.raise_boot (s : State) (n : Nat) : (s.raise n).boot = s.boot := rfl
@[simp] theorem State.raise_eth (s : State) (n : Nat) : (s.raise n).eth = s.eth := rfl
@[simp] theorem State.raise_twp (s : State) (n : Nat) : (s.raise n).twp = s.twp := rfl

/-! ## `State.hand` changes `jrn` alone -/

@[simp] theorem State.hand_pending (s : State) (f : JFrom) (l : List Rec) : (s.hand f l).pending = s.pending := rfl
@[simp] theorem State.hand_variant (s : State) (f : JFrom) (l : List Rec) : (s.hand f l).variant = s.variant := rfl
@[simp] theorem State.hand_time (s : State) (f : JFrom) (l : List Rec) : (s.hand f l).time = s.time := rfl
@[simp] theorem State.hand_regs (s : State) (f : JFrom) (l : List Rec) : (s.hand f l).regs = s.regs := rfl
@[simp] theorem State.hand_mem (s : State) (f : JFrom) (l : List Rec) : (s.hand f l).mem = s.mem := rfl
@[simp] theorem State.hand_flips (s : State) (f : JFrom) (l : List Rec) : (s.hand f l).flips = s.flips := rfl
@[simp] theorem State.hand_freeCtr (s : State) (f : JFrom) (l : List Rec) : (s.hand f l).freeCtr = s.freeCtr := rfl
@[simp] theorem State.hand_rdata (s : State) (f : JFrom) (l : List Rec) : (s.hand f l).rdata = s.rdata := rfl
@[simp] theorem State.hand_rerr (s : State) (f : JFrom) (l : List Rec) : (s.hand f l).rerr = s.rerr := rfl
@[simp] theorem State.hand_pow (s : State) (f : JFrom) (l : List Rec) : (s.hand f l).pow = s.pow := rfl
@[simp] theorem State.hand_hic (s : State) (f : JFrom) (l : List Rec) : (s.hand f l).hic = s.hic := rfl
@[simp] theorem State.hand_qm (s : State) (f : JFrom) (l : List Rec) : (s.hand f l).qm = s.qm := rfl
@[simp] theorem State.hand_cores (s : State) (f : JFrom) (l : List Rec) : (s.hand f l).cores = s.cores := rfl
@[simp] theorem State.hand_caer (s : State) (f : JFrom) (l : List Rec) : (s.hand f l).caer = s.caer := rfl
@[simp] theorem State.hand_tim (s : State) (f : JFrom) (l : List Rec) : (s.hand f l).tim = s.tim := rfl
@[simp] theorem State.hand_act (s : State) (f : JFrom) (l : List Rec) : (s.hand f l).act = s.act := rfl
@[simp] theorem State.hand_afe (s : State) (f : JFrom) (l : List Rec) : (s.hand f l).afe = s.afe := rfl
@[simp] theorem State.hand_flt (s : State) (f : JFrom) (l : List Rec) : (s.hand f l).flt = s.flt := rfl
@[simp] theorem State.hand_evt (s : State) (f : JFrom) (l : List Rec) : (s.hand f l).evt = s.evt := rfl
@[simp] theorem State.hand_teu (s : State) (f : JFrom) (l : List Rec) : (s.hand f l).teu = s.teu := rfl
@[simp] theorem State.hand_dme (s : State) (f : JFrom) (l : List Rec) : (s.hand f l).dme = s.dme := rfl
@[simp] theorem State.hand_fuse (s : State) (f : JFrom) (l : List Rec) : (s.hand f l).fuse = s.fuse := rfl
@[simp] theorem State.hand_lcs (s : State) (f : JFrom) (l : List Rec) : (s.hand f l).lcs = s.lcs := rfl
@[simp] theorem State.hand_boot (s : State) (f : JFrom) (l : List Rec) : (s.hand f l).boot = s.boot := rfl
@[simp] theorem State.hand_eth (s : State) (f : JFrom) (l : List Rec) : (s.hand f l).eth = s.eth := rfl
@[simp] theorem State.hand_twp (s : State) (f : JFrom) (l : List Rec) : (s.hand f l).twp = s.twp := rfl

/-! ## `State.setCore` changes `cores` alone -/

@[simp] theorem State.setCore_pending (s : State) (c : Nat) (x : CoreSt) : (s.setCore c x).pending = s.pending := rfl
@[simp] theorem State.setCore_variant (s : State) (c : Nat) (x : CoreSt) : (s.setCore c x).variant = s.variant := rfl
@[simp] theorem State.setCore_time (s : State) (c : Nat) (x : CoreSt) : (s.setCore c x).time = s.time := rfl
@[simp] theorem State.setCore_regs (s : State) (c : Nat) (x : CoreSt) : (s.setCore c x).regs = s.regs := rfl
@[simp] theorem State.setCore_mem (s : State) (c : Nat) (x : CoreSt) : (s.setCore c x).mem = s.mem := rfl
@[simp] theorem State.setCore_flips (s : State) (c : Nat) (x : CoreSt) : (s.setCore c x).flips = s.flips := rfl
@[simp] theorem State.setCore_freeCtr (s : State) (c : Nat) (x : CoreSt) : (s.setCore c x).freeCtr = s.freeCtr := rfl
@[simp] theorem State.setCore_rdata (s : State) (c : Nat) (x : CoreSt) : (s.setCore c x).rdata = s.rdata := rfl
@[simp] theorem State.setCore_rerr (s : State) (c : Nat) (x : CoreSt) : (s.setCore c x).rerr = s.rerr := rfl
@[simp] theorem State.setCore_pow (s : State) (c : Nat) (x : CoreSt) : (s.setCore c x).pow = s.pow := rfl
@[simp] theorem State.setCore_hic (s : State) (c : Nat) (x : CoreSt) : (s.setCore c x).hic = s.hic := rfl
@[simp] theorem State.setCore_qm (s : State) (c : Nat) (x : CoreSt) : (s.setCore c x).qm = s.qm := rfl
@[simp] theorem State.setCore_jrn (s : State) (c : Nat) (x : CoreSt) : (s.setCore c x).jrn = s.jrn := rfl
@[simp] theorem State.setCore_caer (s : State) (c : Nat) (x : CoreSt) : (s.setCore c x).caer = s.caer := rfl
@[simp] theorem State.setCore_tim (s : State) (c : Nat) (x : CoreSt) : (s.setCore c x).tim = s.tim := rfl
@[simp] theorem State.setCore_act (s : State) (c : Nat) (x : CoreSt) : (s.setCore c x).act = s.act := rfl
@[simp] theorem State.setCore_afe (s : State) (c : Nat) (x : CoreSt) : (s.setCore c x).afe = s.afe := rfl
@[simp] theorem State.setCore_flt (s : State) (c : Nat) (x : CoreSt) : (s.setCore c x).flt = s.flt := rfl
@[simp] theorem State.setCore_evt (s : State) (c : Nat) (x : CoreSt) : (s.setCore c x).evt = s.evt := rfl
@[simp] theorem State.setCore_teu (s : State) (c : Nat) (x : CoreSt) : (s.setCore c x).teu = s.teu := rfl
@[simp] theorem State.setCore_dme (s : State) (c : Nat) (x : CoreSt) : (s.setCore c x).dme = s.dme := rfl
@[simp] theorem State.setCore_fuse (s : State) (c : Nat) (x : CoreSt) : (s.setCore c x).fuse = s.fuse := rfl
@[simp] theorem State.setCore_lcs (s : State) (c : Nat) (x : CoreSt) : (s.setCore c x).lcs = s.lcs := rfl
@[simp] theorem State.setCore_boot (s : State) (c : Nat) (x : CoreSt) : (s.setCore c x).boot = s.boot := rfl
@[simp] theorem State.setCore_eth (s : State) (c : Nat) (x : CoreSt) : (s.setCore c x).eth = s.eth := rfl
@[simp] theorem State.setCore_twp (s : State) (c : Nat) (x : CoreSt) : (s.setCore c x).twp = s.twp := rfl

/-! ## `State.modCore` changes `cores` alone -/

@[simp] theorem State.modCore_pending (s : State) (c : Nat) (f : CoreSt → CoreSt) : (s.modCore c f).pending = s.pending := rfl
@[simp] theorem State.modCore_variant (s : State) (c : Nat) (f : CoreSt → CoreSt) : (s.modCore c f).variant = s.variant := rfl
@[simp] theorem State.modCore_time (s : State) (c : Nat) (f : CoreSt → CoreSt) : (s.modCore c f).time = s.time := rfl
@[simp] theorem State.modCore_regs (s : State) (c : Nat) (f : CoreSt → CoreSt) : (s.modCore c f).regs = s.regs := rfl
@[simp] theorem State.modCore_mem (s : State) (c : Nat) (f : CoreSt → CoreSt) : (s.modCore c f).mem = s.mem := rfl
@[simp] theorem State.modCore_flips (s : State) (c : Nat) (f : CoreSt → CoreSt) : (s.modCore c f).flips = s.flips := rfl
@[simp] theorem State.modCore_freeCtr (s : State) (c : Nat) (f : CoreSt → CoreSt) : (s.modCore c f).freeCtr = s.freeCtr := rfl
@[simp] theorem State.modCore_rdata (s : State) (c : Nat) (f : CoreSt → CoreSt) : (s.modCore c f).rdata = s.rdata := rfl
@[simp] theorem State.modCore_rerr (s : State) (c : Nat) (f : CoreSt → CoreSt) : (s.modCore c f).rerr = s.rerr := rfl
@[simp] theorem State.modCore_pow (s : State) (c : Nat) (f : CoreSt → CoreSt) : (s.modCore c f).pow = s.pow := rfl
@[simp] theorem State.modCore_hic (s : State) (c : Nat) (f : CoreSt → CoreSt) : (s.modCore c f).hic = s.hic := rfl
@[simp] theorem State.modCore_qm (s : State) (c : Nat) (f : CoreSt → CoreSt) : (s.modCore c f).qm = s.qm := rfl
@[simp] theorem State.modCore_jrn (s : State) (c : Nat) (f : CoreSt → CoreSt) : (s.modCore c f).jrn = s.jrn := rfl
@[simp] theorem State.modCore_caer (s : State) (c : Nat) (f : CoreSt → CoreSt) : (s.modCore c f).caer = s.caer := rfl
@[simp] theorem State.modCore_tim (s : State) (c : Nat) (f : CoreSt → CoreSt) : (s.modCore c f).tim = s.tim := rfl
@[simp] theorem State.modCore_act (s : State) (c : Nat) (f : CoreSt → CoreSt) : (s.modCore c f).act = s.act := rfl
@[simp] theorem State.modCore_afe (s : State) (c : Nat) (f : CoreSt → CoreSt) : (s.modCore c f).afe = s.afe := rfl
@[simp] theorem State.modCore_flt (s : State) (c : Nat) (f : CoreSt → CoreSt) : (s.modCore c f).flt = s.flt := rfl
@[simp] theorem State.modCore_evt (s : State) (c : Nat) (f : CoreSt → CoreSt) : (s.modCore c f).evt = s.evt := rfl
@[simp] theorem State.modCore_teu (s : State) (c : Nat) (f : CoreSt → CoreSt) : (s.modCore c f).teu = s.teu := rfl
@[simp] theorem State.modCore_dme (s : State) (c : Nat) (f : CoreSt → CoreSt) : (s.modCore c f).dme = s.dme := rfl
@[simp] theorem State.modCore_fuse (s : State) (c : Nat) (f : CoreSt → CoreSt) : (s.modCore c f).fuse = s.fuse := rfl
@[simp] theorem State.modCore_lcs (s : State) (c : Nat) (f : CoreSt → CoreSt) : (s.modCore c f).lcs = s.lcs := rfl
@[simp] theorem State.modCore_boot (s : State) (c : Nat) (f : CoreSt → CoreSt) : (s.modCore c f).boot = s.boot := rfl
@[simp] theorem State.modCore_eth (s : State) (c : Nat) (f : CoreSt → CoreSt) : (s.modCore c f).eth = s.eth := rfl
@[simp] theorem State.modCore_twp (s : State) (c : Nat) (f : CoreSt → CoreSt) : (s.modCore c f).twp = s.twp := rfl

/-! ## `State.mwr` changes `mem` alone -/

@[simp] theorem State.mwr_pending (s : State) (a k v : Nat) : (s.mwr a k v).pending = s.pending := rfl
@[simp] theorem State.mwr_variant (s : State) (a k v : Nat) : (s.mwr a k v).variant = s.variant := rfl
@[simp] theorem State.mwr_time (s : State) (a k v : Nat) : (s.mwr a k v).time = s.time := rfl
@[simp] theorem State.mwr_regs (s : State) (a k v : Nat) : (s.mwr a k v).regs = s.regs := rfl
@[simp] theorem State.mwr_flips (s : State) (a k v : Nat) : (s.mwr a k v).flips = s.flips := rfl
@[simp] theorem State.mwr_freeCtr (s : State) (a k v : Nat) : (s.mwr a k v).freeCtr = s.freeCtr := rfl
@[simp] theorem State.mwr_rdata (s : State) (a k v : Nat) : (s.mwr a k v).rdata = s.rdata := rfl
@[simp] theorem State.mwr_rerr (s : State) (a k v : Nat) : (s.mwr a k v).rerr = s.rerr := rfl
@[simp] theorem State.mwr_pow (s : State) (a k v : Nat) : (s.mwr a k v).pow = s.pow := rfl
@[simp] theorem State.mwr_hic (s : State) (a k v : Nat) : (s.mwr a k v).hic = s.hic := rfl
@[simp] theorem State.mwr_qm (s : State) (a k v : Nat) : (s.mwr a k v).qm = s.qm := rfl
@[simp] theorem State.mwr_cores (s : State) (a k v : Nat) : (s.mwr a k v).cores = s.cores := rfl
@[simp] theorem State.mwr_jrn (s : State) (a k v : Nat) : (s.mwr a k v).jrn = s.jrn := rfl
@[simp] theorem State.mwr_caer (s : State) (a k v : Nat) : (s.mwr a k v).caer = s.caer := rfl
@[simp] theorem State.mwr_tim (s : State) (a k v : Nat) : (s.mwr a k v).tim = s.tim := rfl
@[simp] theorem State.mwr_act (s : State) (a k v : Nat) : (s.mwr a k v).act = s.act := rfl
@[simp] theorem State.mwr_afe (s : State) (a k v : Nat) : (s.mwr a k v).afe = s.afe := rfl
@[simp] theorem State.mwr_flt (s : State) (a k v : Nat) : (s.mwr a k v).flt = s.flt := rfl
@[simp] theorem State.mwr_evt (s : State) (a k v : Nat) : (s.mwr a k v).evt = s.evt := rfl
@[simp] theorem State.mwr_teu (s : State) (a k v : Nat) : (s.mwr a k v).teu = s.teu := rfl
@[simp] theorem State.mwr_dme (s : State) (a k v : Nat) : (s.mwr a k v).dme = s.dme := rfl
@[simp] theorem State.mwr_fuse (s : State) (a k v : Nat) : (s.mwr a k v).fuse = s.fuse := rfl
@[simp] theorem State.mwr_lcs (s : State) (a k v : Nat) : (s.mwr a k v).lcs = s.lcs := rfl
@[simp] theorem State.mwr_boot (s : State) (a k v : Nat) : (s.mwr a k v).boot = s.boot := rfl
@[simp] theorem State.mwr_eth (s : State) (a k v : Nat) : (s.mwr a k v).eth = s.eth := rfl
@[simp] theorem State.mwr_twp (s : State) (a k v : Nat) : (s.mwr a k v).twp = s.twp := rfl

/-! ## `State.cfgErr` changes `regs` alone -/

@[simp] theorem State.cfgErr_pending (s : State) (a : Nat) : (s.cfgErr a).pending = s.pending := State.set_pending s _ _ _
@[simp] theorem State.cfgErr_variant (s : State) (a : Nat) : (s.cfgErr a).variant = s.variant := State.set_variant s _ _ _
@[simp] theorem State.cfgErr_time (s : State) (a : Nat) : (s.cfgErr a).time = s.time := State.set_time s _ _ _
@[simp] theorem State.cfgErr_mem (s : State) (a : Nat) : (s.cfgErr a).mem = s.mem := State.set_mem s _ _ _
@[simp] theorem State.cfgErr_flips (s : State) (a : Nat) : (s.cfgErr a).flips = s.flips := State.set_flips s _ _ _
@[simp] theorem State.cfgErr_freeCtr (s : State) (a : Nat) : (s.cfgErr a).freeCtr = s.freeCtr := State.set_freeCtr s _ _ _
@[simp] theorem State.cfgErr_rdata (s : State) (a : Nat) : (s.cfgErr a).rdata = s.rdata := State.set_rdata s _ _ _
@[simp] theorem State.cfgErr_rerr (s : State) (a : Nat) : (s.cfgErr a).rerr = s.rerr := State.set_rerr s _ _ _
@[simp] theorem State.cfgErr_pow (s : State) (a : Nat) : (s.cfgErr a).pow = s.pow := State.set_pow s _ _ _
@[simp] theorem State.cfgErr_hic (s : State) (a : Nat) : (s.cfgErr a).hic = s.hic := State.set_hic s _ _ _
@[simp] theorem State.cfgErr_qm (s : State) (a : Nat) : (s.cfgErr a).qm = s.qm := State.set_qm s _ _ _
@[simp] theorem State.cfgErr_cores (s : State) (a : Nat) : (s.cfgErr a).cores = s.cores := State.set_cores s _ _ _
@[simp] theorem State.cfgErr_jrn (s : State) (a : Nat) : (s.cfgErr a).jrn = s.jrn := State.set_jrn s _ _ _
@[simp] theorem State.cfgErr_caer (s : State) (a : Nat) : (s.cfgErr a).caer = s.caer := State.set_caer s _ _ _
@[simp] theorem State.cfgErr_tim (s : State) (a : Nat) : (s.cfgErr a).tim = s.tim := State.set_tim s _ _ _
@[simp] theorem State.cfgErr_act (s : State) (a : Nat) : (s.cfgErr a).act = s.act := State.set_act s _ _ _
@[simp] theorem State.cfgErr_afe (s : State) (a : Nat) : (s.cfgErr a).afe = s.afe := State.set_afe s _ _ _
@[simp] theorem State.cfgErr_flt (s : State) (a : Nat) : (s.cfgErr a).flt = s.flt := State.set_flt s _ _ _
@[simp] theorem State.cfgErr_evt (s : State) (a : Nat) : (s.cfgErr a).evt = s.evt := State.set_evt s _ _ _
@[simp] theorem State.cfgErr_teu (s : State) (a : Nat) : (s.cfgErr a).teu = s.teu := State.set_teu s _ _ _
@[simp] theorem State.cfgErr_dme (s : State) (a : Nat) : (s.cfgErr a).dme = s.dme := State.set_dme s _ _ _
@[simp] theorem State.cfgErr_fuse (s : State) (a : Nat) : (s.cfgErr a).fuse = s.fuse := State.set_fuse s _ _ _
@[simp] theorem State.cfgErr_lcs (s : State) (a : Nat) : (s.cfgErr a).lcs = s.lcs := State.set_lcs s _ _ _
@[simp] theorem State.cfgErr_boot (s : State) (a : Nat) : (s.cfgErr a).boot = s.boot := State.set_boot s _ _ _
@[simp] theorem State.cfgErr_eth (s : State) (a : Nat) : (s.cfgErr a).eth = s.eth := State.set_eth s _ _ _
@[simp] theorem State.cfgErr_twp (s : State) (a : Nat) : (s.cfgErr a).twp = s.twp := State.set_twp s _ _ _

/-! ## A free value draws from the counter alone -/

@[simp] theorem State.free_pending (s : State) : s.free.2.pending = s.pending := rfl
@[simp] theorem State.free_variant (s : State) : s.free.2.variant = s.variant := rfl
@[simp] theorem State.free_time (s : State) : s.free.2.time = s.time := rfl
@[simp] theorem State.free_regs (s : State) : s.free.2.regs = s.regs := rfl
@[simp] theorem State.free_mem (s : State) : s.free.2.mem = s.mem := rfl
@[simp] theorem State.free_flips (s : State) : s.free.2.flips = s.flips := rfl
@[simp] theorem State.free_rdata (s : State) : s.free.2.rdata = s.rdata := rfl
@[simp] theorem State.free_rerr (s : State) : s.free.2.rerr = s.rerr := rfl
@[simp] theorem State.free_pow (s : State) : s.free.2.pow = s.pow := rfl
@[simp] theorem State.free_hic (s : State) : s.free.2.hic = s.hic := rfl
@[simp] theorem State.free_qm (s : State) : s.free.2.qm = s.qm := rfl
@[simp] theorem State.free_cores (s : State) : s.free.2.cores = s.cores := rfl
@[simp] theorem State.free_jrn (s : State) : s.free.2.jrn = s.jrn := rfl
@[simp] theorem State.free_caer (s : State) : s.free.2.caer = s.caer := rfl
@[simp] theorem State.free_tim (s : State) : s.free.2.tim = s.tim := rfl
@[simp] theorem State.free_act (s : State) : s.free.2.act = s.act := rfl
@[simp] theorem State.free_afe (s : State) : s.free.2.afe = s.afe := rfl
@[simp] theorem State.free_flt (s : State) : s.free.2.flt = s.flt := rfl
@[simp] theorem State.free_evt (s : State) : s.free.2.evt = s.evt := rfl
@[simp] theorem State.free_teu (s : State) : s.free.2.teu = s.teu := rfl
@[simp] theorem State.free_dme (s : State) : s.free.2.dme = s.dme := rfl
@[simp] theorem State.free_fuse (s : State) : s.free.2.fuse = s.fuse := rfl
@[simp] theorem State.free_lcs (s : State) : s.free.2.lcs = s.lcs := rfl
@[simp] theorem State.free_boot (s : State) : s.free.2.boot = s.boot := rfl
@[simp] theorem State.free_eth (s : State) : s.free.2.eth = s.eth := rfl
@[simp] theorem State.free_twp (s : State) : s.free.2.twp = s.twp := rfl

/-! ## What the updates write -/

@[simp] theorem State.raise_hic (s : State) (n : Nat) :
    (s.raise n).hic = { s.hic with inflight := s.hic.inflight ++ [n] } := rfl

@[simp] theorem State.hand_jrn (s : State) (f : JFrom) (l : List Rec) :
    (s.hand f l).jrn = { s.jrn with handed := s.jrn.handed ++ [{ frm := f, recs := l, events := s.sentBy f.island }] } := rfl

@[simp] theorem State.raise_rd (s : State) (n a : Nat) : (s.raise n).rd a = s.rd a := rfl
@[simp] theorem State.raise_get (s : State) (n a : Nat) (f : Fld) : (s.raise n).get a f = s.get a f := rfl
@[simp] theorem State.raise_core (s : State) (n c : Nat) : (s.raise n).core c = s.core c := rfl
@[simp] theorem State.hand_rd (s : State) (f : JFrom) (l : List Rec) (a : Nat) : (s.hand f l).rd a = s.rd a := rfl
@[simp] theorem State.hand_get (s : State) (f : JFrom) (l : List Rec) (a : Nat) (g : Fld) : (s.hand f l).get a g = s.get a g := rfl
@[simp] theorem State.hand_core (s : State) (f : JFrom) (l : List Rec) (c : Nat) : (s.hand f l).core c = s.core c := rfl
@[simp] theorem State.wr_core (s : State) (a : Nat) (v : Word) (c : Nat) : (s.wr a v).core c = s.core c := rfl
@[simp] theorem State.set_core (s : State) (a : Nat) (f : Fld) (v c : Nat) : (s.set a f v).core c = s.core c := rfl
@[simp] theorem State.setCore_rd (s : State) (c : Nat) (x : CoreSt) (a : Nat) : (s.setCore c x).rd a = s.rd a := rfl
@[simp] theorem State.setCore_get (s : State) (c : Nat) (x : CoreSt) (a : Nat) (f : Fld) : (s.setCore c x).get a f = s.get a f := rfl
@[simp] theorem State.modCore_rd (s : State) (c : Nat) (f : CoreSt → CoreSt) (a : Nat) : (s.modCore c f).rd a = s.rd a := rfl
@[simp] theorem State.modCore_get (s : State) (c : Nat) (f : CoreSt → CoreSt) (a : Nat) (g : Fld) :
    (s.modCore c f).get a g = s.get a g := rfl
@[simp] theorem State.mwr_rd (s : State) (a k v b : Nat) : (s.mwr a k v).rd b = s.rd b := rfl

/-- A core's new state, and the others as before. -/
theorem State.core_setCore (s : State) (c d : Nat) (x : CoreSt) : (s.setCore c x).core d = if c = d then x else s.core d := by
  simp [State.core, State.setCore, tget_tset]

/-- A core changed, and the others as before. -/
theorem State.core_modCore (s : State) (c d : Nat) (f : CoreSt → CoreSt) :
    (s.modCore c f).core d = if c = d then f (s.core c) else s.core d := by
  simp [State.modCore, State.core_setCore]

/-- A gather register written, and the others as before (R179). -/
theorem CoreSt.gr_setG (x : CoreSt) (r q : Nat) (v : Word) : (x.setG r v).gr q = if r = q then v else x.gr q := by
  simp [CoreSt.gr, CoreSt.setG, tget_tset]

end Sys2Proof.Machine
end

