-- ==== Sys2Proof/Laws/Ops.lean ====
section
/-! SUPPORT. What the operations that every unit shares can do, one lemma each: memory with its error correction, registers, the
arbitration of interrupts, faults of a core, and commands that answer a next state. -/

namespace Sys2Proof.Machine

open Sys2Proof

/-! ## Commands -/

/-- A command whose effect is a state does what holds of that state. -/
theorem does_of_next {s t : State} {i : Instr} {P : State → Prop} (h : exec i s = .next t) (p : P t) : s.does i P := ⟨t, h, p⟩

/-- What a command does, where its effect is known. -/
theorem does_iff {s t : State} {i : Instr} {P : State → Prop} (h : exec i s = .next t) : s.does i P ↔ P t := by
  constructor
  · intro ⟨u, hu, p⟩
    rw [h] at hu
    injection hu with e
    exact e ▸ p
  · exact fun p => ⟨t, h, p⟩

/-! ## Registers -/

theorem cfgErr_eq (s : State) (a : Nat) : s.cfgErr a = { s with regs := (s.cfgErr a).regs } := rfl

/-- A store by the access codes changes registers alone: the one stored to, and the unit's status for a reserved encoding. -/
theorem storeReg_eq (s : State) (a : Nat) (v : Word) : s.storeReg a v = { s with regs := (s.storeReg a v).regs } := by
  unfold State.storeReg
  split
  · rfl
  · simp only; split <;> rfl

theorem storeReg_rd (s : State) (a b : Nat) (v : Word) (h : b ≠ a) (k : b ≠ statusOf a) : (s.storeReg a v).rd b = s.rd b := by
  unfold State.storeReg
  split
  · rfl
  · simp only
    split
    · unfold State.cfgErr; rw [rd_set, if_neg (Ne.symm k), rd_wr, if_neg (Ne.symm h)]
    · rw [rd_wr, if_neg (Ne.symm h)]

theorem setBit_eq (s : State) (a n : Nat) (b : Bool) : s.setBit a n b = { s with regs := (s.setBit a n b).regs } := rfl
theorem bumpSat_eq (s : State) (a : Nat) (f : Fld) (k : Nat) : s.bumpSat a f k = { s with regs := (s.bumpSat a f k).regs } := rfl

/-! ## Memory -/

/-- A corrected error, and an uncorrectable one, change the error registers and send source 5. -/
theorem eccCorr_eq (s : State) : ∃ r, s.eccCorr = { s with regs := r } := by
  unfold State.eccCorr
  split <;> exact ⟨_, rfl⟩

theorem set_eq (s : State) (a : Nat) (f : Fld) (v : Nat) : ∃ r, s.set a f v = { s with regs := r } := ⟨_, rfl⟩

theorem eccInfo_eq (s : State) (m a y : Nat) : ∃ r, (((s.set SYS_ECC_INFO SYS_ECC_INFO_V 1).set SYS_ECC_INFO SYS_ECC_INFO_MEM m).set
    SYS_ECC_INFO SYS_ECC_INFO_SYNDROME y).wr SYS_ECC_ADDR (BitVec.ofNat 32 a) = { s with regs := r } := by
  obtain ⟨r1, h1⟩ := set_eq s SYS_ECC_INFO SYS_ECC_INFO_V 1
  rw [h1]
  obtain ⟨r2, h2⟩ := set_eq { s with regs := r1 } SYS_ECC_INFO SYS_ECC_INFO_MEM m
  rw [h2]
  obtain ⟨r3, h3⟩ := set_eq { s with regs := r2 } SYS_ECC_INFO SYS_ECC_INFO_SYNDROME y
  rw [h3]
  exact ⟨_, rfl⟩

theorem eccBad_eq (s : State) (m a y : Nat) : ∃ r h, s.eccBad m a y = { s with regs := r, hic := h } := by
  have key : ∀ u r, u = { s with regs := r } → ∃ r h, ((if u.flag SYS_ECC_INFO SYS_ECC_INFO_V then u else
      (((u.set SYS_ECC_INFO SYS_ECC_INFO_V 1).set SYS_ECC_INFO SYS_ECC_INFO_MEM m).set
        SYS_ECC_INFO SYS_ECC_INFO_SYNDROME y).wr SYS_ECC_ADDR (BitVec.ofNat 32 a)).raise 5) = { s with regs := r, hic := h } := by
    intro u r hu
    split
    · exact ⟨r, _, congrArg (fun u => u.raise 5) hu⟩
    · obtain ⟨r4, h4⟩ := eccInfo_eq u m a y
      rw [h4, hu]
      exact ⟨_, _, rfl⟩
  unfold State.eccBad
  cases s.fabric
  · exact ⟨_, _, rfl⟩
  · exact key (s.bumpSat SYS_ECC_CNT SYS_ECC_CNT_UNCORR 1) _ (set_eq s _ _ _).choose_spec

/-- The outcomes of a check: nothing, a word put right, or a report. -/
theorem check_cases (s : State) (a : Nat) : s.check a = (s, false) ∨
    (∃ w l f r, s.check a = ({ s with mem := mwrites s.mem w l, flips := f, regs := r }, false)) ∨
    ∃ r h, s.check a = ({ s with regs := r, hic := h }, true) := by
  unfold State.check
  cases protOf (regionOf a) with
  | none => exact .inl rfl
  | some x =>
    obtain ⟨p, size, code⟩ := x
    simp only
    by_cases e : tget s.flips 0 (a / size * size) = 0
    · exact .inl (if_pos e)
    · rw [if_neg e]
      cases p with
      | secded bits =>
        simp only
        cases judge bits (syndromeOf bits (tget s.flips 0 (a / size * size))) with
        | clean => exact .inr (.inl ⟨_, _, _, _, rfl⟩)
        | single pos =>
          obtain ⟨r, h⟩ := eccCorr_eq { s with
            mem := mwrites s.mem (a / size * size) (bytesLE size (s.mrd (a / size * size) size ^^^
              dataError bits (tget s.flips 0 (a / size * size) ^^^ 2 ^ pos)))
            flips := tdel s.flips (a / size * size) }
          exact .inr (.inl ⟨_, _, _, _, congrArg (·, false) h⟩)
        | bad =>
          obtain ⟨r, h, e⟩ := eccBad_eq s code (a / size * size) (syndromeOf bits (tget s.flips 0 (a / size * size)))
          exact .inr (.inr ⟨_, _, congrArg (·, true) e⟩)
      | perByte =>
        simp only
        split
        · exact .inl rfl
        · obtain ⟨r, h, e⟩ := eccBad_eq s code (a / size * size) (parityFails .perByte (tget s.flips 0 (a / size * size)))
          exact .inr (.inr ⟨_, _, congrArg (·, true) e⟩)
      | groups =>
        simp only
        split
        · exact .inl rfl
        · obtain ⟨r, h, e⟩ := eccBad_eq s code (a / size * size) (parityFails .groups (tget s.flips 0 (a / size * size)))
          exact .inr (.inr ⟨_, _, congrArg (·, true) e⟩)

/-- The check of a protected word changes nothing but that word, its errors, the error registers and source 5. -/
theorem check_eq (s : State) (a : Nat) : (s.check a).1 =
    { s with mem := (s.check a).1.mem, flips := (s.check a).1.flips, regs := (s.check a).1.regs, hic := (s.check a).1.hic } := by
  obtain h | ⟨_, _, _, _, h⟩ | ⟨_, _, h⟩ := check_cases s a <;> rw [h]

/-- A word without errors passes its check, and nothing changes. -/
theorem check_clean (s : State) (a : Nat) (h : ∀ w, tget s.flips 0 w = 0) : s.check a = (s, false) := by
  unfold State.check
  split
  · rfl
  · simp only [h, if_true]

theorem hidden_clean (s : State) (a k : Nat) (h : ∀ w, tget s.flips 0 w = 0) : s.hidden a k = 0 := by
  unfold State.hidden
  split <;> simp [h]

/-- A load of a memory whose words hold no error answers its bytes and changes nothing. -/
theorem memLoad_clean (s : State) (a k : Nat) (h : ∀ w, tget s.flips 0 w = 0) : s.memLoad a k = (s, s.mrd a k, false) := by
  simp [State.memLoad, check_clean s a h, hidden_clean s a k h]

theorem memLoad_eq (s : State) (a k : Nat) : (s.memLoad a k).1 = (s.check a).1 := by
  unfold State.memLoad
  simp only
  split <;> rfl

/-- A store to a memory changes nothing but bytes, errors, the error registers and source 5. -/
theorem memStore_eq (s : State) (a k v : Nat) : (s.memStore a k v).1 =
    { s with mem := (s.memStore a k v).1.mem, flips := (s.memStore a k v).1.flips, regs := (s.memStore a k v).1.regs
             hic := (s.memStore a k v).1.hic } := by
  have hc := check_eq s a
  unfold State.memStore
  split
  · rfl
  · simp only
    split
    · split
      · rfl
      · split
        · exact hc
        · simp only [State.mwr]
          rw [hc]
    · rfl

/-- A store to a memory whose words hold no error writes its bytes and nothing else. -/
theorem memStore_clean (s : State) (a k v : Nat) (h : ∀ w, tget s.flips 0 w = 0) (p : (protOf (regionOf a)).isSome = true) :
    (s.memStore a k v).2 = false ∧ (s.memStore a k v).1.mem = mwrites s.mem a (bytesLE k v) ∧
      ∀ w, tget (s.memStore a k v).1.flips 0 w = 0 := by
  unfold State.memStore
  split
  · simp_all
  · simp only [check_clean s a h]
    repeat' split
    all_goals simp_all [State.mwr, tget_tdel]

/-! ## The canonical form -/

theorem wf_mwr (s : State) (a k v : Nat) (h : s.Inv) : (s.mwr a k v).Inv := wf_mwrites _ _ _ h

theorem wf_check (s : State) (a : Nat) (h : s.Inv) : (s.check a).1.Inv := by
  obtain e | ⟨_, _, _, _, e⟩ | ⟨_, _, e⟩ := check_cases s a <;> rw [e]
  · exact h
  · exact wf_mwrites _ _ _ h
  · exact h

theorem wf_memLoad (s : State) (a k : Nat) (h : s.Inv) : (s.memLoad a k).1.Inv := by
  rw [memLoad_eq]; exact wf_check s a h

theorem wf_memStore (s : State) (a k v : Nat) (h : s.Inv) : (s.memStore a k v).1.Inv := by
  unfold State.memStore
  split
  · exact h
  · simp only
    split
    · split
      · exact wf_mwrites _ _ _ h
      · split
        · exact wf_check s a h
        · exact wf_mwrites _ _ _ (wf_check s a h)
    · exact wf_mwrites _ _ _ h

/-- Every byte that a program, a table or a queue slot takes goes through a list of writes. -/
theorem wf_putSlot (s : State) (q pos : Nat) (item : Item) (h : s.Inv) : (s.putSlot q pos item).Inv := wf_mwrites _ _ _ h

/-! ## The interrupt controller -/

/-- Arbitration makes offers and nothing else. -/
theorem arbitrate_eq (s : State) : s.arbitrate = { s with hic := s.arbitrate.hic } := by
  have key : ∀ (l : List Nat) (u : State), ∃ x, l.foldl (fun s c =>
      if s.eligible c && !(s.candidates c).isEmpty then s.modHc c fun x => { x with offer := true } else s) u = { u with hic := x } := by
    intro l
    induction l with
    | nil => exact fun u => ⟨u.hic, rfl⟩
    | cons c r ih =>
      intro u
      simp only [List.foldl]
      split
      · obtain ⟨x, hx⟩ := ih (u.modHc c fun x => { x with offer := true })
        exact ⟨x, hx.trans rfl⟩
      · exact ih u
  obtain ⟨x, hx⟩ := key (List.range 9) s
  unfold State.arbitrate
  rw [hx]

/-- A wake cause changes registers, offers and the power unit's state. -/
theorem wake_eq (s : State) (cause src : Nat) : s.wake cause src =
    { s with regs := (s.wake cause src).regs, hic := (s.wake cause src).hic, pow := (s.wake cause src).pow } := by
  unfold State.wake
  split
  · simp only
    rw [arbitrate_eq]
    rfl
  · split <;> rfl

/-- Reservations change the interrupt controller alone. -/
theorem reserves_eq (l : List Nat) (s : State) : l.foldl State.reserve s = { s with hic := (l.foldl State.reserve s).hic } := by
  induction l generalizing s with
  | nil => rfl
  | cons src r ih =>
    have h : s.reserve src = { s with hic := (s.reserve src).hic } := by
      unfold State.reserve
      split
      · rfl
      · split <;> rfl
    rw [List.foldl, ih, h]

theorem wakeFor_eq (s : State) (l : List Nat) : s.wakeFor l =
    { s with regs := (s.wakeFor l).regs, hic := (s.wakeFor l).hic, pow := (s.wakeFor l).pow } := by
  unfold State.wakeFor
  split
  · rfl
  · rename_i src _
    rw [wake_eq, reserves_eq]

/-- What follows a change of the pending, service or mask state: offers, and perhaps a wake. -/
theorem settle_eq (s : State) : s.settle =
    { s with regs := s.settle.regs, hic := s.settle.hic, pow := s.settle.pow } := by
  unfold State.settle State.wakeCheck
  have h := arbitrate_eq s
  split
  · rw [wakeFor_eq, h]
  · rw [h]

/-! ## Buses -/

/-- A store ends with a bus error, is refused, or takes effect at its address. -/
theorem busStore_cases (s : State) (r : Req) (a k v : Nat) :
    (∃ e, s.busErr r a k true = some e ∧ s.busStore r a k v = (s.errRaise e, some e)) ∨
    (s.busErr r a k true = none ∧ s.mayStore r a = false ∧ s.busStore r a k v = (s.denied, none)) ∨
    (s.busErr r a k true = none ∧ s.mayStore r a = true ∧
      s.busStore r a k v =
        ((s.storeAt r (s.heldIx r) a k v).1, if (s.storeAt r (s.heldIx r) a k v).2 then some .ecc else none)) := by
  unfold State.busStore State.busStoreHeld
  split
  · exact .inl ⟨_, ‹_›, rfl⟩
  · cases h : s.mayStore r a
    · exact .inr (.inl ⟨‹_›, rfl, by simp⟩)
    · exact .inr (.inr ⟨‹_›, rfl, by simp⟩)

/-- A bus error but for ABSENT changes nothing; ABSENT sends source 6. -/
theorem errRaise_eq (s : State) (e : BusErr) : s.errRaise e = { s with hic := (s.errRaise e).hic } := by
  unfold State.errRaise
  split <;> rfl

theorem denied_eq (s : State) : s.denied = { s with regs := s.denied.regs, hic := s.denied.hic } := by
  unfold State.denied
  split <;> rfl

end Sys2Proof.Machine
end

