-- ==== Sys2Proof/Laws/Cpu.lean ====
section
/-! SUPPORT. What an instruction of a core does to FLAGS and to the core's registers: the lemmas from which its statement follows. -/

namespace Sys2Proof.Machine

open Sys2Proof

theorem flagAt_putFlag (f : Flags) (i j : Nat) (b : Bool) (hi : i < 7) (hj : j < 7) :
    flagAt (putFlag f i b) j = if i = j then b else flagAt f j := by
  simp only [flagAt, putFlag, BitVec.toNat_ofNat, Nat.testBit_mod_two_pow, setBitsOf_testBit]
  by_cases h : i = j
  · subst h; cases b <;> simp [hi]
  · by_cases h1 : j < i
    · simp [hj, h1, h]
    · simp [hj, h1, show ¬ j < i + 1 by omega, h]

theorem moveTo_eq (x : CoreSt) (c : Nat) (pc : Word) : ∃ r, x.moveTo c pc = { x with pc := pc, requested := r } := by
  unfold CoreSt.moveTo CoreSt.want CoreSt.ask
  split
  · split <;> split <;> exact ⟨_, rfl⟩
  · exact ⟨_, rfl⟩

theorem check_cores (s : State) (a : Nat) : (s.check a).1.cores = s.cores := by rw [check_eq]

theorem checks_cores (l : List Nat) (g : Nat → Nat) (s : State) : (l.foldl (fun s n => (s.check (g n)).1) s).cores = s.cores := by
  induction l generalizing s with
  | nil => rfl
  | cons a r ih => simp only [List.foldl, ih, check_cores]

theorem began_core_g (s : State) (c : Core) (len : Nat) : (∀ q, ((s.began c len).core c).gr q = (s.core c).gr q) ∧
    ((s.began c len).core c).flags = (s.core c).flags ∧ ((s.began c len).core c).pc = (s.core c).pc := by
  unfold State.began
  simp only
  split
  · simp
  · split
    · simp [State.core, checks_cores]
    · simp only [State.core_modCore, if_true]
      unfold CoreSt.executes CoreSt.touch
      simp only
      split <;> exact ⟨fun _ => rfl, rfl, rfl⟩

theorem onlyCore_modCore2 (u : State) (c : Core) (f g : CoreSt → CoreSt) : u.onlyCore ((u.modCore c f).modCore c g) c := by
  refine ⟨rfl, fun d hd => ?_⟩
  simp [State.core_modCore, Ne.symm hd]

/-- What an instruction that works on registers does once it stands at its PC and its condition holds (R183, R184, R217). -/
theorem regOp_completes (s : State) (c : Core) (e : Enc) (i : Instr) (f : CoreSt → CoreSt) (d : Option GReg) (r : Word) (k : NewFlags)
    (hx : exec i s = .next (s.regOp c e i f)) (h : s.stands c e i)
    (hf : ∀ x : CoreSt, (∀ q, x.gr q = (s.core c).gr q) → x.flags = (s.core c).flags → x.pc = (s.core c).pc →
      (∀ q : GReg, (f x).gr q = if d = some q then r else (s.core c).gr q) ∧
      (e.noFlags = false → k.hold e (s.core c).flags (f x).flags) ∧
      f x = { x with g := (f x).g, flags := (f x).flags }) : s.completes c e i d r k := by
  obtain ⟨h1, h2, h3⟩ := h
  obtain ⟨b1, b2, b3⟩ := began_core_g s c e.len
  obtain ⟨f1, f2, f3⟩ := hf ((s.began c e.len).core c) b1 b2 b3
  have hu : (s.regOp c e i f) = ((s.began c e.len).modCore c fun x => keepFlags e x (f x)).modCore c
      fun x => x.moveTo c (nextPc x.pc e.len) := by
    simp only [State.regOp, State.gated, State.issue, h1, h2, b2, h3, if_true, State.advance]
  refine ⟨_, hx, hu ▸ onlyCore_modCore2 _ _ _ _, ?_⟩
  have hc : (s.regOp c e i f).core c = (keepFlags e ((s.began c e.len).core c) (f ((s.began c e.len).core c))).moveTo c
      (nextPc (keepFlags e ((s.began c e.len).core c) (f ((s.began c e.len).core c))).pc e.len) := by
    rw [hu]; simp [State.core_modCore]
  rw [hc]
  generalize hx0 : (s.began c e.len).core c = x0 at *
  obtain ⟨rq, hm⟩ := moveTo_eq (keepFlags e x0 (f x0)) c (nextPc (keepFlags e x0 (f x0)).pc e.len)
  have hpc : (keepFlags e x0 (f x0)).pc = (s.core c).pc := by
    rw [← b3, f3]; unfold keepFlags; split <;> rfl
  refine ⟨?_, ?_, ?_, ?_⟩
  · intro q
    rw [hm]
    have : (keepFlags e x0 (f x0)).gr q = (f x0).gr q := by unfold keepFlags; split <;> rfl
    exact this.trans (f1 q)
  · rw [hm]
    unfold keepFlags NewFlags.hold
    cases hn : e.noFlags
    · simpa [NewFlags.hold, hn] using f2 hn
    · simp [b2]
  · rw [hm, hpc]
  · rw [hm]
    unfold keepFlags
    split <;> (rw [f3])

theorem flagAt_putZN (f : Flags) (r : Word) (j : Nat) (hj : j < 7) :
    flagAt (putZN f r) j = if j = 0 then decide (r = 0) else if j = 1 then r.msb else flagAt f j := by
  unfold putZN
  rw [flagAt_putFlag _ _ _ _ (by decide) hj, flagAt_putFlag _ _ _ _ (by decide) hj]
  by_cases h : j = 1
  · subst h; simp
  · by_cases h0 : j = 0
    · subst h0; simp
    · simp [h, h0, Ne.symm h, Ne.symm h0]
theorem flagAt_putC (f : Flags) (b : Bool) (j : Nat) (hj : j < 7) : flagAt (putC f b) j = if j = 2 then b else flagAt f j := by
  unfold putC; rw [flagAt_putFlag _ _ _ _ (by decide) hj]; simp [eq_comm]
theorem flagAt_putV (f : Flags) (b : Bool) (j : Nat) (hj : j < 7) :
    flagAt (putV f b) j = if j = 3 then b else if j = 6 then b || flagAt f j else flagAt f j := by
  unfold putV
  cases b
  · simp only [Bool.false_eq_true, if_false, Bool.false_or]
    rw [flagAt_putFlag _ _ _ _ (by decide) hj]
    by_cases h : j = 3
    · simp [h]
    · by_cases h6 : j = 6 <;> simp [h, h6, Ne.symm h]
  · simp only [if_true, Bool.true_or]
    rw [flagAt_putFlag _ _ _ _ (by decide) hj, flagAt_putFlag _ _ _ _ (by decide) hj]
    by_cases h : j = 3
    · simp [h]
    · by_cases h6 : j = 6 
      · simp [h6]
      · simp [h, h6, Ne.symm h, Ne.symm h6]

theorem znOf_hold (e : Enc) (f : Flags) (r : Word) : e.noFlags = false → (znOf r).hold e f (putZN f r) := by
  intro h; simp [NewFlags.hold, h, znOf, flagAt_putZN]
theorem zncvOf_hold (e : Enc) (f : Flags) (r : Word) (c v : Bool) : e.noFlags = false → (zncvOf r c v).hold e f (putV (putC (putZN f r) c) v) := by
  intro h; simp [NewFlags.hold, h, zncvOf, flagAt_putZN, flagAt_putC, flagAt_putV]

theorem gr_putAlu (x : CoreSt) (d : GReg) (a : Alu) (q : GReg) : (x.putAlu d a).gr q = if some d = some q then a.res else x.gr q := by
  have : (x.putAlu d a).gr q = (x.setG d a.res).gr q := rfl
  rw [this, CoreSt.gr_setG]
  by_cases h : d = q
  · simp [h]
  · simp [h, Fin.val_ne_of_ne h]

/-- The same for an instruction that writes one result with its flags. -/
theorem alu_completes (s : State) (c : Core) (e : Enc) (i : Instr) (d : GReg) (al : CoreSt → Alu) (r : Word) (k : NewFlags)
    (hx : exec i s = .next (s.regOp c e i fun x => x.putAlu d (al x))) (h : s.stands c e i)
    (hf : ∀ x : CoreSt, (∀ q, x.gr q = (s.core c).gr q) → x.flags = (s.core c).flags →
      (al x).res = r ∧ (e.noFlags = false → k.hold e (s.core c).flags (al x).flags)) : s.completes c e i (some d) r k := by
  apply regOp_completes s c e i _ _ _ _ hx h
  intro x x1 x2 _
  obtain ⟨a1, a2⟩ := hf x x1 x2
  refine ⟨fun q => ?_, a2, rfl⟩
  rw [gr_putAlu, a1, x1]

theorem signed_overflow_eq (x y : Word) (cin : Bool) :
   (x.msb == y.msb && (BitVec.ofNat 32 (x.toNat + y.toNat + cin.toNat)).msb != x.msb) = outOfRange (x.toInt + y.toInt + cin.toNat) := by
  have hx := x.isLt; have hy := y.isLt
  simp only [outOfRange, BitVec.msb_eq_decide, BitVec.toInt_eq_toNat_cond, BitVec.toNat_ofNat]
  rw [Bool.eq_iff_iff]
  simp only [Bool.and_eq_true, Bool.or_eq_true, decide_eq_true_eq, beq_iff_eq, bne_iff_ne, ne_eq, decide_eq_decide]
  cases cin <;> simp only [Bool.toNat_false, Bool.toNat_true] <;> split <;> split <;> omega
theorem ofNat_sum (x y : Word) (cin : Bool) : BitVec.ofNat 32 (x.toNat + y.toNat + cin.toNat) = x + y + BitVec.ofNat 32 cin.toNat := by
  apply BitVec.eq_of_toNat_eq
  simp [BitVec.toNat_add]

theorem aluAdd_hold (e : Enc) (f : Flags) (x y : Word) (cin : Bool) (hn : e.noFlags = false) :
  (zncvOf (x + y + BitVec.ofNat 32 cin.toNat) (decide (2 ^ 32 ≤ x.toNat + y.toNat + cin.toNat)) (outOfRange (x.toInt + y.toInt + cin.toNat))).hold e f (aluAdd f x y cin).flags := by
  rw [← signed_overflow_eq, ← ofNat_sum]
  exact zncvOf_hold e f _ _ _ hn
theorem toNat_complement (y : Word) : (~~~y).toNat = 2 ^ 32 - 1 - y.toNat := by simp [BitVec.toNat_not]
theorem aluSub_hold (e : Enc) (f : Flags) (x y : Word) (cin : Bool) (hn : e.noFlags = false) :
  (zncvOf (x - y - BitVec.ofNat 32 (!cin).toNat) (decide (y.toNat + (!cin).toNat ≤ x.toNat)) (outOfRange (x.toInt - y.toInt - (!cin).toNat))).hold e f (aluSub f x y cin).flags := by
  have := aluAdd_hold e f x (~~~y) cin hn
  have hy := y.isLt; have hx := x.isLt
  have e1 : x + ~~~y + BitVec.ofNat 32 cin.toNat = x - y - BitVec.ofNat 32 (!cin).toNat := by
    cases cin <;> simp only [Bool.not_true, Bool.not_false, Bool.toNat_true, Bool.toNat_false] <;> bv_omega
  have e2 : decide (2 ^ 32 ≤ x.toNat + (~~~y).toNat + cin.toNat) = decide (y.toNat + (!cin).toNat ≤ x.toNat) := by
    rw [toNat_complement, decide_eq_decide]; cases cin <;> simp <;> omega
  have e3 : x.toInt + (~~~y).toInt + cin.toNat = x.toInt - y.toInt - (!cin).toNat := by
    simp only [BitVec.toInt_eq_toNat_cond, toNat_complement]; cases cin <;> simp <;> split <;> split <;> omega
  rw [e1, e2, e3] at this
  exact this
theorem aluSub_res (f : Flags) (x y : Word) (cin : Bool) : (aluSub f x y cin).res = x - y - BitVec.ofNat 32 (!cin).toNat := by
  show BitVec.ofNat 32 (x.toNat + (~~~y).toNat + cin.toNat) = _
  rw [ofNat_sum]; cases cin <;> simp only [Bool.not_true, Bool.not_false, Bool.toNat_true, Bool.toNat_false] <;> bv_omega

end Sys2Proof.Machine
end

