-- ==== Sys2Proof/WellFormed.lean ====
section
/-! DEFINITION. Which terms of the syntax are commands that can occur: the form of an instruction's encoding, and the lengths that the
commands' carriers bound. `exec` does not rely on it: it gives every term a meaning. -/

namespace Sys2Proof

/-- The length of an encoding (R185, R216): at least one word or byte, at most 8 bytes, and with NOFLAGS a prefix beside the opcode
(R217). -/
def encWf (e : Enc) : Bool := (if e.noFlags then 2 else 1) ≤ e.len && e.len ≤ 8

/-- An encoding of an operation that does not accept NOFLAGS (R219, R222). -/
def encPlain (e : Enc) : Bool := encWf e && !e.noFlags

/-- An encoding of a run that has no stop condition (R209). -/
def encRun (e : Enc) : Bool := encPlain e && e.cond = .al

/-- A command frame's LEN has 16 bits (R465). -/
def frameWf (f : UFrame) : Bool := f.len < 2 ^ 16

/-- A command that is none of R466's. -/
def unlistedWf : VendorOp → Bool
  | .other c => !(1 ≤ c.toNat && c.toNat ≤ 10)
  | .toMaker | .toOpen => true

/-- The command can occur. -/
def wellFormed : Instr → Bool
  | .add _ e _ _ | .sub _ e _ _ | .adc _ e _ _ | .sbc _ e _ _ | .and _ e _ _ | .or _ e _ _ | .xor _ e _ _ | .neg _ e _
  | .not _ e _ | .mul _ e _ _ | .mulh _ e _ _ | .mulhu _ e _ _ | .div _ e _ _ | .divu _ e _ _ | .rem _ e _ _
  | .remu _ e _ _ | .shl _ e _ _ | .shr _ e _ _ | .sar _ e _ _ | .ror _ e _ _ | .addi _ e _ _ | .par _ e _ | .brev _ e _
  | .brevb _ e _ => encWf e
  | .nop _ e | .mov _ e _ _ | .movFromSpecial _ e _ _ | .cmp _ e _ _ | .tst _ e _ _ | .movi _ e _ _ | .ld _ e _ _ _
  | .ldh _ e _ _ _ | .ldb _ e _ _ _ | .st _ e _ _ _ | .sth _ e _ _ _ | .stb _ e _ _ _ | .br _ e _ | .call _ e _
  | .callReg _ e _ | .ret _ e | .jr _ e _ | .reti _ e | .sleep _ e | .waitev _ e | .ckpt _ e | .crcb _ e _ | .crcw _ e _
  | .xcpy _ e | .xfil _ e | .xcmp _ e | .xfnd _ e | .xcrc _ e | .xcmpRun _ e | .xfndRun _ e | .tstc _ e _ => encPlain e
  | .xcpyRun _ e | .xfilRun _ e | .xcrcRun _ e => encRun e
  | .movToSpecial _ e k _ => encPlain e && k != .pcView
  | .reservedEncoding _ n => n < 8
  | .flashCommand _ answer => answer.length ≤ 256
  | .flashcmd f answer => frameWf f && answer.length ≤ 256
  | .hello f | .read32 f | .write32 f | .jrnread f | .nonce f | .token f | .endsvc f | .reset f | .lock f
  | .debugCommand f _ _ => frameWf f
  | .vendorCommand f op => frameWf f && unlistedWf op
  | .registerWrite .. | .porstNAssert | .vaoBrownOut | .porstNRelease | .vcoreRise | .pllFLock | .pllTLock | .vcoreWarn
  | .vcoreBrownOut | .vio33Low .. | .avddLow .. | .resetNAssert | .warmResetRelease .. | .softWarmReset | .softAoReset
  | .pfailNFall | .flushComplete | .refLoss | .refReturn | .xt32Ok | .xt32Stop | .pwrto | .tempConversion .. | .eccClear
  | .gpioSet .. | .gpioClr .. | .gpioDirWrite .. | .gpioInputChange .. | .afeChCfgWrite .. | .channelRestartEnd ..
  | .overload .. | .integratorClear .. | .refrdy | .testStart .. | .testAbort | .testPhaseEnd | .testDwellEnd ..
  | .watchResult .. | .sampleItem .. | .syncInEdge .. | .syncApply | .fltChCfgWrite .. | .fltProfileWrite ..
  | .evtConfigWrite .. | .teuSoftwareStep | .teuStepComplete | .teuSwapWrite .. | .validate .. | .validationDone
  | .teuEntryLowStore .. | .teuEntryHighStore .. | .teuStateStore .. | .teuEnable | .waitevResume .. | .ckptAck ..
  | .fetchBlockArrival .. | .loadResponse .. | .storeDrain .. | .coreRun .. | .coreClrflt .. | .coreDiv ..
  | .faultEscalation | .programWindowStore .. | .watchdogEnable .. | .watchdogKick .. | .watchdogAdvance ..
  | .watchdogBite .. | .oasisWatchdogBite | .doorbellRing .. | .doorbellClear .. | .eventSet .. | .sourceEvent ..
  | .coalesceTimeout .. | .levelChange .. | .interruptAccept .. | .interruptGrant .. | .vectorEntry .. | .claimComplete ..
  | .softwareRaise .. | .pendClear .. | .sourceConfigWrite .. | .powerRequest .. | .powerEntryComplete | .wakeTimer
  | .dapWake | .oasisWatchAssert | .wakeComplete | .pushl .. | .pushh .. | .push .. | .popl .. | .held .. | .peekl ..
  | .pop .. | .commit .. | .rewind .. | .flush .. | .commitAck .. | .queueConfigWrite .. | .restoreScanEnd ..
  | .qmDropsRead .. | .dmeArm .. | .dmeEnable .. | .dmeAbort .. | .dmeShadowWrite .. | .shadowCopy .. | .elementFetch ..
  | .dmeBurst | .elementComplete .. | .dmeBusError .. | .abortComplete .. | .qwaitRetry .. | .timeCapture .. | .counterSet
  | .holdWrite .. | .counterStep .. | .servoSample .. | .servoFreqLoad .. | .holdoverTimeout | .secondBoundary
  | .launchWordStore .. | .launchCommit .. | .launchCancel .. | .launchArm .. | .lateEntryHandle .. | .actSet ..
  | .actDuty .. | .actMode .. | .fltSync .. | .fltResponseChange .. | .teuStep .. | .teuBankSwap .. | .qmPush ..
  | .hicRaise .. | .caerMessage .. | .actSafe .. | .pwmCycleStart .. | .pwmDutyEnd .. | .genWrite .. | .zxDecision ..
  | .halfDecision .. | .mainsEdge .. | .mainsLostTimeout .. | .predictedCrossing .. | .mainsConfigWrite ..
  | .safeCommand .. | .outputConfigWrite .. | .outputDutyWrite .. | .frameReceive .. | .frameForward .. | .txTailWrite ..
  | .txSlot | .txFrameDone | .ringEnable .. | .mdioStart .. | .mdioDone .. | .ethCounterRead .. | .linkEnable ..
  | .identTimer .. | .linkFail .. | .ident .. | .ack .. | .time .. | .dreq .. | .dresp .. | .launch .. | .msg .. | .peer ..
  | .cmd .. | .heart .. | .jrnl .. | .qitems .. | .resendTimeout .. | .ackTimer .. | .exchangeStart ..
  | .exchangeTimeout .. | .messageSend .. | .peerExportTick | .qfwdSend .. | .lineCommand .. | .caerErrRead ..
  | .pairEnable .. | .pairEnter | .pairTimeout | .retry | .take | .release | .heartTimer | .partnerSilence | .pairOkLow
  | .takeoverDelayEnd | .takeoverSeen | .targetAddress .. | .targetByteReceived .. | .targetByteSent .. | .targetStop ..
  | .targetTimeout .. | .targetPointerWrite .. | .go .. | .abort .. | .recover .. | .busFree .. | .controllerEnd ..
  | .controllerTimeout .. | .bootStart | .signatureVerifyDone | .sectionEnd .. | .retainedCopyDone | .imageCommit ..
  | .updateRequest .. | .flashStatusPoll .. | .flashPollTimeout | .recordSubmit | .recordAck | .lineWrite
  | .flushIdleTimeout | .lineWriteDone .. | .replayRestore | .replayFinish | .coldResume | .lineRead .. | .lineReadDone ..
  | .partnerRingConfig .. | .baselineStart | .tokenCheckDone | .lcsLock | .lcsEndsvc | .serviceExpiry | .vbusChange ..
  | .usbBusReset | .vcoreRecovery .. | .vaoRecovery | .resetNRelease | .pfailNRise | .frameCrcError .. | .takeoverReleased
  | .headersRead .. | .resetCommandDelayEnd | .syncOutPulseEnd | .standardRequest .. | .rowWordStore .. => true

end Sys2Proof
end

