-- ==== Sys2Proof/Tests/Slice0.lean ====
section
/-! SUPPORT. Tests of the model's own reading against values that the spec prints, a term for each check of `wellFormed` that it refuses, and
for every statement states and operands that meet its hypotheses. -/

namespace Sys2Proof.Tests

set_option Elab.async false

open Sys2Proof Sys2Proof.Machine

/-! ## Terms that the syntax allows and that cannot occur -/

/-- An encoding of so many words or bytes. -/
def enc (n : Nat) : Enc := ⟨.al, n, false⟩

/-- A frame of the service port with a good CRC. -/
def frame (cmd : Nat) (p : List Byte) (path : Path := .dap) : UFrame :=
  let f : UFrame := { path, magic := 0x55, ver := 1, tag := 7, len := p.length, payload := p, crc := 0 }
  { f with crc := crc32c (frameBytes f cmd) }

theorem test_wf_add_needs_a_word : wellFormed (.add 0 (enc 0) 1 2) = false := by decide +kernel
theorem test_wf_add_has_at_most_8_bytes : wellFormed (.add 0 (enc 9) 1 2) = false := by decide +kernel
theorem test_wf_noflags_needs_a_prefix : wellFormed (.add 0 ⟨.al, 1, true⟩ 1 2) = false := by decide +kernel
theorem test_wf_nop_takes_no_noflags : wellFormed (.nop 0 ⟨.al, 2, true⟩) = false := by decide +kernel
theorem test_wf_xcpy_run_has_no_stop_condition : wellFormed (.xcpyRun 0 ⟨.eq, 1, false⟩) = false := by decide +kernel
theorem test_wf_pc_view_is_not_written : wellFormed (.movToSpecial 0 (enc 1) .pcView 0) = false := by decide +kernel
theorem test_wf_reserved_index : wellFormed (.reservedEncoding 0 8) = false := by decide +kernel
theorem test_wf_flash_answer : wellFormed (.flashCommand 0 (List.replicate 257 0)) = false := by decide +kernel
theorem test_wf_frame_length : wellFormed (.hello { frame 1 [] with len := 0x10000 }) = false := by decide +kernel

/-! ## Decoding: the words of R187 and the bytes of R216–R218 -/

/-- The fabric runs. -/
def up : State := {}

/-- C0 runs, and its program memory begins with these words. -/
def c0 (ws : List Nat) : State := { up.set (CORE_CTL 0) CORE_CTL_RUN 1 with mem := mwrites [] 0x10000000 (ws.flatMap (bytesLE 4)) }

/-- C8 runs in the byte form, and its data memory begins with these bytes. -/
def c8 (l : List Byte) : State :=
  { up.set (CORE_CTL 8) CORE_CTL_RUN 1 with mem := mwrites [] 0x300000 l, cores := [(8, { pc := 0x80300000 })] }

/-- A core with these gather registers. -/
def withG (s : State) (c : Nat) (g : Tab Word) : State := s.modCore c fun x => { x with g := g }

/-- The first word of each row of R187, with d = 2 and s = 1 (k = 3, o = 5, i = 9, c = 6), and what it stands for. -/
def shortWords : List (Nat × Instr) :=
  let e := enc 1
  List.flatten [
   [(0x0700, .nop 0 e), (0x0011, .add 0 e 2 1), (0x0051, .sub 0 e 2 1), (0x0309, .adc 0 e 2 1), (0x0319, .sbc 0 e 2 1)],
   [(0x0091, .and 0 e 2 1), (0x00D1, .or 0 e 2 1), (0x0111, .xor 0 e 2 1), (0x0151, .mov 0 e 2 1), (0x0191, .cmp 0 e 2 1)],
   [(0x01D1, .tst 0 e 2 1), (0x076B, .movFromSpecial 0 e 0 .crcv), (0x0773, .movToSpecial 0 e .crcv 0), (0x0722, .neg 0 e 2)],
   [(0x072A, .not 0 e 2), (0x0369, .mul 0 e 2 1), (0x0379, .mulh 0 e 2 1), (0x0389, .mulhu 0 e 2 1), (0x0399, .div 0 e 2 1)],
   [(0x03A9, .divu 0 e 2 1), (0x03B9, .rem 0 e 2 1), (0x03C9, .remu 0 e 2 1), (0x0329, .shl 0 e 2 1), (0x0339, .shr 0 e 2 1)],
   [(0x0349, .sar 0 e 2 1), (0x0359, .ror 0 e 2 1), (0x0549, .addi 0 e 2 9), (0x0449, .movi 0 e 2 9), (0x0211, .ld 0 e 2 1 0)],
   [(0x03D9, .ldh 0 e 2 1 0), (0x0291, .ldb 0 e 2 1 0), (0x0251, .st 0 e 2 1 0), (0x03E9, .sth 0 e 2 1 0), (0x02D1, .stb 0 e 2 1 0)],
   [(0x0605, .br 0 e 5), (0x077D, .call 0 e 0xFFFFFFFD), (0x0761, .callReg 0 e 1), (0x0701, .ret 0 e), (0x0759, .jr 0 e 1)],
   [(0x0702, .reti 0 e), (0x0703, .sleep 0 e), (0x0704, .waitev 0 e), (0x0705, .ckpt 0 e), (0x0732, .par 0 e 2), (0x073A, .brev 0 e 2)],
   [(0x0742, .brevb 0 e 2), (0x0749, .crcb 0 e 1), (0x0751, .crcw 0 e 1), (0x0708, .xcpy 0 e), (0x0710, .xcpyRun 0 e)],
   [(0x0709, .xfil 0 e), (0x0711, .xfilRun 0 e), (0x070A, .xcmp 0 e), (0x0712, .xcmpRun 0 e), (0x070B, .xfnd 0 e)],
   [(0x0713, .xfndRun 0 e), (0x070C, .xcrc 0 e), (0x0714, .xcrcRun 0 e), (0x071E, .tstc 0 e .ge)]]

theorem test_short_form_words : ∀ p ∈ shortWords, (c0 [p.1]).fetchOf 0 = .op p.2 := by decide +kernel

/-- R185: the two examples of the text, and a condition of R184. -/
theorem test_extension_words :
    (c0 [0x0793, 0x0688]).fetchOf 0 = .op (.br 0 (enc 2) 5000) ∧ (c0 [0x07F6, 0x0454]).fetchOf 0 = .op (.movi 0 (enc 2) 2 (-300)) ∧
    (c0 [0x3F1E]).fetchOf 0 = .op (.tstc 0 ⟨.ts, 1, false⟩ .ge) ∧ (c0 [0x3CA1]).fetchOf 0 = .op (.movi 0 ⟨.ts, 1, false⟩ 5 1) := by
  decide +kernel

/-- R216–R218. -/
theorem test_byte_form :
    (c8 [0x01, 0x71]).fetchOf 8 = .op (.add 8 (enc 2) 7 1) ∧ (c8 [0xEA, 0xE1, 0x01, 0x71]).fetchOf 8 = .op (.add 8 ⟨.eq, 4, true⟩ 7 1) ∧
    (c8 [0xE8, 0x18, 0x05, 0xFE, 0xFF]).fetchOf 8 = .op (.addi 8 (enc 5) 5 (-2)) ∧
    (c8 [0xE9, 0x19, 0x06, 0x78, 0x56, 0x34, 0x12]).fetchOf 8 = .op (.movi 8 (enc 7) 6 0x12345678) ∧
    (c8 [0x08, 0xDA]).fetchOf 8 = .op (.movToSpecial 8 (enc 2) .crcv 2) ∧ (c8 [0x29, 0x80, 0xFC]).fetchOf 8 = .op (.call 8 (enc 3) (-4)) ∧
    (c8 [0xEB, 0xE2, 0x3A]).fetchOf 8 = .op (.xcmpRun 8 ⟨.ne, 3, false⟩) := by
  decide +kernel

/-- R222: a reserved opcode, prefix, operand bit, and a ninth byte. -/
theorem test_byte_form_reserved : ∀ l ∈ ([[0x1A], [0xEC], [0xE0, 0xE0, 0x01], [0xE8, 0x01, 0x11], [0x01, 0x88], [0xEA, 0x09, 0x11],
    [0xE1, 0xE9, 0xEA, 0x18, 0, 0, 0, 0], [0x29, 0x08], [0x08, 0xF0]] : List (List Byte)),
    (∃ n, n < 8 ∧ (c8 l).fetchOf 8 = .illegal n) := by
  decide +kernel

/-! ## Values that the spec prints -/

/-- The state after the command that C0 finds at its PC. -/
def ran (s : State) : State :=
  match s.fetchOf 0 with
  | .op i => match exec i s with | .next t => t | _ => s
  | _ => s

/-- The rows of R193: the word with d = 0 and s = 1, gd, gs, the result, and FLAGS. -/
def r193 : List (Nat × Word × Word × Word × BitVec 7) :=
  List.flatten [
   [(0x0720, 0x80000000, 0, 0x80000000, 0x4A), (0x0720, 0, 0, 0, 0x05), (0x0041, 5, 7, 0xFFFFFFFE, 0x02)],
   [(0x0001, 0x7FFFFFFF, 1, 0x80000000, 0x4A), (0x0361, 0x10000, 0x10000, 0, 0x4D), (0x0371, 0xFFFFFFFF, 0xFFFFFFFF, 0, 0x01)],
   [(0x0381, 0xFFFFFFFF, 0xFFFFFFFF, 0xFFFFFFFE, 0x02), (0x0391, 0x80000000, 0xFFFFFFFF, 0x80000000, 0x4A)],
   [(0x03B1, 0x80000000, 0xFFFFFFFF, 0, 0x49), (0x0391, 7, 0, 0xFFFFFFFF, 0x22), (0x03C1, 7, 0, 7, 0x20)],
   [(0x0391, 0xFFFFFFF9, 2, 0xFFFFFFFD, 0x02), (0x03B1, 0xFFFFFFF9, 2, 0xFFFFFFFF, 0x02), (0x0321, 1, 0x20, 0, 0x05)],
   [(0x0321, 0xFFFFFFFF, 0x21, 0, 0x01), (0x0331, 0x80000000, 0x20, 0, 0x05), (0x0331, 3, 0x41, 1, 0x04)],
   [(0x0341, 0x80000000, 0x28, 0xFFFFFFFF, 0x06), (0x0341, 0x7FFFFFFF, 0x3F, 0, 0x01), (0x0351, 1, 0x21, 0x80000000, 0x06)],
   [(0x0351, 0x12345678, 0x20, 0x12345678, 0)]]

theorem test_r193 : ∀ p ∈ r193,
    let t := ran (withG (c0 [p.1]) 0 [(0, p.2.1), (1, p.2.2.1)])
    (t.core 0).gr 0 = p.2.2.2.1 ∧ (t.core 0).flags = p.2.2.2.2 := by decide +kernel

/-- R137's example: type K at 17.200 mV with a cold junction at 32 °C reads about 449.3 °C, and a Pt1000 at 32 °C measures about
1,124.5 Ω. -/
theorem test_thermocouple : let n := inverse (emf 4) (-270 * 65536) (1372 * 65536) 655 (17200 * 10 ^ 39 * 2 ^ 224 + emf 4 (32 * 65536))
    4492 * 65536 < 10 * n ∧ 10 * n < 4493 * 65536 := by decide +kernel
theorem test_resistance : 11244 * 10 ^ 14 * 2 ^ 64 < 1000 * cvd (32 * 65536) ∧ 1000 * cvd (32 * 65536) < 11246 * 10 ^ 14 * 2 ^ 64 := by
  decide +kernel

/-- The check value of CRC-32C, and SHA-256 of "abc" (FIPS 180-4). -/
theorem test_crc32c : crc32c [0x31, 0x32, 0x33, 0x34, 0x35, 0x36, 0x37, 0x38, 0x39] = 0xE3069283 := by decide +kernel
theorem test_sha256 : ofBytesBE (sha256 [0x61, 0x62, 0x63]) = 0xBA7816BF8F01CFEA414140DE5DAE2223B00361A396177A9CB410FF61F20015AD := by
  decide +kernel


/-! ## States that meet the hypotheses of the statements
`clean` meets the hypothesis that no protected word holds an error; where a witness shows `s.flips = []`, it stands for that. -/

theorem clean {s : State} (h : s.flips = []) : ∀ a, tget s.flips 0 a = 0 := by intro a; rw [h]; rfl

/-- C0 with a handler entered. -/
def inHandler (s : State) : State := s.modCore 0 fun x => { x with inHandler := true }

/-- Conditions: NOP under EQ with Z = 0; TSTC. -/
theorem witness_Conditions :
    (let s := c0 [0x0F00]; gatedForm (.nop 0 ⟨.eq, 1, false⟩) = some (0, ⟨.eq, 1, false⟩) ∧ s.ready 0 = true ∧
      s.fetchOf 0 = .op (.nop 0 ⟨.eq, 1, false⟩) ∧ holds (s.core 0).flags .eq = false) ∧
    (c0 [0x071E]).stands 0 (enc 1) (.tstc 0 (enc 1) .ge) := by
  unfold State.stands; decide +kernel

/-- AdditionsAndSubtractions, LogicMovesAndShifts, ProductsAndQuotients, SpecialRegisterMoves, CrcSteps, ControlTransfer, Loads, Stores,
BlockElements: C0 stands at each of the words of R187. -/
theorem witness_core_stands : ∀ p ∈ shortWords, p.2 ∉ [.xcpyRun 0 (enc 1), .xfilRun 0 (enc 1), .xcmpRun 0 (enc 1), .xfndRun 0 (enc 1)] →
    (c0 [p.1]).stands 0 (enc 1) p.2 := by
  unfold State.stands; decide +kernel

/-- ProductsAndQuotients: a divisor of 0, the signed overflow, and neither. -/
theorem witness_ProductsAndQuotients :
    let q := fun (a b : Word) => withG (c0 [0x0399]) 0 [(1, b), (2, a)]
    (q 7 0).stands 0 (enc 1) (.div 0 (enc 1) 2 1) ∧ ((q 7 0).core 0).gr 1 = 0 ∧
    (q 0x80000000 0xFFFFFFFF).stands 0 (enc 1) (.div 0 (enc 1) 2 1) ∧ ((q 0x80000000 0xFFFFFFFF).core 0).gr 1 = 0xFFFFFFFF ∧
    ((q 0x80000000 0xFFFFFFFF).core 0).gr 2 = 0x80000000 ∧ (q 7 2).stands 0 (enc 1) (.div 0 (enc 1) 2 1) ∧
    ((q 7 2).core 0).gr 1 ≠ 0 := by
  unfold State.stands; decide +kernel

/-- SpecialRegisterMoves: the reserved WIDTH in CRCC. -/
theorem witness_SpecialRegisterMoves :
    let s := withG (c0 [0x0775]) 0 [(0, 7)]
    s.stands 0 (enc 1) (.movToSpecial 0 (enc 1) .crcc 0) ∧ ((s.core 0).gr 0).toNat % 4 = 3 := by
  unfold State.stands; decide +kernel

/-- CrcSteps: CRC-32C as the cores have it at reset, its polynomial, and the polynomial reflected. -/
theorem witness_CrcSteps :
    let s := c0 [0x0749]
    s.stands 0 (enc 1) (.crcb 0 (enc 1) 1) ∧ 32 = (match (s.core 0).crcc.toNat % 4 with | 0 => 32 | 1 => 16 | _ => 8) ∧
    0x82F63B78 < 2 ^ 32 ∧ ∀ k, k < 32 → (0x82F63B78).testBit k = ((s.core 0).crcp.toNat % 2 ^ 32).testBit (32 - 1 - k) := by
  unfold State.stands; decide +kernel

/-- ControlTransfer: C8 at a BR in the byte form whose target lies at 2^31 or above. -/
theorem witness_ControlTransfer :
    let s := c8 [0xE9, 0x28, 0x00, 0x00, 0x00, 0x80]
    let next := nextPc (s.core 8).pc 6
    s.stands 8 (enc 6) (.br 8 (enc 6) 0x80000000) ∧ next.msb = true ∧
      2 ^ 31 ≤ (next.toNat % 2 ^ 31 + (0x80000000 : Word).toNat) % 2 ^ 32 := by
  unfold State.stands; decide +kernel

/-- HandlersAndWaits. -/
theorem witness_HandlersAndWaits :
    (let s := inHandler (c0 [0x0702]); s.stands 0 (enc 1) (.reti 0 (enc 1)) ∧ (s.core 0).inHandler = true) ∧
    (let s := c0 [0x0702]; s.stands 0 (enc 1) (.reti 0 (enc 1)) ∧ (s.core 0).inHandler = false) ∧
    (let s := inHandler (c0 [0x0703]); s.stands 0 (enc 1) (.sleep 0 (enc 1)) ∧ (s.core 0).inHandler = true) ∧
    (let s := c0 [0x0703]; s.stands 0 (enc 1) (.sleep 0 (enc 1)) ∧ (s.core 0).inHandler = false) ∧
    (let s := (c0 [0x0704]).modCore 0 fun x => { x with latch := true }
     s.stands 0 (enc 1) (.waitev 0 (enc 1)) ∧ (s.core 0).latch = true) ∧
    (let s := c0 [0x0704]; s.stands 0 (enc 1) (.waitev 0 (enc 1)) ∧ (s.core 0).latch = false) ∧
    (let s := (c0 []).modCore 0 fun x => { x with mode := .waitev, latch := true }
     s.awake 0 = true ∧ (s.core 0).mode = .waitev ∧ (s.core 0).latch = true) := by
  unfold State.stands; decide +kernel

/-- Checkpoints: C8, a handler, and C0 outside one; an answer of JRN. -/
theorem witness_Checkpoints :
    (c8 [0x2F]).stands 8 (enc 1) (.ckpt 8 (enc 1)) ∧
    (let s := inHandler (c0 [0x0705]); s.stands 0 (enc 1) (.ckpt 0 (enc 1)) ∧ (s.core 0).inHandler = true) ∧
    (let s := c0 [0x0705]; s.stands 0 (enc 1) (.ckpt 0 (enc 1)) ∧ (s.core 0).inHandler = false) ∧
    (let s := { (c0 []).modCore 0 fun x => { x with mode := .ckpt } with jrn := { acked := [({ frm := .ckpt 0, recs := [] }, true)] } }
     s.jrn.acked = ({ frm := .ckpt 0, recs := [] }, true) :: [] ∧ (s.core 0).mode = .ckpt) := by
  unfold State.stands; decide +kernel

/-- Loads: an address that is not mapped, one outside the core's own memory, one in its scratch, and a load that waits. -/
theorem witness_Loads :
    let s := fun (a : Nat) => withG (c0 [0x0211]) 0 [(1, BitVec.ofNat 32 a)]
    (∀ a ∈ [0x180000, 0, 0x400000], (s a).stands 0 (enc 1) (.ld 0 (enc 1) 2 1 0)) ∧
    ((s 0x180000).began 0 1).busErr (.core 0) 0x180000 4 false = some .decode ∧
    ((s 0).began 0 1).busErr (.core 0) 0 4 false = none ∧ ownMemory 0 0 = false ∧
    ((s 0x400000).began 0 1).busErr (.core 0) 0x400000 4 false = none ∧ ownMemory 0 0x400000 = true ∧
    (let t := (c0 []).modCore 0 fun x => { x with load := some { addr := 0, width := 4, dest := 2, len := 1 } }
     t.onBus (.core 0) = true ∧ (t.core 0).load = some { addr := 0, width := 4, dest := 2, len := 1 }) := by
  unfold State.stands; decide +kernel

/-- Stores: a bus error, room in the buffer, a full buffer, and a posted store. -/
theorem witness_Stores :
    let p : Posted := { addr := 8, width := 4, val := 1 }
    let s := fun (a : Word) (l : List Posted) => (withG (c0 [0x0251]) 0 [(1, a)]).modCore 0 fun x => { x with stores := l }
    (s 0x180000 []).stands 0 (enc 1) (.st 0 (enc 1) 2 1 0) ∧ ((s 0x180000 []).began 0 1).busErr (.core 0) 0x180000 4 true = some .decode ∧
    (s 0 []).stands 0 (enc 1) (.st 0 (enc 1) 2 1 0) ∧ ((s 0 []).began 0 1).busErr (.core 0) 0 4 true = none ∧
    (s 0 [p, p, p, p]).stands 0 (enc 1) (.st 0 (enc 1) 2 1 0) ∧ ((s 0 [p, p, p, p]).core 0).stores = p :: [p, p, p] ∧
    (∀ b ∈ [true, false], (s 0 [{ p with handler := b }]).onBus (.core 0) = true) ∧ heldOf 0 true ≠ heldOf 0 false := by
  unfold State.stands; decide +kernel

/-- MemoryHoldsWhatIsStored: the last word of shared SRAM, a byte of the own scratch and a halfword of Oasis data memory. -/
theorem witness_MemoryHoldsWhatIsStored :
    regionOf 0xFFFFC = .sram ∧ up.busErr (.core 0) 0xFFFFC 4 false = none ∧ regionOf 0x401FFF = .ownScratch ∧
    up.busErr (.core 0) 0x401FFF 1 false = none ∧ regionOf 0x300002 = .oasisData ∧ up.busErr (.core 0) 0x300002 2 false = none ∧
    up.flips = [] := by
  decide +kernel

/-- C0 at a block instruction, with its cursors in its scratch and a length of 1. -/
def block (w n : Nat) : State := withG (c0 [w]) 0 [(4, 0x400000), (5, 0x400010), (6, BitVec.ofNat 32 n)]

/-- BlockElements: single forms and runs, with a length and without one. -/
theorem witness_BlockElements :
    (∀ p ∈ ([(0x0708, .xcpy 0 (enc 1)), (0x0709, .xfil 0 (enc 1)), (0x070A, .xcmp 0 (enc 1)), (0x070B, .xfnd 0 (enc 1)), (
        0x070C, .xcrc 0 (enc 1))] : List (Nat × Instr)), (block p.1 1).stands 0 (enc 1) p.2) ∧
    (∀ n ∈ [0, 1], ∀ p ∈ ([(0x0710, .xcpyRun 0 (enc 1)), (0x0711, .xfilRun 0 (enc 1)), (0x0712, .xcmpRun 0 (enc 1)), (
        0x0713, .xfndRun 0 (enc 1)), (0x0714, .xcrcRun 0 (enc 1))] : List (Nat × Instr)),
      (block p.1 n).ready 0 = true ∧ (block p.1 n).fetchOf 0 = .op p.2 ∧ (((block p.1 n).began 0 1).core 0).gr 6 = BitVec.ofNat 32 n) ∧
    (let u := (block 0x0708 1).began 0 1
     u.byteAt 0 0x400000 = (u, 0, none) ∧ u.byteAt 0 0x400010 = (u, 0, none) ∧ u.busErr (.core 0) 0x400010 1 true = none ∧
       (u.core 0).stores.length < 4) := by
  unfold State.stands; decide +kernel

/-- PreciseFaults: a reserved word, a word whose parity fails, and a write cursor that is not mapped. -/
theorem witness_PreciseFaults :
    (let s := c0 [0x0706]; s.ready 0 = true ∧ (∃ n : Fin 8, s.fetchOf 0 = .illegal n.val)) ∧
    (let s := { c0 [0x0700] with flips := [(0x10000000, 1)] }
     gatedForm (.nop 0 (enc 1)) = some (0, enc 1) ∧ s.ready 0 = true ∧ s.fetchOf 0 = .fault kindParity 0) ∧
    (let s := withG (c0 [0x0709]) 0 [(5, 0x180000)]
     s.stands 0 (enc 1) (.xfil 0 (enc 1)) ∧ (s.began 0 1).busErr (.core 0) (((s.began 0 1).core 0).gr 5).toNat 1 true = some .decode) ∧
    (let s := withG (c0 [0x0711]) 0 [(5, 0x180000), (6, 2)]
     s.ready 0 = true ∧ s.fetchOf 0 = .op (.xfilRun 0 (enc 1)) ∧ ((s.began 0 1).core 0).gr 6 ≠ 0) := by
  unfold State.stands; decide +kernel

/-- CodeReachesTheCores: a block on its way; a core that runs and one that does not. -/
theorem witness_CodeReachesTheCores :
    (let s := up.setCore 0 { requested := [0x100] }; s.fabric = true ∧ (0x100 : Word).toNat ∈ (s.core 0).requested ∧ s.flips = []) ∧
    (let s := c0 []; s.hasCore 0 = true ∧ s.mayStore .dbg (progAddr 0 0x3FFF) = true ∧ s.running 0 = true) ∧
    up.hasCore 8 = true ∧ up.mayStore .dbg (progAddr 8 0) = true ∧ up.running 8 = false := by
  decide +kernel

/-- RunningACore: a core that is stopped on a fault. -/
theorem witness_RunningACore :
    let s := up.wr (CORE_FAULT 0) 1
    s.hasCore 0 = true ∧ s.fabric = true ∧ s.faulted 0 = true ∧ s.hasCore 7 = true ∧ (24 : Byte).toNat ≤ 240 ∧ (23 : Byte).toNat < 24 := by
  decide +kernel

/-- WatchdogsDoorbellsAndLatches: a watchdog that is off and one that runs. -/
theorem witness_WatchdogsDoorbellsAndLatches :
    up.hasCore 0 = true ∧ up.fabric = true ∧ up.wdOn 0 = false ∧ (up.set (CORE_WDOG 0) CORE_WDOG_EN 1).wdOn 0 = true ∧
    (0x7E1A : Word).toNat % 2 ^ 16 = 0x7E1A := by
  decide +kernel

/-- A watchdog that runs, one strobe before its TIMEOUT or at 0. -/
def strobed (c : Core) (b : Bool) : State :=
  ({ up with pow := { pllT := true } }.set (CORE_WDOG c) CORE_WDOG_EN 1).modCore c fun x =>
    { x with wd := if b then up.wdTimeout c - 1 else 0 }

/-- WatchdogsDoorbellsAndLatches: a strobe that brings the count of C0, or of C8, to TIMEOUT, and one that does not. -/
theorem witness_WatchdogsDoorbellsAndLatches_strobe :
    ∀ c ∈ [(0 : Core), 8], ∀ b ∈ [true, false],
      (strobed c b).pow.phase ≠ .cold ∧ (strobed c b).fabric = true ∧ (strobed c b).pow.pllT = true ∧ (strobed c b).pstate < 2 ∧
      ∀ k : Core, (((strobed c b).wdOn k && !((strobed c b).core k).held) = true ∧
        (strobed c b).wdTimeout k ≤ ((strobed c b).core k).wd + 1) ↔ (b = true ∧ k = c) := by
  decide +kernel

/-- A source of the interrupt controller with a configuration. -/
def src (n : Nat) (cfg : Word) (h : HicSt) : State := { up.wr (HIC_SRC_CFG n) cfg with hic := h }

/-- EventsReachTheController: a disabled source, one that pends, one below and one at CCOUNT; a held count; a level that changes. -/
theorem witness_EventsReachTheController :
    let e := HIC_SRC_CFG_EN
    let on := fun (n : Nat) (k : Nat) => setField (setField (up.rd (HIC_SRC_CFG n)) e 1) HIC_SRC_CFG_CCOUNT k
    (let s := src 0 0 { inflight := [8, 0, 1] }; s.fabric = true ∧ s.nextFrom (islandOf 0) = some 0 ∧ s.get (HIC_SRC_CFG 0) e = 0) ∧
    (let s := src 0 (on 0 1) { inflight := [0], pend := [(0, 255)] }
     s.nextFrom (islandOf 0) = some 0 ∧ s.get (HIC_SRC_CFG 0) e = 1 ∧ s.get (HIC_SRC_CFG 0) HIC_SRC_CFG_KIND = 0 ∧ s.pend 0 ≠ 0) ∧
    (let s := src 0 (on 0 1) { inflight := [0] }; s.pend 0 = 0 ∧ s.get (HIC_SRC_CFG 0) HIC_SRC_CFG_CCOUNT ≤ min 255 (0 + 1)) ∧
    (let s := src 0 (on 0 2) { inflight := [0] }; s.pend 0 = 0 ∧ min 255 (0 + 1) < s.get (HIC_SRC_CFG 0) HIC_SRC_CFG_CCOUNT) ∧
    (let s := (src 0 0 { held := [(0, 1)] }).set (HIC_SRC_CTIME 0) HIC_SRC_CTIME_CTIME 1
     tget s.hic.held 0 0 ≠ 0 ∧ s.get (HIC_SRC_CTIME 0) HIC_SRC_CTIME_CTIME ≠ 0) ∧
    (let s := src 224 (on 224 1) { lvl := [(224, true)] }
     s.get (HIC_SRC_CFG 224) HIC_SRC_CFG_KIND = 1 ∧ s.levelOf 224 ≠ tget s.hic.lvl false 224) := by
  decide +kernel

/-- SourcesUnderSoftware. -/
theorem witness_SourcesUnderSoftware : up.fabric = true ∧ (255 : Word).toNat % 256 = 255 ∧ (224 : Word).toNat % 256 = 224 := by decide

/-- InterruptDelivery: an offer to a core that runs, an accept with a candidate and without one, a grant, and a RETI on its way. -/
theorem witness_InterruptDelivery :
    (let s := { c0 [0x0700] with hic := { cores := [(0, { offer := true })] } }
     s.awake 0 = true ∧ (s.hc 0).offer = true ∧ (s.core 0).load = none ∧ (s.core 0).inHandler = false ∧ (s.core 0).mode = .run) ∧
    (let s := src 0 0x101 { cores := [(0, { accept := true })], pend := [(0, 1)] }
     s.fabric = true ∧ (s.hc 0).accept = true ∧ (s.hc 0).resv = []) ∧
    (let s := src 0 0 { cores := [(0, { accept := true })] }; (s.hc 0).accept = true ∧ s.candidates 0 = []) ∧
    (∀ g ∈ [255, 0x3FF],
      let s := { (c0 [0x0700]).modCore 0 fun x => { x with mode := .accepted } with hic := { cores := [(0, { grant := some g })] } }
      s.awake 0 = true ∧ (s.core 0).mode = .accepted ∧ (s.hc 0).grant = some g) ∧
    (let s := src 0 0 { cores := [(0, { done := true, claim := 0 })] }; (s.hc 0).done = true) := by
  decide +kernel

/-- A power state, as OAS_PWRSTATE shows it. -/
def inState (k : Nat) (p : PowSt) : State := ({ up with pow := p }).set OAS_PWRSTATE OAS_PWRSTATE_STATE k

/-- PowerStates: requests that are allowed, wake and are ignored; an entry that is ready, to each state; each wake cause. -/
theorem witness_PowerStates :
    (let s := inState 0 {}; s.fabric = true ∧ (s.pstate, 3) ∈ [(0, 1), (0, 2), (0, 3), (1, 2), (1, 3), (2, 3)] ∧ s.pow.entry = none ∧
      s.pow.waking = none ∧ (0xA5D00003 : Word).toNat / 2 ^ 16 = 0xA5D0 ∧ (0xA5D00003 : Word).toNat % 8 = 3) ∧
    (let s := inState 2 {}; s.pow.entry = none ∧ s.pstate ≠ 0 ∧ s.pow.waking = none ∧ s.pstate < 4) ∧
    (let s := inState 0 { entry := some 1 }; s.pow.entry.isSome = true) ∧ (inState 2 {}).pstate = 2 ∧
    (∀ k ∈ [1, 2, 3], let s := inState 0 { entry := some k }; s.pow.entry = some k ∧ s.fabric = true ∧ s.entryReady k = true ∧
      s.wakeSources = []) ∧
    (let s := ((inState 1 {}).set SYS_STATUS SYS_STATUS_XT32OK 1).set OAS_WAKETMR OAS_WAKETMR_TICKS 1
     s.pstate ≠ 0 ∧ s.get SYS_STATUS SYS_STATUS_XT32OK = 1 ∧ s.get OAS_WAKETMR OAS_WAKETMR_TICKS ≠ 0) ∧
    (let s := inState 3 { phase := .oasis, waking := some 3, vcoreUp := true }; s.pow.waking = some 3 ∧ s.pow.vcoreUp = true) ∧
    (let s := inState 3 { phase := .oasis, waking := some 3 }; s.pow.phase = .oasis ∧ s.pow.waking.isSome = true ∧
      s.pow.vcoreUp = false) := by
  decide +kernel

/-- In OASIS sensor 3 is high, and the wake set names it for the hub or for C8 alone. -/
def hot (c8only : Nat) : State :=
  let s := inState 3 { phase := .oasis, temp3High := true }
  ((s.set (OAS_WAKE 0) OAS_WAKE_EN 1).set (OAS_WAKE 0) OAS_WAKE_SRC 2).set (OAS_WAKE 0) OAS_WAKE_C8ONLY c8only

/-- PowerStates: an asserted source of the watcher. -/
theorem witness_PowerStates_watch :
    (hot 0).watchWakes = [2] ∧ (hot 0).pow.entry = none ∧ (hot 0).pstate ≠ 0 ∧ (hot 0).pow.waking = none ∧
    (hot 1).watchWakes = [] ∧ (hot 1).watchForC8 = [2] ∧ ((hot 1).core 8).inHandler = false ∧ ((hot 1).hc 8).done = false ∧
    (hot 0).aoOn = true ∧ up.aoOn = true := by
  decide +kernel


/-- Queue 0 with 16 slots, its configuration's other bits, and a state. -/
def queue (cfg : Nat) (x : QSt) : State := (up.wr (QM_Q_CFG 0) (BitVec.ofNat 32 (0x40000 + cfg))).setQ 0 x

/-- QM_Q_CFG's EN, with MEN, and with JRNEN. -/
def en : Nat := 0x80000000
def men : Nat := 0xA0000000
def jrnen : Nat := 0xE0000000

/-- Pushes: queue 0 disabled, with two slots free, one, and none, with and without a live cullet; a debugger that may store, with the low
word held and without it. -/
theorem witness_Pushes :
    up.fabric = true ∧ up.qlive 0 = false ∧
    (∀ o ∈ [0, 14, 15, 16], (queue en { wr := o }).fabric = true ∧ (queue en { wr := o }).qlive 0 = true ∧
      (queue en { wr := o }).occ 0 = o ∧ (queue en { wr := o }).qsize 0 = 16 ∧ ((queue en { wr := o }).qst 0).live = false) ∧
    (let s := queue en { wr := 16, live := true }; s.qsize 0 ≤ s.occ 0 + 1 ∧ (s.qst 0).live = true) ∧
    up.mayStore .dbg 0x50000000 = true ∧ up.mayStore .dbg 0x50003F04 = true ∧ (let h := up.heldIx .dbg
      (up.heldSet h).push = none ∧ ((up.setHeldSet h { push := some (0, 5) }).heldSet h).push = some (0, 5)) := by
  decide +kernel

/-- Pops: nothing there, an item, and an item that fails parity; a word held and none. -/
theorem witness_Pops :
    up.fabric = true ∧ up.qlive 0 = false ∧
    (let s := queue en { wr := 1 }; s.qlive 0 = true ∧ s.avail 0 ≠ 0 ∧ (s.getSlot 0 0).2 = 0) ∧
    (let s := { queue en { wr := 1 } with flips := [(0x100000, 1)] }; s.qlive 0 = true ∧ s.avail 0 ≠ 0 ∧ (s.getSlot 0 0).2 ≠ 0) ∧
    (let h := up.heldIx .dbg
     ((up.setHeldSet h { pop := some (0, 5) }).heldSet h).pop = some (0, 5) ∧ (up.heldSet h).pop = none) := by
  decide +kernel

/-- QueueCommands: each queue command's case, and an acknowledgement and a refusal of JRN. -/
theorem witness_QueueCommands :
    (∀ c ∈ [en, men, jrnen], (queue c { wr := 3, rd := 2 }).fabric = true ∧ (queue c { wr := 3, rd := 2 }).qlive 0 = true ∧
      ((queue c { wr := 3, rd := 2 }).qst 0).busy = none ∧ ((queue c {}).get (QM_Q_CFG 0) QM_Q_CFG_MEN = 1 ↔ c ≠ en) ∧
      ((queue c {}).get (QM_Q_CFG 0) QM_Q_CFG_JRNEN = 1 ↔ c = jrnen)) ∧
    ((queue jrnen { busy := some 1 }).qst 0).busy.isSome = true ∧
    (∀ ok ∈ [true, false], let s := { queue jrnen { wr := 3, rd := 2, busy := some 2 } with
                              jrn := { acked := [({ frm := .qmark 0, recs := [] }, ok)] } }
      s.jrn.acked = ({ frm := .qmark 0, recs := [] }, ok) :: [] ∧ (s.qst 0).busy = some 2 ∧ (s.qst 0).again = false ∧
        s.qlive 0 = true ∧ (s.qst 0).mark ≤ 2) := by
  decide +kernel

/-- QueueEnableAndRestore: words that enable, that are not aligned, and that disable; a scan that finds two items, a full queue, and a
slot that fails parity. -/
theorem witness_QueueEnableAndRestore :
    (∀ v ∈ [0x80040010, 0xE0040010, 0x80040008], let w := BitVec.ofNat 32 v
      up.fabric = true ∧ up.get (QM_Q_CFG 0) QM_Q_CFG_EN = 0 ∧ fieldOf w QM_Q_CFG_LOG2SIZE = 4 ∧ fieldOf w QM_Q_CFG_EN = 1 ∧
      (fieldOf w QM_Q_CFG_JRNEN = 0 ∨ fieldOf w QM_Q_CFG_MEN = 1) ∧ (fieldOf w QM_Q_CFG_BASE % 16 = 0 ↔ v ≠ 0x80040008)) ∧
    (∀ l ∈ [some Load.cold, some .warm, none],
      let s := { up.set JRN_STATUS JRN_STATUS_REPLAYING 1 with boot := { load := l } }
      s.fabric = true ∧ s.get (QM_Q_CFG 0) QM_Q_CFG_EN = 0 ∧ s.get JRN_STATUS JRN_STATUS_REPLAYING = 1 ∧
      (s.boot.load ≠ some .cold ↔ l ≠ some .cold)) ∧
    (let s := queue en {}; s.get (QM_Q_CFG 0) QM_Q_CFG_EN = 1 ∧ fieldOf 0x00040010 QM_Q_CFG_EN = 0 ∧
      fieldOf 0x00040010 QM_Q_CFG_BASE % 16 = 0) ∧
    (let s := (queue jrnen { restore := true, scan := some 1 }).putSlot 0 3 emptyItem
     (s.qst 0).restore = true ∧ (s.qst 0).scan = some 1 ∧ 2 ≤ s.qsize 0 ∧
       (∀ j, j < 2 → (s.getSlot 0 (1 + j)).2 = 0 ∧ (s.getSlot 0 (1 + j)).1 ≠ emptyItem) ∧ (s.getSlot 0 3).1 = emptyItem) ∧
    (let s := queue jrnen { restore := true, scan := some 1 }
     s.qsize 0 = 16 ∧ ∀ j, j < 16 → (s.getSlot 0 (1 + j)).2 = 0 ∧ (s.getSlot 0 (1 + j)).1 ≠ emptyItem) ∧
    (let s := { queue jrnen { restore := true, scan := some 1 } with flips := [(0x100008, 1)] }; (s.getSlot 0 1).2 ≠ 0) := by
  decide +kernel

/-- Channel 0 of the DMA engine: its status, its active configuration and its state. -/
def dma (st cfg : Word) (x : DmaCh) : State := ((up.wr (DME_CH_STAT 0) st).wr (DME_CH_CFG 0) cfg).modD 0 fun _ => x

/-- DmaControl: armed, busy and neither; words for the shadow set; a channel about to copy, with a fixed address that suits and not. -/
theorem witness_DmaControl :
    (∀ p ∈ [(0, 0, 0), (1, 0, 1), (2, 1, 0), (3, 1, 1)], let s := dma (BitVec.ofNat 32 p.1) 0 {}
      s.fabric = true ∧ s.get (DME_CH_STAT 0) DME_CH_STAT_SHVALID = p.2.1 ∧ s.get (DME_CH_STAT 0) DME_CH_STAT_BUSY = p.2.2) ∧
    (8 : Word).toNat % 8 = 0 ∧ (4 : Word).toNat % 8 ≠ 0 ∧ fieldOf 0x20 DME_CH_SCFG_FIXMODE ≠ 3 ∧ fieldOf 0x30 DME_CH_SCFG_FIXMODE = 3 ∧
    (∀ p ∈ [(0, 1), (0x50000000, 2), (1, 1), (0x50004000, 2)],
      let s := (((dma 2 0 {}).set (DME_CH_CTL 0) DME_CH_CTL_EN 1).wr (DME_CH_SFIX 0) (BitVec.ofNat 32 p.1)).set (DME_CH_SCFG 0)
        DME_CH_SCFG_FIXMODE p.2
      s.get (DME_CH_STAT 0) DME_CH_STAT_SHVALID = 1 ∧ s.get (DME_CH_STAT 0) DME_CH_STAT_BUSY ≠ 1 ∧
        s.get (DME_CH_CTL 0) DME_CH_CTL_EN = 1 ∧ s.get (DME_CH_STAT 0) DME_CH_STAT_ERROR = 0 ∧
        s.get (DME_CH_SCFG 0) DME_CH_SCFG_FIXMODE = p.2 ∧ (s.rd (DME_CH_SFIX 0)).toNat = p.1) := by
  decide +kernel

/-- A channel that awaits an element at 0x100 (R294). -/
def awaits (w0 w1 : Nat) : State :=
  { dma 1 0 { fetch := some (0x100, 0) } with mem := mwrites [] 0x100 (bytesLE 4 w0 ++ bytesLE 4 w1) }

/-- DmaElements: an element of 16 bytes, a LINK, a reserved bit; the last element; an error; an abort. -/
theorem witness_DmaElements :
    (∀ p ∈ [(0x200, 16), (0x200, 0x2000000), (0x200, 0x4000010)], let s := awaits p.1 p.2
      s.fabric = true ∧ s.get (DME_CH_STAT 0) DME_CH_STAT_BUSY = 1 ∧ (s.dch 0).fetch = some (0x100, 0) ∧ (s.dch 0).err = none ∧
      (s.dch 0).aborting = false ∧ s.flips = [] ∧ ofBytesLE ((List.range 4).map fun n => mget s.mem (0x100 + n)) = p.1 ∧
      ofBytesLE ((List.range 4).map fun n => mget s.mem (0x104 + n)) = p.2 ∧ s.fixMode 0 = 0) ∧
    wordRegion 0x200 = false ∧ bitsOf 16 26 5 = 0 ∧ bitsOf 0x4000010 26 5 ≠ 0 ∧ Nat.testBit 0x2000000 25 = true ∧
    (∀ p ∈ [(true, true), (false, true), (true, false)],
      let e : DmaEl := { addr := 0x100, len := 8, mark := p.1, fin := p.2, fixEnd := 8 }
      ∀ r ∈ [[], [{ e with addr := 0x108 }]], let s := dma 1 0 { done := e :: r }
      s.get (DME_CH_STAT 0) DME_CH_STAT_BUSY = 1 ∧ (s.dch 0).done = e :: r ∧ (s.dch 0).aborting = false ∧ (s.dch 0).cur = none) ∧
    (let s := dma 1 0 { err := some { kind := 2, addr := 4, el := 0x100 } }
     (s.dch 0).err = some { kind := 2, addr := 4, el := 0x100 } ∧ (s.dch 0).done = [] ∧ (s.dch 0).aborting = false) ∧
    ((dma 1 0 { aborting := true }).dch 0).aborting = true := by
  decide +kernel

/-- A channel that moves its element's 64 bytes, from LIST or FIX. -/
def moves (cfg fix : Word) (x : DmaCh) : State :=
  let e : DmaEl := { addr := 0x100, len := 64, mark := false, fin := true, fixEnd := 0 }
  (((dma 1 cfg { x with cur := some e }).wr (DME_CH_ADDR 0) 0x200).wr (DME_CH_FIX 0) fix).set (DME_CH_REM 0) DME_CH_REM_REM 64

/-- DmaMovesBytes: bursts either way; a channel that waits for queue 0 with an item in it, and while it is empty. -/
theorem witness_DmaMovesBytes :
    (∀ cfg ∈ [0, 4], ∀ l ∈ [[], [{ addr := 0xF8, len := 8, mark := false, fin := false, fixEnd := 0 }]],
      let s := moves (BitVec.ofNat 32 cfg) 0x1010 { done := l }
      s.fabric = true ∧ s.flips = [] ∧ (s.dch 0).cur.isSome = true ∧ (s.dch 0).part = [] ∧ (s.rd (DME_CH_ADDR 0)).toNat + 64 ≤ 0x100000 ∧
      s.dmePick = some 0 ∧ s.fixMode 0 = 0 ∧ (s.rd (DME_CH_FIX 0)).toNat + 64 ≤ 0x100000) ∧
    (∀ o ∈ [0, 1], let m := moves 0x64 0x50000000 { wait := true }
      let s := (m.wr (QM_Q_CFG 0) (BitVec.ofNat 32 (0x40000 + en))).setQ 0 { wr := o }
      (s.dch 0).part = [] ∧ (s.dch 0).flying < 2 ∧ s.dflying < 4 ∧
      (s.dch 0).wait = true ∧ s.dstat 0 DME_CH_STAT_BUSY = true ∧ (s.dch 0).err = none ∧ (s.dch 0).aborting = false ∧
      8 ≤ s.get (DME_CH_REM 0) DME_CH_REM_REM ∧ s.fixMode 0 = 2 ∧ s.listDest 0 = true ∧
      s.get (DME_CH_CFG 0) DME_CH_SCFG_QWAIT = 1 ∧ (s.rd (DME_CH_ADDR 0)).toNat % 8 = 0 ∧
      (s.rd (DME_CH_FIX 0)).toNat = 0x50000000 + 256 * 0 ∧ s.qlive 0 = true ∧ s.avail 0 = o ∧
      (o = 1 → (s.front 0).2 ≠ emptyItem)) := by
  decide +kernel

/-- TIME runs. -/
def timed : State := { up with pow := { pllT := true } }

/-- PlantTime: a second that has begun, and one that is to come. -/
theorem witness_PlantTime :
    timed.fabric = true ∧ timed.pow.pllT = true ∧ timed.time / 256000000 ≤ timed.tim.sec ∧
    (let s := { timed with time := 256000000 }; s.pow.pllT = true ∧ ¬s.time / 256000000 ≤ s.tim.sec) := by
  decide +kernel

/-- TheServo: the sources of samples, small and large samples, and the servo's states. -/
theorem witness_TheServo :
    (let src := fun (k : Nat) => timed.set TIME_SRV_CFG TIME_SRV_CFG_SRC k
     (src 1).fabric = true ∧ (src 1).get TIME_SRV_CFG TIME_SRV_CFG_SRC = 1 ∧ (src 0).get TIME_SRV_CFG TIME_SRV_CFG_SRC ≠ 1 ∧
     (src 2).get TIME_SRV_CFG TIME_SRV_CFG_SRC = 2 + 0 ∧ (src 3).get TIME_SRV_CFG TIME_SRV_CFG_SRC = 2 + 1) ∧
    (let s := { timed with tim := { samples := [(0, 5)] } }; s.tim.samples = (0, (5 : Word)) :: []) ∧
    (let s := timed.set TIME_SRV_CFG TIME_SRV_CFG_STEPTHR 1
     ¬16000 * s.get TIME_SRV_CFG TIME_SRV_CFG_STEPTHR ≤ (15999 : Word).toInt.natAbs ∧
       16000 * s.get TIME_SRV_CFG TIME_SRV_CFG_STEPTHR ≤ (16000 : Word).toInt.natAbs) ∧
    (∀ k ∈ [0, 1, 2, 3], (timed.set TIME_SRV_STAT TIME_SRV_STAT_STATE k).servo = k) ∧
    (∀ k ∈ [0, 1], (timed.set SYS_STATUS SYS_STATUS_REFOK k).get SYS_STATUS SYS_STATUS_REFOK = k) := by
  decide +kernel

/-- Entry 0 of the launch table: a time of 1 ms, a word 3, a word 2 and where it stands. -/
def entry0 (w3 w2 : Nat) (st : LState) (late : Bool := false) (now : Nat := 0) : State :=
  { timed with
    time := now
    tim := { table := [(0, { w0 := 1000000, w2 := BitVec.ofNat 32 w2, w3 := BitVec.ofNat 32 w3, st := st, late := late })] } }

/-- TheLaunchTable: who may store, each state of an entry, commits that are accepted (with JOURNAL and without it) and refused, cancels
before the due tick and on it, and JRN's answers. -/
theorem witness_TheLaunchTable :
    (∀ k ∈ [0, 1, 2, 3], timed.mayStore .dbg (0x40088000 + 16 * 0 + 4 * k) = true ∧ timed.mayStore .dbg (0x40088000 + 16 * 1023 + 4 * k) = true) ∧
    timed.fabric = true ∧ (timed.lent 0).st = .free ∧ ((entry0 0x1000 1 .armed).lent 0).st ≠ .free ∧
    (let a := fun (v : Word) => ({ timed.lent 0 with w3 := v &&& 0x7F00FFFF } : LEnt)
     timed.accepts (a 0x80001000) = true ∧ (a 0x80001000).journal = false ∧ timed.accepts (a 0xC0001000) = true ∧
       (a 0xC0001000).journal = true ∧ timed.accepts (a 0x80001FFF) = false) ∧
    (let s := entry0 0x1000 1 .armed; (s.lent 0).st = .armed ∧ s.time < (s.lent 0).due) ∧
    (let s := entry0 0x1000 1 .armed false 256000; (s.lent 0).st = .armed ∧ (s.lent 0).due ≤ s.time) ∧
    ((entry0 0x1000 1 .dispatched).lent 0).st = .dispatched ∧
    (∀ ok ∈ [true, false], let g : Group := { frm := .launch 0, recs := [{ kind := 1, src := 0, argd := 0, body := [0] }] }
      let s := { entry0 0x1000 1 .pending with jrn := { acked := [(g, ok)] } }
      s.jrn.acked = (g, ok) :: [] ∧ (s.lent 0).st = .pending ∧
        (g.recs.head?.bind (·.body.head?)) = some (s.lent 0).seq.toNat ∧ s.fabric = true) := by
  decide +kernel

/-- A step entry whose tick TEU has given to another action. -/
def slotTaken : State := let s := entry0 0x6000 1 .armed; { s with tim := { s.tim with slot := [(1, 256001)] } }

/-- LaunchActions: an entry of each class on time, one-shot and repeating; a TEU that may step; a queue that takes a push; a source that
is enabled; this hub's own mailbox and another hub's; a late entry under each policy. -/
theorem witness_LaunchActions :
    (∀ cls ∈ [1, 2, 3, 4, 5, 6, 7, 8, 9, 10, 11], ∀ per ∈ [0, 1],
      let s := entry0 (per * 2 ^ 24 + cls * 4096) 1 .armed
      s.onTime 0 cls = true ∧ s.fabric = true ∧ (s.lent 0).action % 4096 < s.nAct ∧ modeArgOk (s.lent 0).w2.toNat = true ∧
      ((s.lent 0).per = 0 ↔ per = 0) ∧ (Nat.testBit (1 * 2 ^ (32 * 0)) 0 = true)) ∧
    (∀ b ∈ [0, 1], let s := ((entry0 0x6000 0 .armed).set TEU_CTL TEU_CTL_ENABLE b).setValid 0 true
      s.teuOn = true ∧ s.get TEU_CTL TEU_CTL_ENABLE = b ∧ s.teu.run = none ∧ s.teu.last = none ∧
      s.get TEU_STATUS TEU_STATUS_PENDV = 0 ∧ s.bankValid s.abank = true ∧ s.bankValid ((s.lent 0).w2.toNat % 2) = true) ∧
    (let s := (entry0 0x8000 1 .armed).wr (QM_Q_CFG 0) (BitVec.ofNat 32 (0x40000 + en))
     (s.lent 0).action % 4096 / 64 = 0 ∧ s.qlive 0 = true ∧ s.occ 0 + 2 ≤ s.qsize 0 ∧ (s.lent 0).w2 ++ s.rd (TIME_QLOW 0) ≠ emptyItem) ∧
    (let s := (entry0 0x9000 1 .armed).set (HIC_SRC_CFG 1) HIC_SRC_CFG_EN 1
     (s.lent 0).w2.toNat % 256 < 224 ∧ s.srcEn ((s.lent 0).w2.toNat % 256) = true) ∧
    (let s := (entry0 0xA000 1 .armed).set CAER_ID CAER_ID_HUB 0; (s.lent 0).action % 16 = s.hub) ∧
    (let s := ((entry0 0xA001 1 .armed).set (CAER_LINK_STAT 0) CAER_LINK_STAT_STATE 2).wr CAER_DIR 4
     (s.lent 0).action % 16 ≠ s.hub ∧ s.dirOf ((s.lent 0).action % 16) = some 0) ∧
    (∀ p ∈ [0, 1, 2], let s := entry0 (p * 2 ^ 27 + 0x1000) 1 .armed true 256000
      s.nextLate = some 0 ∧ (s.lent 0).policy = p ∧ (s.lent 0).action / 4096 = 1) := by
  decide +kernel

/-- LaunchActions: destinations that no other action has taken, and one that has. -/
theorem witness_LaunchActions_slots :
    (∀ cls ∈ [1, 2, 3, 4, 5, 6, 7, 8, 9, 10, 11], let s := entry0 (cls * 4096) 1 .armed
      ∀ d, d ∈ s.dests (s.lent 0) → ((tget s.tim.slot 0 d : Nat) + s.tim.adj).toNat ≤ (s.lent 0).due) ∧
    slotTaken.onTime 0 6 = true ∧ slotTaken.fabric = true ∧
    max slotTaken.time (slotTaken.tickSlot (slotTaken.lent 0)) = 256001 := by
  decide +kernel

/-- LaunchActions: a late entry for FLT that is dispatched before its execution tick. -/
theorem witness_LaunchActions_late :
    let s := entry0 (2 ^ 27 + 0x4000) 1 .armed true 255936
    s.nextLate = some 0 ∧ (s.lent 0).policy ≠ 0 ∧ (s.lent 0).toFlt = true ∧ max s.time (s.tickSlot (s.lent 0)) < (s.lent 0).exec := by
  decide +kernel

/-- LaunchActions: room on a link that is UP. -/
theorem witness_LaunchActions_room :
    (((entry0 0xA001 1 .armed).set (CAER_LINK_STAT 0) CAER_LINK_STAT_STATE 2).wr CAER_DIR 4).roomOn 0 := by
  unfold State.roomOn; decide +kernel

/-- OutputsUnderSoftware: a configuration word and a duty that are taken, duties at the limit and above it, and a mask. -/
theorem witness_OutputsUnderSoftware :
    (up.fabric = true ∧ (47 : Out).val < up.nAct ∧ up.outMode 47 = 0 ∧ (65536 : Word).toNat % 2 ^ 17 ≤ 65536 ∧
      65536 < (65537 : Word).toNat % 2 ^ 17) ∧
    (∀ v ∈ [0x100000, 0x11], fieldOf (BitVec.ofNat 32 v) ACT_OUT_CFG_SAFE ≠ 3 ∧ fieldOf (BitVec.ofNat 32 v) ACT_OUT_CFG_PHASE ≠ 3 ∧
      (fieldOf (BitVec.ofNat 32 v) ACT_OUT_CFG_MODE = 0 ↔ v = 0x100000)) ∧
    (2 ≤ fieldOf 2 ACT_OUT_CFG_MODE ∧ up.get (ACT_MAINS_STAT (fieldOf 2 ACT_OUT_CFG_PHASE)) ACT_MAINS_STAT_OK = 0) ∧
    (∃ k, k < up.nAct ∧ ((0x8000 : Word).toNat * 2 ^ (32 * 1)).testBit k = true) := by
  exact ⟨by decide +kernel, by decide +kernel, by decide +kernel, 47, by decide +kernel⟩

/-- A PWM output of generator 0, with a state. -/
def pwm (o : OutSt) (now : Nat := 0) : State := { (timed.wr (ACT_OUT_CFG 0) 1).modOut 0 fun _ => o with time := now }

/-- PwmGenerators: a cycle that has been started and one that has not, the end of the high part, and settings of 2 and of 1. -/
theorem witness_PwmGenerators :
    (let s := pwm { owned := true }; s.pow.pllT = true ∧ s.outMode 0 = 1 ∧ s.get (ACT_OUT_CFG 0) ACT_OUT_CFG_GEN = 0 ∧ 0 < s.nAct ∧
      (s.out 0).owned = true ∧ tget s.act.cycle none 0 ≠ some (s.cycleAt 0 s.time).1) ∧
    (let s := (pwm {}).startCycle 0 0 5; tget s.act.cycle none 0 = some (s.cycleAt 0 s.time).1 ∧
      s.time < (s.cycleAt 0 s.time).1 + (s.cycleAt 0 s.time).2) ∧
    (let s := pwm { owned := true, on := true, len := 100, high := 99 }
     s.pow.pllT = true ∧ s.outMode 0 = 1 ∧ (s.out 0).on = true ∧ (s.out 0).high < (s.out 0).len ∧ (s.out 0).owned = true) ∧
    (pwm {}).fabric = true ∧ 2 ≤ fieldOf 2 ACT_GEN_PER ∧ fieldOf 1 ACT_GEN_PER < 2 := by
  decide +kernel

/-- Phase 0 is tracked, and output 0 follows it in a mode. -/
def mains (m : MainsSt) (mode : Nat := 2) : State :=
  (((timed.set (ACT_MAINS_CFG 0) ACT_MAINS_CFG_EN 1).set (ACT_MAINS_STAT 0) ACT_MAINS_STAT_OK 1).wr (ACT_OUT_CFG 0) (BitVec.ofNat 32 mode)).setPhase
    0 m

/-- MainsPhases: the first edge; intervals at the limits of each range; the timeout; a crossing; and decisions. -/
theorem witness_MainsPhases :
    (let s := mains {}; s.pow.pllT = true ∧ s.get (ACT_MAINS_CFG 0) ACT_MAINS_CFG_EN = 1 ∧ s.fabric = true ∧ (s.phase 0).edge = none) ∧
    (let s := mains { edge := some 0 }; (s.phase 0).edge = some 0 ∧ ∀ a ∈ [3583999, 3584000, 3937280, 5688320, 5688321],
      max s.time a - 0 = a ∧ 0 ≤ max s.time a) ∧
    (∀ l ∈ [[], [{ z := 3000000, t := 5120000, told := true }]],
      let z : Cross := { z := 4000000, t := 5120000 }
      let s := mains { preds := l ++ [z] }; ((s.phase 0).preds.find? fun c => !c.told) = some z) ∧
    fieldOf 0 ACT_MAINS_CFG_EN = 0 ∧
    (∀ mode ∈ [2, 3], let z : Cross := { z := 4000000, t := 5120000, told := true }
      let s := (mains { preds := [{ z := 3000000, t := 5120000 }, z] } mode).modOut 0 fun o => { o with doneZ := some 3000000, doneB := some 3000000 }
      0 < s.nAct ∧ s.get (ACT_OUT_CFG 0) ACT_OUT_CFG_PHASE = 0 ∧ s.get (ACT_MAINS_STAT 0) ACT_MAINS_STAT_OK = 1 ∧ s.outMode 0 = mode ∧
      ((s.phase 0).preds.find? fun c => undecided (s.out 0).doneZ c.z) = some z ∧
      ((s.phase 0).preds.find? fun c => undecided (s.out 0).doneB c.z) = some z) := by
  decide +kernel

/-- RowArithmetic: no entries; a row whose result fits, and rows that do not. -/
theorem witness_RowArithmetic :
    let e := fun (c : Int) => ({ col := 0, row := 0, sect := 0, zero := 0, coef := c } : TEnt)
    let part := fun (op : Nat → Int) (es : List TEnt) k => ((es.take k).map fun e => e.coef * op e.col).sum
    (∀ k, k ≤ ([] : List TEnt).length → -2 ^ 63 ≤ part (fun _ => 0) [] k ∧ part (fun _ => 0) [] k < 2 ^ 63) ∧
    (∀ k, k ≤ [e 1, e 3].length → -2 ^ 63 ≤ part (fun _ => 2 ^ 20) [e 1, e 3] k ∧ part (fun _ => 2 ^ 20) [e 1, e 3] k < 2 ^ 63) ∧
    rowSum (fun _ => 2 ^ 20) [e 1, e 3] 0 = (4, false) ∧
    (∀ c ∈ ([2097152, -2097152] : List Int), ∀ k, k ≤ [e c].length → -2 ^ 63 ≤ part (fun _ => 2 ^ 30) [e c] k ∧ part (fun _ => 2 ^ 30) [e c] k < 2 ^ 63) ∧
    rowSum (fun _ => 2 ^ 30) [e 2097152] 0 = (2 ^ 31 - 1, true) ∧ rowSum (fun _ => 2 ^ 30) [e (-2097152)] 0 = (-2 ^ 31, false) ∧
    rowSum (fun _ => 2 ^ 30 + 1) [e (-2097152)] 0 = (-2 ^ 31, true) := by
  decide +kernel

/-- The TEU with ENABLE and its state. -/
def teu (b : Nat) (x : TeuSt) : State := { (timed.set TEU_CTL TEU_CTL_ENABLE b).setValid 0 true with teu := x }

/-- TeuUnderSoftware: ENABLE off and on; a step that can run and one that cannot; stores to the last entry, row and state word, in either
bank, with the low word held and without it; a store during a step. -/
theorem witness_TeuUnderSoftware :
    (∀ b ∈ [0, 1], let s := teu b {}
      s.fabric = true ∧ s.hasTeu = true ∧ s.flips = [] ∧ s.get TEU_CTL TEU_CTL_ENABLE = b ∧ s.pstate < 2 ∧ s.teu.run = none ∧
      s.teu.last = none ∧ s.get TEU_STATUS TEU_STATUS_PENDV = 0 ∧ s.bankValid s.abank = true ∧ s.abank = 0 ∧ s.teu.val = none ∧
      s.bankValid ((0 : Word).toNat % 2) = true ∧ 8191 < s.nTeu ∧
      s.mayStore .dbg (teuAddr 1 8191) = true ∧ s.mayStore .dbg (teuAddr 1 8191 + 4) = true ∧ s.mayStore .dbg (teuAddr 0 0) = true ∧
      s.teu.held = none) ∧
    (teu 0 { held := some (1, 8191, 5) }).teu.held = some (1, 8191, 5) ∧
    (∀ p ∈ [(0, 511), (1, 95), (2, 511), (3, 63)], p.2 < rowCount p.1) ∧
    (∀ n ∈ [0, 3], let s := (teu 0 {}).wr (TEU_BANK_CFG 0) (BitVec.ofNat 32 (n * 2 ^ 16))
      s.fabric = true ∧ s.hasTeu = true ∧ s.flips = [] ∧ s.teu.val = none ∧ s.nStates 0 = n) ∧
    (let s := teu 1 { run := some (⟨[], []⟩, 0) }; s.teu.run.isSome = true) ∧
    (let s := teu 1 { last := some 0 }; s.teu.last = some 0 ∧ s.raw < 0 + 12800) ∧
    (let s := { teu 1 { last := some 0 } with time := 12800 }; ∀ l, s.teu.last = some l → l + 12800 ≤ s.raw) := by
  decide +kernel

/-- A bank with one state and one entry. -/
def bank0 (ent nst : Nat) (x : TeuSt) : State :=
  { (teu 1 x).wr (TEU_BANK_CFG 0) (BitVec.ofNat 32 (nst * 2 ^ 16 + 1)) with mem := mwrites [] 0x200000 (bytesLE 6 ent) }

/-- TeuStepsAndValidation: a step that completes; validations that find no state, no fault and one fault. -/
theorem witness_TeuStepsAndValidation :
    (let s := bank0 5 1 { run := some (⟨[], []⟩, 0) }
     s.fabric = true ∧ s.teuOn = true ∧ s.flips = [] ∧ s.teu.run = some (⟨[], []⟩, 0) ∧ s.teu.defer = [] ∧ s.nStates s.abank ≤ 512) ∧
    (let s := bank0 5 0 { val := some 0 }; s.teu.val = some 0 ∧ s.teu.run = none ∧ s.nTeu ≤ 8192 ∧ s.nEnt 0 ≤ s.nTeu ∧ s.nStates 0 = 0) ∧
    (let s := bank0 5 1 { val := some 0 }
     s.nStates 0 ≠ 0 ∧ s.nEnt 0 = 1 ∧ ∀ k, k < s.nEnt 0 → s.reasons 0 (if k = 0 then none else some (s.entry 0 (k - 1))) (s.entry 0 k) = []) ∧
    (let s := bank0 0x1000005 1 { val := some 0 }; 0 < s.nEnt 0 ∧ s.reasons 0 none (s.entry 0 0) = [4]) := by
  decide +kernel

/-- The state with channel 0 of the AFE in a state, under a configuration. -/
def chan (cfg : Word) (x : AfeCh) : State := (timed.wr (AFE_CH_CFG 0) cfg).modA 0 fun _ => x

/-- Channel 0 in a restart, with a request that waits for its edge. -/
def asked (r : FltReq) : State := let s := chan 1 { restart := some 64 }; { s with flt := { s.flt with reqs := [r] } }

/-- As many bits as the window has left close it. -/
theorem cicAll_closes : ∀ (l : List Bool) (c : CicSt), l ≠ [] → c.n + l.length = 2048 → (cicAll c l).2.isSome = true
  | [], _, h, _ => absurd rfl h
  | [b], c, _, h => by
    have : ¬c.n + 1 < 2048 := by simp at h; omega
    simp [cicAll, CicSt.feed, this]
  | b :: d :: l, c, _, h => by
    have hn : c.n + 1 < 2048 := by simp at h; omega
    have := cicAll_closes (d :: l) (CicSt.feed c 3 2048 b.toNat).1 (by simp) (by simp [CicSt.feed, hn] at h ⊢; omega)
    simpa [cicAll] using this

/-- AnalogueChannels: words that enable, change, disable and leave a channel; one under test; a restart that ends; a channel that emits
bits; the reference; and a watch channel with 2,048 bits. -/
theorem witness_AnalogueChannels :
    up.fabric = true ∧ (95 : Chan).val < up.nCh ∧
    (∀ v ∈ [0x0, 0x1, 0x3], fieldOf (BitVec.ofNat 32 v) AFE_CH_CFG_INSEL < 4 ∧ fieldOf (BitVec.ofNat 32 v) AFE_CH_CFG_BO < 3 ∧
      fieldOf (BitVec.ofNat 32 v) AFE_CH_CFG_RANGE < 5) ∧
    (chan 1 {}).get (AFE_CH_CFG 0) AFE_CH_CFG_EN = 1 ∧ (chan 0 {}).get (AFE_CH_CFG 0) AFE_CH_CFG_EN = 0 ∧
    (chan 1 {}).underTest 0 = false ∧ fieldOf 3 AFE_CH_CFG_RANGE ≠ (chan 1 {}).get (AFE_CH_CFG 0) AFE_CH_CFG_RANGE ∧
    (let s := { chan 1 {} with afe := { test := some { loop := false, seq := false, now := [0], rest := [] } } }; s.underTest 0 = true) ∧
    (let s := chan 1 { restart := some 64 }
     (s.achan 0).restart = some 64 ∧ s.fabric = true ∧ s.pow.pllT = true ∧ s.get (AFE_CH_CFG 0) AFE_CH_CFG_EN = 1 ∧
       s.underTest 0 = false ∧ s.napped 0 = false ∧ s.behind 0 64 = false ∧ ((s.reqsTo 63).fch 0).alt = none ∧
       ((s.reqsTo 63).fch 0).pending = none) ∧
    (let s := asked { edge := 63, chan := some 0, prof := some 5 }
     (s.achan 0).restart = some 64 ∧ s.behind 0 64 = false ∧ ((s.reqsTo 63).fch 0).alt = none ∧
       ((s.reqsTo 63).fch 0).pending = none ∧ ((s.reqsTo 63).fch 0).prof = 5) ∧
    (chan 1 { valid := true }).emits 0 = true ∧
    (let s := up.set AFE_CTRL AFE_CTRL_REFEN 1; s.pow.phase = .up ∧ s.get AFE_CTRL AFE_CTRL_REFEN = 1 ∧
      s.get SYS_STATUS SYS_STATUS_AVDDLOW = 0) := by
  decide +kernel

/-- AnalogueChannels: a watch channel in OASIS. -/
theorem witness_AnalogueChannels_watch :
    let s := { inState 3 { phase := .oasis } with afe := { aoWatch := [(0, 1)] } }
    let bits := List.replicate 2048 false
    s.pow.phase = .oasis ∧ bits.length = 2048 ∧ fieldOf (tget s.afe.aoWatch 0 0) AFE_WATCH_CFG_EN = 1 ∧
      (cicAll (tget s.afe.aoCic {} 0) bits).2.isSome = true :=
  ⟨by decide +kernel, List.length_replicate, by decide +kernel, cicAll_closes _ _ (by decide) (by rw [List.length_replicate]; rfl)⟩

/-- A mask of channels 3 and 5, and a test. -/
def testing (t : Option TestSt) : State := { timed.wr (AFE_TEST_MASK 0) 0x28 with afe := { test := t } }

/-- WiringTests: a word for each kind of test; a mask of two channels and an empty one; a test that runs, at its last phase and before it,
with channels left and without; results of each kind. -/
theorem witness_WiringTests :
    (∀ v ∈ [0x101, 0x106], let s := testing none
      s.fabric = true ∧ s.pstate = 0 ∧ s.afe.test = none ∧ fieldOf (BitVec.ofNat 32 v) AFE_TEST_CTL_ABORT = 0 ∧
      fieldOf (BitVec.ofNat 32 v) AFE_TEST_CTL_DWELL ≠ 0 ∧ fieldOf (BitVec.ofNat 32 v) AFE_TEST_CTL_VLT ≠ 3 ∧
      (fieldOf (BitVec.ofNat 32 v) AFE_TEST_CTL_MODE = 1 ∨ fieldOf (BitVec.ofNat 32 v) AFE_TEST_CTL_MODE = 2)) ∧
    (testing none).masked = 3 :: [5] ∧ timed.masked = [] ∧ fieldOf 0xC0000101 AFE_TEST_CTL_ABORT = 1 ∧
    (∀ loop ∈ [true, false], ∀ rest ∈ [[], [5]], ∀ p ∈ [0, if loop then 3 else 1], ∀ x ∈ ([-16384, 7, 65534, 65535] : List Int),
      let q : TestSt := { loop := loop, seq := true, now := [3], rest := rest, phase := p }
      let s := (testing (some q)).set (AFE_CH_CFG 3) AFE_CH_CFG_EN 1
      s.fabric = true ∧ s.pstate = 0 ∧ s.afe.test = some q ∧ (p = 0 → q.phase < (if q.loop then 3 else 1)) ∧
      (∀ k, k ∈ q.now → ([((3 : Chan), x)].any fun r => r.1.val = k) = true) ∧ 5 ∉ q.now ∧
      ([((3 : Chan), x)].find? fun r => r.1.val = (3 : Chan).val) = some (3, x) ∧ s.get (AFE_CH_CFG 3) AFE_CH_CFG_EN = 1) := by
  decide +kernel

/-- A path of 64 bits to the window, `m` windows after its start, one bit before the end of the next. -/
def path64 (m : Nat) : PathSt := { a := 0, m := m, cic := { n := 63 } }

/-- Channel 0 with a filter, and FLT_CH_CFG. -/
def filter0 (x : FltCh) (valid : Bool) (cfg : Nat) : State :=
  ((chan 1 { valid := valid }).wr (FLT_CH_CFG 0) (BitVec.ofNat 32 cfg)).modF 0 fun _ => x

/-- SampleItems: a window that closes before the output is complete, while the flag is clear, and with each kind of sensor. -/
theorem witness_SampleItems :
    (∀ m ∈ [0, 2], ∀ cfg ∈ [0, 0x40100, 0x900], ∀ valid ∈ [true, false],
      let e := 64 * (m + 1) - 1
      let s := filter0 { main := some (path64 m), next := e } valid cfg
      let x := s.fch 0
      (s.reqsTo e).fch 0 = x ∧ s.behind 0 e = false ∧
      s.fabric = true ∧ s.pow.pllT = true ∧ x.due = some e ∧ x.next + [true].length = e + 1 ∧ s.syncAhead 0 e = false ∧
      s.restartAhead 0 e = false ∧ (s.reqsTo e).lowerDue 0 e = false ∧ (s.reqsTo e).napped 0 = false ∧ x.main = some (path64 m) ∧
      x.alt = none ∧ x.fade = 0 ∧
      ((path64 m).feedAll x.next [true]).2.isSome = true ∧ (s.achan 0).flagAt e = valid) ∧
    (∀ m ∈ [0, 2], (((path64 m).feedAll (64 * (m + 1) - 1) [true]).1.settles, ((path64 m).feedAll (64 * (m + 1) - 1) [true]).1.m) = (2, m + 1)) ∧
    (∀ cfg ∈ [0, 0x40100, 0x900], let s := filter0 { main := some (path64 2), next := 191 } true cfg
      s.get (FLT_CH_CFG 0) FLT_CH_CFG_SENSOR = cfg / 256 % 16 ∧ (cfg = 0x40100 → s.coldJunction 0 = none) ∧
      s.sourceOff (s.get (FLT_CH_CFG 0) FLT_CH_CFG_EXC) = true) ∧
    (∀ cfg ∈ [0x400, 0x900], let s := (filter0 { main := some (path64 2), next := 191 } true cfg).set (AFE_EXC_CFG 0) AFE_EXC_CFG_CUR 3
      s.get (FLT_CH_CFG 0) FLT_CH_CFG_SENSOR = cfg / 256 ∧ (s.coldJunction 0).isSome = true ∧
        s.sourceOff (s.get (FLT_CH_CFG 0) FLT_CH_CFG_EXC) = false) := by
  decide +kernel

/-- SampleItems: the queue, a rule whose condition is armed and one that is not, and the last item of a fade. -/
theorem witness_SampleItems_routes :
    (let s := ((filter0 {} true 0).wr (FLT_CH_ROUTE 0) 0x100).wr (QM_Q_CFG 0) (BitVec.ofNat 32 (0x40000 + en))
     let t := { s with qm := { s.qm with epochF := [(0, some 0)] } }
     t.get (FLT_CH_ROUTE 0) FLT_CH_ROUTE_QEN = 1 ∧ t.get (FLT_CH_ROUTE 0) FLT_CH_ROUTE_QSEL = 0 ∧
       tget t.qm.epochF none 0 = some (secOf (t.edgeTime 63)) ∧ t.qlive 0 = true ∧ t.occ 0 + 2 ≤ t.qsize 0) ∧
    (∀ arm ∈ [0, 3], let s := ((timed.wr (EVT_CFG 0) 0x300).set (EVT_FLAG 0) EVT_FLAG_ARM arm).wr (EVT_HYST 0) 0
      s.get (EVT_CFG 0) EVT_CFG_IN = 0 ∧ s.get (EVT_CFG 0) EVT_CFG_HIEN = 1 ∧ s.get (EVT_CFG 0) EVT_CFG_LOEN = 1 ∧
      (s.get (EVT_FLAG 0) EVT_FLAG_ARM).testBit 0 = (arm == 3) ∧ (s.get (EVT_FLAG 0) EVT_FLAG_ARM).testBit 1 = (arm == 3) ∧
      (s.rd (EVT_HI 0)).toInt ≤ 2 ^ 31 - 1) ∧
    (let p : PathSt := { a := 0, start := 150 }
     let s := filter0 { main := some p, alt := some (path64 2), next := 191 } true 0
     let x := s.fch 0
     x.due = some 191 ∧ (p.feedAll x.next [true]).2 = none ∧ x.alt = some (path64 2) ∧ x.pending = none ∧
       ((path64 2).feedAll x.next [true]).2.isSome = true ∧
       (let q1 := ((path64 2).feedAll x.next [true]).1; q1.settles < q1.m ∧ q1.f = 1)) := by
  decide +kernel

/-- SyncsAndSettings: SYNC_IN far enough from the last edge and too near; a sync that is due, for a channel without a path, with one
and with two; a channel that takes a request at once, on the next edge, or later; profiles; rule units. -/
theorem witness_SyncsAndSettings :
    timed.fabric = true ∧ timed.pow.pllT = true ∧ timed.flt.syncIn = none ∧
    (let s := { timed with time := 2560, flt := { syncIn := some 0, syncOut := some 0 } }
     s.flt.syncIn = some 0 ∧ s.flt.syncOut = some 0 ∧ ((max s.time 2560 : Int) - s.tim.adj).toNat - 0 = 2560) ∧
    (let s := { timed with flt := { syncIn := some 0 } }; ((max s.time 2559 : Int) - s.tim.adj).toNat - 0 < 2560) ∧
    (∀ x ∈ [{}, { main := some (path64 0) }, { main := some (path64 0), alt := some (path64 0) }],
      let s := { filter0 x true 0 with flt := { ch := [(0, x)], syncs := [{ edge := 5, mask := 1, out := true }] } }
      earliest s.flt.syncs = some { edge := 5, mask := 1, out := true } ∧ 0 ∈ s.grouped 1 ∧ s.fch 0 = x ∧
      (s.reqsTo 4).fch 0 = x ∧ (s.grouped 1).all (fun m => !s.behind m 5 && !s.restartAhead m 4) = true) ∧
    (∀ v ∈ [0, 5], fieldOf (BitVec.ofNat 32 v) FLT_CH_CFG_CJCH < timed.nCh ∧ fieldOf (BitVec.ofNat 32 v) FLT_CH_CFG_CJSEL ≠ 3 ∧
      fieldOf (BitVec.ofNat 32 v) FLT_CH_CFG_SENSOR = (filter0 {} true 0).get (FLT_CH_CFG 0) FLT_CH_CFG_SENSOR) ∧
    (∀ valid ∈ [true, false], ((filter0 {} valid 0).achan 0).flagAt 7 = valid) ∧ ((filter0 {} true 0).fch 0).main = none ∧
    (let s := fun (x : FltCh) => filter0 x true 0
     (∀ p ∈ [none, some 3], let y := (s { main := some (path64 0), alt := some (path64 0), pending := p }).fch 0
         y.main.isSome = true ∧ y.alt.isSome = true ∧ y.target ≠ 5) ∧
       (let y := (s { main := some (path64 0), prof := 5 }).fch 0; 5 = y.target ∧ y.alt = none) ∧
       (let y := (s { main := some (path64 0) }).fch 0; 5 ≠ y.target ∧ y.alt = none)) ∧
    (let s := filter0 { main := some (path64 0), alt := some { path64 0 with prof := 5, start := 9 } } true 0
     ∃ y, (s.fltNow.fch 0).alt = some y ∧ y.prof = (5 : Fin 8).val ∧ s.edgeNow < y.start) ∧
    (fieldOf 0x14 FLT_PROF_A_RESP = 0 ∧ fieldOf 0x14 FLT_PROF_A_D1SEL < 6) ∧ fieldOf 3 FLT_PROF_A_RESP = 3 ∧
    (1 ≤ fieldOf 0x10001 FLT_PROF_B_D2 ∧ fieldOf 0x10001 FLT_PROF_B_D2 ≤ fieldOf 0x10001 FLT_PROF_B_L2 ∧
      fieldOf 0x10001 FLT_PROF_B_L2 ≤ 4096) ∧ fieldOf 1 FLT_PROF_B_D2 = 0 ∧
    EvtReg.hi ≠ .cfg ∧ timed.inReserved (fieldOf 0 EVT_CFG_IN) = false := by
  decide +kernel

/-- SystemControl: VIO33 that returns with PORST_N low and with it high; the core supply before and after its warning, in a COLD reset and
in OASIS; the reference there and lost, with the PLLs locked and not; temperatures that arm and that raise. -/
theorem witness_SystemControl :
    (∀ b ∈ [true, false], let s := ({ up with pow := { porstLow := b } }).set SYS_STATUS SYS_STATUS_VIO33LOW 1
      s.pow.porstLow = b ∧ s.pow.vaoLow = false ∧ s.get SYS_STATUS SYS_STATUS_VIO33LOW = 1) ∧
    (∀ p ∈ [PowPhase.cold, .vcore, .lock, .warm], let s := { up with pow := { phase := p } }; s.inCold = true ↔ p ≠ .warm) ∧
    { up with pow := { phase := .oasis } }.pow.phase = .oasis ∧ up.inCold = false ∧
    (∀ b ∈ [true, false], let s := ({ up with pow := { pllT := b } }).set SYS_STATUS SYS_STATUS_REFOK 0
      s.fabric = true ∧ s.get SYS_STATUS SYS_STATUS_REFOK = 0 ∧ (s.pow.pllF && s.pow.pllT) = b) ∧
    up.pow.phase = .up ∧ up.flag SYS_STATUS SYS_STATUS_VCOREWARN = false ∧ up.fabric = true ∧
    (∀ k ∈ [0, 1], (up.set SYS_STATUS SYS_STATUS_REFOK k).get SYS_STATUS SYS_STATUS_REFOK = k) ∧
    (∀ k ∈ [0, 1], (up.set ACT_CTL ACT_CTL_SAFEREF k).get ACT_CTL ACT_CTL_SAFEREF = k) ∧ (∀ k ∈ [1, 3], (up.setServo k).servo = k) ∧
    up.pow.tempArmed = true ∧
    (let code := fun (x : Int) => (clampInt 1 255 (x + 64)).toNat
     let hi := up.get SYS_TEMPCFG SYS_TEMPCFG_TEMP_HI
     (∃ x, x ∈ [code 25, code 25, code 25, code 140] ∧ hi ≤ x) ∧
       ∀ x, x ∈ [code 25, code 25, code 25, code 25] → (x : Int) < hi - up.get SYS_TEMPCFG SYS_TEMPCFG_HYST ∧ x < hi) := by
  decide +kernel

/-- ColdReset: PORST_N with the supplies valid and not; each cause left alone; VCORE's rise with the counter at OPEN and at SCRAP; PLL_F's
lock with TEST low and high. -/
theorem witness_ColdReset :
    up.pow.vaoLow = false ∧ up.get SYS_STATUS SYS_STATUS_VIO33LOW = 0 ∧ { up with pow := { vaoLow := true } }.pow.vaoLow = true ∧
    (up.set SYS_STATUS SYS_STATUS_VIO33LOW 1).get SYS_STATUS SYS_STATUS_VIO33LOW ≠ 0 ∧
    (∀ k ∈ [0, 1], let s := ({ up with pow := { phase := .cold, porstLow := true, vaoLow := true } }).set SYS_STATUS SYS_STATUS_VIO33LOW k
      s.pow.phase = .cold ∧ s.pow.porstLow = true ∧ (s.get SYS_STATUS SYS_STATUS_VIO33LOW = 0 ↔ k = 0)) ∧
    (let s := { up with pow := { phase := .cold, porstLow := true, coldCauses := 1 } }; s.pow.phase = .cold ∧ s.pow.vaoLow = false) ∧
    (let s := { up with pow := { phase := .cold, vaoLow := true, coldCauses := 2 } }; s.pow.phase = .cold ∧ s.pow.porstLow = false) ∧
    (∀ n ∈ [2, 4], let s := { up with pow := { phase := .vcore }, fuse := { rowA := n, rowB := n } }
      s.pow.phase = .vcore ∧ max s.fuse.rowA s.fuse.rowB = n ∧ s.lcs.mark = false) ∧
    (∀ b ∈ [true, false], let s := { up with pow := { phase := .lock, pllF := false, testHigh := b } }
      s.pow.phase = .lock ∧ s.pow.pllF = false ∧ s.pow.pllT = false ∧ s.pow.testHigh = b) := by
  decide +kernel

/-- WarmAndAoResets: each cause from a fabric that runs; RESET_N in OASIS, before VCORE has risen and after; a wake with a WARM cause that
waits; RESET_N while a WARM reset is held; its release. -/
theorem witness_WarmAndAoResets :
    (∀ b ∈ [true, false], let s := inState 3 { phase := .oasis, waking := some 3, vcoreUp := b, warmAfterWake := !b }
      s.pow.phase = .oasis ∧ s.pow.vcoreUp = b ∧ s.pow.waking.isSome = true ∧ s.pow.warmAfterWake = !b) ∧
    (∀ p ∈ [PowPhase.up, .warm, .oasis],
      let t : State := { up with pow := { phase := p } }
      let s := (t.set (CORE_WDOG 8) CORE_WDOG_EN 1).modCore 8 fun x => { x with wd := t.wdTimeout 8 - 1 }
      s.pow.phase = p ∧ s.wdOn 8 = true ∧ (s.core 8).held = false ∧ s.wdTimeout 8 ≤ (s.core 8).wd + 1) ∧
    up.pow.phase = .up ∧ (let s := { up with lcs := { resetDue := true } }; s.lcs.resetDue = true) ∧
    (∀ k ∈ [0, 1], (up.set ACT_CTL ACT_CTL_SAFEWARM k).get ACT_CTL ACT_CTL_SAFEWARM = k) ∧
    (let s := { up with pow := { phase := .warm } }; s.pow.phase = .warm ∧ s.pow.resetnLow = false ∧ s.pow.vcoreLow = false) ∧
    (∀ c ∈ [(0 : Core), 7, 8], let s := (timed.set (CORE_WDOG c) CORE_WDOG_EN 1).modCore c fun x => { x with wd := timed.wdTimeout c }
      s.pow.pllT = true ∧ s.pstate < 2 ∧ s.wdOn c = true ∧ (s.core c).held = false ∧ s.wdTimeout c ≤ (s.core c).wd + 1) ∧
    (let g : Group := { frm := .fault 2 true, recs := [] }
     let l : List (Group × Bool) := [({ frm := .fault 7 true, recs := [] }, true)]
     let s := { up with jrn := { acked := (g, true) :: l } }
     s.pow.phase = .up ∧ s.jrn.acked = (g, true) :: l ∧ ∀ d < 2, ∀ a ∈ l, a.1.frm ≠ .fault d true) := by
  decide +kernel

/-- A header of a frame from hub 2 to hub 1. -/
def hdr : CaerHdr := { src := 2, dst := 1, hops := 0, bc := false, dstq := 0, lseq := 0, ackv := false, ackseq := 0 }

/-- Hub 1 with link 0 in a state of CAER_LINK_STAT, and what it holds of the link. -/
def line (k : Nat) (x : LinkSt := {}) : State :=
  { (timed.set CAER_ID CAER_ID_HUB 1).set (CAER_LINK_STAT 0) CAER_LINK_STAT_STATE k with caer := { link := [(0, x)] } }

/-- CaerLinks: EN off and on; each state; IDENT counts; IDENTs that fail for each reason and one that passes. -/
theorem witness_CaerLinks :
    (∀ v ∈ [0, 1], up.fabric = true ∧ (1 : Port).val < up.nCaer ∧ fieldOf (BitVec.ofNat 32 v) CAER_LINK_CFG_SYNCRATE ≠ 3 ∧
      (up.wr (CAER_LINK_CFG 0) (BitVec.ofNat 32 v)).get (CAER_LINK_CFG 0) CAER_LINK_CFG_EN = v ∧
      fieldOf (BitVec.ofNat 32 v) CAER_LINK_CFG_EN = v) ∧
    (∀ k ∈ [0, 1, 2, 3], (line k).fabric = true ∧ (line k).linkState 0 = k) ∧
    (∀ r ∈ [2, 3], ∀ t ∈ [1, 2, 3], ((line 1 { identRx := r, identTx := t }).link 0).identRx = r ∧
      ((line 1 { identRx := r, identTx := t }).link 0).identTx = t) ∧
    (line 1).hub = 1 ∧ (1 : BitVec 4).toNat = (line 1).hub ∧ (2 : BitVec 4).toNat ≠ (line 1).hub ∧ (line 1).upEnd 0 = false := by
  decide +kernel

/-- CaerLinks: acknowledgements that name a frame and that do not, and own frames; resends. -/
theorem witness_CaerLinks_acks :
    (let f : CFrame := { typ := 4, src := 1, lseq := 3 }
     let s := line 2 { unacked := [f] }
     let h := { hdr with ackv := true, ackseq := 3 }
     s.fabric = true ∧ s.linkUp 0 = true ∧ h.ackv = true ∧ h.src.toNat ≠ s.hub ∧ (s.link 0).unacked = [] ++ f :: [] ∧
       f.lseq = h.ackseq.toNat ∧ (s.link 0).waiting = [] ∧ s.caer.jbuf = [] ∧
       (∀ g ∈ (s.link 0).unacked, g.lseq ≠ (4 : BitVec 12).toNat) ∧ { hdr with src := 1 }.src.toNat = s.hub) ∧
    (∀ r ∈ [6, 7], let f : CFrame := { typ := 4, src := 1, resent := r }
      let s := line 2 { unacked := [{ f with resent := 0 }, f] }
      s.linkUp 0 = true ∧ (s.link 0).unacked ≠ [] ∧ ((s.link 0).unacked.all fun g => decide (g.resent < 7)) = decide (r = 6) ∧
      f ∈ (s.link 0).unacked ∧ (7 ≤ f.resent ↔ r = 7)) ∧
    ((line 2 { ackDue := true }).link 0).ackDue = true := by
  decide +kernel

/-- Links 0 and 1 are UP, hub 3 lies on link 1, and the pool of received launches has one entry. -/
def both : State :=
  (((line 2).set (CAER_LINK_STAT 1) CAER_LINK_STAT_STATE 2).wr CAER_DIR 0x80).wr TIME_BCPOOL 0x10000

/-- CaerReceives: a frame whose bytes and code groups are read back. -/
theorem witness_CaerReceives_frame :
    let f : CFrame := { typ := 11, hops := 15, src := 15, dst := 15, bc := true, dstq := 63, lseq := 4095, ackseq := some 4095,
                        payload := bytesLE 8 5 }
    f.typ < 12 ∧ f.hops < 16 ∧ f.src < 16 ∧ f.dst < 16 ∧ f.dstq < 64 ∧ f.lseq < 4096 ∧ f.ackseq.getD 0 < 4096 ∧
      f.payload.length % 8 = 0 ∧ f.payload.length ≤ 256 := by
  decide +kernel

/-- R357's header of a LAUNCH frame with the greatest fields; R354's idle and delimiters, as IEEE 802.3 prints their code groups. -/
theorem test_caer_frame :
    ({ typ := 4, hops := 15, src := 2, dst := 1, bc := true, dstq := 63, lseq := 0xABC, ackseq := some 0x123,
       payload := List.replicate 16 0 } : CFrame).header = [0x4F, 0x21, 0xC2, 0x3F, 0xBC, 0x0A, 0x23, 0x01] ∧
    laneCode false (laneIdle ++ laneIdle) = [0b0011111010, 0b1001000101, 0b0011111010, 0b1001000101] ∧
    laneCode true [.k28_5, .data 0x50] = [0b1100000101, 0b0110110101] ∧
    laneCode false [.k27_7, .k29_7] = [0b1101101000, 0b1011101000] ∧ readGroup false 0b0011110001 = none := by
  decide +kernel

/-- CaerReceives: a frame in order and one out of order, to this hub, to another one and broadcast, with the other link UP or not; this hub's
own; a pool with a free entry and without one; commands; items. -/
theorem witness_CaerReceives :
    both.fabric = true ∧ both.linkUp 0 = true ∧ hdr.ackv = false ∧ hdr.lseq.toNat = (both.link 0).expSeq ∧
    { hdr with lseq := 1 }.lseq.toNat ≠ (both.link 0).expSeq ∧ hdr.src.toNat ≠ both.hub ∧ { hdr with src := 1 }.src.toNat = both.hub ∧
    hdr.bc = false ∧ hdr.dst.toNat = both.hub ∧ (line 2).linkUp (1 - 0) = false ∧ both.roomOn (1 - 0) ∧ hdr.hops.toNat ≠ 15 ∧
    { hdr with dst := 3 }.dst.toNat ≠ both.hub ∧ { hdr with dst := 3 }.dst.toNat ≠ hdr.src.toNat ∧ both.dirOf 3 = some 1 ∧
    (both.get TIME_BCPOOL TIME_BCPOOL_BASE, both.get TIME_BCPOOL TIME_BCPOOL_COUNT) = (0, 1) ∧ (both.lent 0).st = .free ∧
    both.accepts (receivedEntry 2 1000000 1 0x1000 0) = true ∧ (receivedEntry 2 1000000 1 0x1000 0).journal = false ∧
    ({ both with tim := { table := [(0, { st := .armed })] } }.lent 0).st ≠ .free ∧ { hdr with src := 0 }.src.toNat = 0 ∧
    (let s := both.wr (QM_Q_CFG 0) (BitVec.ofNat 32 (0x40000 + en)); s.qlive 0 = true ∧ s.occ 0 + 2 < s.qsize 0 ∧ emptyItem ∉ [1, 2]) := by
  unfold State.roomOn; decide +kernel

/-- A record of 16 bytes with a good CRC, live or of a baseline, with JSEQ 8. -/
def record (base : Bool) : List Byte :=
  let b := bytesLE 4 8 ++ [if base then 0x40 else 0, 0, 0, 0, 0, 0, 0, 0]
  b ++ bytesLE 4 (crc32c b).toNat

/-- CaerReceives: a partner whose ring is kept, at each point of its stream; a hub without one. -/
theorem witness_CaerReceives_partner :
    (∀ l ∈ [none, some 7], ∀ b ∈ [0, 1], ∀ bad ∈ [true, false], let s := { ((line 2).set CAER_PAIR_STAT CAER_PAIR_STAT_STATE 2).set JRN_PCFG JRN_PCFG_PLINES 16 with
                                             jrn := { pLast := l, pBad := bad } }
      let t := s.set JRN_PSTAT JRN_PSTAT_BASELINE b
      t.mirrors = true ∧ t.pair = 2 ∧ (0 : Port).val = t.plink ∧ t.get JRN_PCFG JRN_PCFG_PLINES ≠ 0 ∧ t.jrn.pLast = l ∧
      t.get JRN_PSTAT JRN_PSTAT_BASELINE = b ∧ t.jrn.pBad = bad ∧ t.get JRN_PSTAT JRN_PSTAT_FROZEN = 0) ∧
    (∀ b ∈ [true, false], recordOk (record b) = true ∧ isBase (record b) = b ∧ ofBytesLE ((record b).take 4) = (7 + 1) % 2 ^ 32) ∧
    recordOk [] = false ∧ (7 : Word).toNat = 7 ∧ (line 2).pair ≠ 2 := by
  decide +kernel

/-- CaerTimeAndSends: an upstream end and a downstream one, exchanges open and closed; mailboxes; a forwarder with an item and
without one; line commands; an export. -/
theorem witness_CaerTimeAndSends :
    (let s := (line 2).set CAER_ID CAER_ID_HUB 0; s.fabric = true ∧ s.pow.pllT = true ∧ s.linkUp 0 = true ∧ s.upEnd 0 = true ∧
      hdr.ackv = false ∧ hdr.src.toNat ≠ s.hub) ∧
    (line 2).upEnd 0 = false ∧ hdr.src.toNat ≠ (line 2).hub ∧
    ((line 2 { exUp := some (5, 6) }).link 0).exUp = some (5, 6) ∧ ((line 2 { exDown := some (6, 5, 7, 8) }).link 0).exDown = some (6, 5, 7, 8) ∧
    fieldOf 1 CAER_MSGTX_HUB_HUB = both.hub ∧ fieldOf 3 CAER_MSGTX_HUB_HUB ≠ both.hub ∧ both.dirOf 3 = some 1 ∧ both.roomOn 1 ∧
    (let s := both.set (CAER_LINK_STAT 1) CAER_LINK_STAT_STATE 1; s.dirOf 3 = some 1 ∧ s.linkUp 1 = false) ∧
    (∀ o ∈ [0, 2], let s := ((both.wr (CAER_QFWD 0) 0x80030000).wr (QM_Q_CFG 0) (BitVec.ofNat 32 (0x40000 + en))).setQ 0 { wr := o }
      s.get (CAER_QFWD 0) CAER_QFWD_EN = 1 ∧ s.get (CAER_QFWD 0) CAER_QFWD_SRCQ = 0 ∧ s.qlive 0 = true ∧ s.avail 0 = o ∧
      s.get (CAER_QFWD 0) CAER_QFWD_DSTHUB = 3 ∧ s.flips = []) := by
  unfold State.roomOn; decide +kernel

/-- CaerTimeAndSends: line commands and an export. -/
theorem witness_CaerTimeAndSends_commands :
    fieldOf 0 CAER_CMD_KEY ≠ 0x5C3A ∧ fieldOf 0x5C3A0003 CAER_CMD_KEY = 0x5C3A ∧ fieldOf 0x5C3A0003 CAER_CMD_ALL = 0 ∧ both.hub ≠ 0 ∧
    (let s := both.set CAER_ID CAER_ID_HUB 0; s.hub = 0 ∧ s.dirOf (fieldOf 0x5C3A0003 CAER_CMD_HUB) = some 1 ∧ s.roomOn 1) ∧
    (let s := (both.set CAER_PEXP_CFG CAER_PEXP_CFG_TRIG 2).wr (CAER_PEXP 5) 0x83000000
     s.pow.pllT = true ∧ s.get CAER_PEXP_CFG CAER_PEXP_CFG_TRIG = 2 ∧
       (∀ k, k < 16 → s.get (CAER_PEXP k) CAER_PEXP_EN = if k = 5 then 1 else 0) ∧ s.get (CAER_PEXP 5) CAER_PEXP_BCAST = 0 ∧
       s.dirOf (s.get (CAER_PEXP 5) CAER_PEXP_DSTHUB) = some 1 ∧ s.roomOn 1) := by
  unfold State.roomOn; decide +kernel

/-- The pair in a state, with the partner's number above or below this hub's. -/
def paired (k phub : Nat) (c : CaerSt) : State :=
  ({ line 2 with caer := c }.set CAER_PAIR_STAT CAER_PAIR_STAT_STATE k).set CAER_PAIR_STAT CAER_PAIR_STAT_PHUB phub

/-- TheMirrorPair: PEN written 1 and 0; each state; a partner that is ready; TAKEOVER high and low; either hub of the pair. -/
theorem witness_TheMirrorPair :
    (∀ v ∈ [0, 1], let w := BitVec.ofNat 32 v; fieldOf w CAER_PAIR_CFG_RELEASE = 0 ∧ fieldOf w CAER_PAIR_CFG_RETRY = 0 ∧
      fieldOf w CAER_PAIR_CFG_TAKE = 0 ∧ fieldOf w CAER_PAIR_CFG_PEN = v) ∧
    (∀ k ∈ [0, 1, 2, 3, 4, 6], let s := paired k 2 {}; s.fabric = true ∧ s.mirrors = true ∧ s.pair = k ∧ s.caer.takeLow = false) ∧
    (paired 2 2 {}).hub < (paired 2 2 {}).get CAER_PAIR_STAT CAER_PAIR_STAT_PHUB ∧
    ¬(paired 2 0 {}).hub < (paired 2 0 {}).get CAER_PAIR_STAT CAER_PAIR_STAT_PHUB ∧
    (paired 5 2 { takeLow := true }).caer.takeLow = true ∧ (paired 2 2 {}).roomOn (paired 2 2 {}).plink ∧
    (let s := paired 2 2 { pairOkLow := false, takeDelay := true }; s.caer.pairOkLow = false ∧ s.caer.takeDelay = true ∧ s.pair = 2) ∧
    (∀ k ∈ [0, 1], ((paired 2 2 {}).set CAER_PAIR_CFG CAER_PAIR_CFG_AUTOTK k).get CAER_PAIR_CFG CAER_PAIR_CFG_AUTOTK = k) ∧
    ((((paired 1 2 { pairOkLow := false, partnerPairOkLow := false, link := [(0, { partner := 1 })] }).set CAER_PAIR_CFG CAER_PAIR_CFG_PEN 1).wr
      (CAER_LINK_STAT 0) 0x2202)).pairReady = true := by
  unfold State.roomOn; decide +kernel

/-- A frame of 60 bytes to an address, with an EtherType. -/
def eframe (dst : List Byte) (t : List Byte) (body : List Byte := []) : List Byte :=
  dst ++ List.replicate 6 2 ++ t ++ body ++ List.replicate (46 - body.length) 0

/-- An address that no hub has, and a PTP Sync to all. -/
def other : List Byte := eframe [0, 1, 2, 3, 4, 5] [8, 6]
def sync : List Byte := eframe [1, 0x1B, 0x19, 0, 0, 0] [0x88, 0xF7] [0, 2]

/-- Both ports are on and bridged, with rings of 4 slots at 0x1000 and 0x8000. -/
def eth (x : EthSt := {}) : State :=
  let s := ((timed.wr ETH_CTL 7).set (ETH_PORT_CFG 0) ETH_PORT_CFG_EN 1).set (ETH_PORT_CFG 1) ETH_PORT_CFG_EN 1
  { (((s.wr ETH_RX_BASE 0x1000).wr ETH_RX_CFG 4).wr ETH_TX_BASE 0x8000).wr ETH_TX_CFG 4 with eth := x }

/-- Ethernet: a bad frame; one for the other port, with room and without; one for this hub, with a free slot and a full one. -/
theorem witness_Ethernet_receive :
    (let s := eth; s.fabric = true ∧ (0 : Port).val < s.nEth ∧ s.get (ETH_PORT_CFG 0) ETH_PORT_CFG_EN = 1 ∧ s.flips = []) ∧
    frameGood other false = false ∧ frameGood other true = true ∧ eth.forwards 0 other = true ∧ (eth.route other).inside = false ∧
    eth.ethRoom 1 other = true ∧
    (eth { lo := [(1, List.replicate 256 { bytes := other })] }).ethRoom 1 other = false ∧
    (let l := eframe [0, 0, 0, 0, 0, 0] [8, 6]
     frameGood l true = true ∧ eth.forwards 0 l = false ∧ (eth.route l).inside = true ∧ eth.get ETH_CTL ETH_CTL_RXEN = 1 ∧
       (eth.rd ETH_RX_BASE).toNat + 1536 * eth.get ETH_RX_CFG ETH_RX_CFG_HEAD + 1536 ≤ 0x100000 ∧ (eth.mrd 0x1000 4).testBit 31 = false ∧
       ({ eth with mem := [(0x1003, 0x80)] }.mrd 0x1000 4).testBit 31 = true ∧ ptpOf l = none) := by
  decide +kernel

/-- Ethernet: frames that leave: an event message across a step and within one, and another frame. -/
theorem witness_Ethernet_forward :
    (∀ k ∈ [0, 1], let f : EFrame := { bytes := sync, src := some 1, steps := k }
      let s := (eth { hi := [(0, [f])] }).set ETH_PTP_CFG ETH_PTP_CFG_TCMODE 1
      s.nextEgress 0 = some f ∧ s.fabric = true ∧ s.portOn 0 = true ∧ f.src.isSome = true ∧ isEvent f.bytes = true ∧
      ptpOf f.bytes = some ⟨14, false⟩ ∧ ptpType f.bytes ⟨14, false⟩ = 0 ∧ s.tim.steps = 0 ∧ s.tcMode = 1 ∧ 14 + 16 ≤ f.bytes.length) ∧
    isEvent other = false := by
  decide +kernel

/-- A transmit slot with its header and a frame. -/
def slotted (w0 : Nat) : State := { eth.wr ETH_TX_TAIL 1 with mem := mwrites [] 0x8000 (bytesLE 4 w0 ++ List.replicate 12 0 ++ other) }

/-- Ethernet: a transmit slot that is taken and one that is refused; a frame that has gone; the tail, the rings and the management interface. -/
theorem witness_Ethernet_transmit :
    (∀ p ∈ [(0x8000003C, false), (0x0000003C, true)], let s := slotted p.1
      let body := (List.range (min 1518 (p.1 % 2 ^ 11))).map fun i => mget s.mem (0x8000 + 16 + i)
      s.fabric = true ∧ 0 < s.nEth ∧ s.get ETH_CTL ETH_CTL_TXEN = 1 ∧ s.eth.tx = none ∧
      s.get ETH_TX_CFG ETH_TX_CFG_HEAD ≠ s.get ETH_TX_TAIL ETH_TX_TAIL_TAIL ∧ s.flips = [] ∧
      (s.rd ETH_TX_BASE).toNat + 1536 * s.get ETH_TX_CFG ETH_RX_CFG_HEAD = 0x8000 ∧ s.mrd 0x8000 4 = p.1 ∧ s.slotBad p.1 body = p.2 ∧
      ((portsOf (p.1 / 2 ^ 28 % 4)).filter (· < s.nEth)) = [0] ∧ s.ethRoom 0 body = true) ∧
    (∀ w0 ∈ [0x8000003C, 0x8D00003C], ∀ body ∈ [other, other.take 20], let x : TxSlot := { slot := 0, addr := 0x8000, w0 := w0, ports := [0] }
      let s := eth { tx := some x, lo := [(0, [{ bytes := body }])] }
      s.eth.tx = some x ∧ s.fabric = true ∧ x.ports = [0] ∧ s.txNext 0 = true ∧ s.nextEgress 0 = some { bytes := body } ∧ x.w0 < 2 ^ 32 ∧
      x.addr + 1536 ≤ 0x100000 ∧ s.get ETH_TX_CFG ETH_TX_CFG_HEAD = x.slot) ∧
    fieldOf 3 ETH_TX_TAIL_TAIL < eth.get ETH_TX_CFG ETH_TX_CFG_COUNT ∧ eth.get ETH_TX_CFG ETH_TX_CFG_COUNT ≤ fieldOf 4 ETH_TX_TAIL_TAIL ∧
    fieldOf 0xA0000000 ETH_MDIO_START = 1 ∧ fieldOf 0xA0000000 ETH_MDIO_OP = 2 ∧ eth.eth.mdio = none ∧
    (eth { mdio := some true }).eth.mdio = some true ∧ ({ up with variant := .gls9624 } : State).nEth = 0 ∧
    timed.get ETH_CTL ETH_CTL_RXEN = 0 ∧ fieldOf 1 ETH_CTL_RXEN = 1 := by
  decide +kernel

/-- Port 0 of the two-wire ports, enabled with both roles and a timeout, with a window of 16 bytes at 0x2000, and a state. -/
def twp (x : TwpPort := {}) (cfg : Word := 0x01000007) : State :=
  { (((up.wr (TWP_CFG 0) cfg).wr (TWP_WBASE 0) 0x2000).wr (TWP_WSIZE 0) 15).wr (TWP_WLIM 0) 8 with twp := [(0, x)] }

/-- TwoWirePorts: addresses that are answered and not; pointer bytes, of one and of two, within the window and beyond it; data within
WRLIM and beyond it; a read; STOPs; timeouts. -/
theorem witness_TwoWirePorts_target :
    (twp.twOn 0 = true ∧ twp.answers 0 0x58 = true ∧ twp.answers 0 0x59 = false ∧ twp.flips = []) ∧
    (∀ xf ∈ [some true, some false], ((twp { xfer := xf, seen := true }).tw 0).xfer = xf ∧ ((twp { xfer := xf, seen := true }).tw 0).seen = true) ∧
    (let s := twp { xfer := some false } 0x01000027; (s.tw 0).np + 1 < s.ptrLen 0) ∧
    (let s := twp { xfer := some false, np := 1 } 0x01000027; (s.tw 0).np < s.ptrLen 0 ∧ s.ptrLen 0 ≤ (s.tw 0).np + 1 ∧ s.fore 0 = false ∧
      256 * (s.tw 0).hi + (15 : Byte).toNat < s.winSize 0 ∧ s.winSize 0 ≤ 256 * (s.tw 0).hi + (16 : Byte).toNat) ∧
    (∀ q ∈ [(7, true), (8, false)], let s := (twp { xfer := some false, np := 1 }).setPtr 0 q.1
      s.ptrLen 0 ≤ (s.tw 0).np ∧ (decide (s.twOff 0 < s.get (TWP_WLIM 0) TWP_WLIM_WRLIM)) = q.2 ∧ s.twAddr 0 < 0x100000) ∧
    ((twp.tw 0).seen = false ∧ twp.get (TWP_CFG 0) TWP_CFG_TOUT ≠ 0) ∧
    (up.fabric = true ∧ (twp.setPtr 0 15).twPtr 0 = 15 ∧ twp.winSize 0 = 16) := by
  decide +kernel

/-- TwoWirePorts: commands on a free bus and a busy one, to the port's own address, while one runs; a bus that becomes free; held
configuration; each way to end. -/
theorem witness_TwoWirePorts_controller :
    (twp.twCtl 0 = true ∧ fieldOf 0x80100201 TWP_CCMD_ABORT = 0 ∧ fieldOf 0x80100201 TWP_CCMD_RECOVER = 0 ∧ (twp.tw 0).cmd = none ∧
      twp.answers 0 (fieldOf 0x80100201 TWP_CCMD_ADDR) = false ∧ twp.answers 0 (fieldOf 0x80580201 TWP_CCMD_ADDR) = true) ∧
    (∀ b ∈ [true, false], ((twp { busy := b }).tw 0).busy = b) ∧
    (∀ run ∈ [true, false], ∀ rec ∈ [true, false], let c : TwpCmd := { recover := rec, wlen := 2, rlen := 1, cbuf := 0x3000, run := run }
      let s := twp { cmd := some c }
      s.fabric = true ∧ s.twOn 0 = true ∧ s.twCtl 0 = true ∧ (s.tw 0).cmd = some c ∧ (s.tw 0).held = [] ∧ c.run = run ∧
      c.recover = rec ∧ c.wlen < 256 ∧ c.rlen < 256 ∧ c.rlen ≤ [(5 : Byte)].length ∧ c.cbuf + c.wlen + c.rlen ≤ 0x100000 ∧
      s.get (TWP_CFG 0) TWP_CFG_TOUT ≠ 0 ∧ s.flips = [] ∧ 1 < c.wlen ∧ c.wlen ≤ 2) ∧
    (let s := twp { busy := true, held := [(TWP_WLIM 0, 4)] }
     (s.tw 0).held = [(TWP_WLIM 0, 4)] ∧ (s.tw 0).cmd = none ∧ s.winOk 0 = true ∧ s.fabric = true) := by
  decide +kernel

/-- TwoWirePorts: held settings that take effect when the bus is free, before a command to an address they take and to another. -/
theorem witness_TwoWirePorts_self :
    ∀ rec ∈ [true, false], ∀ a ∈ [0x57, 0x58], let c : TwpCmd := { recover := rec, addr := a }
    let s := twp { cmd := some c, held := [(TWP_CFG 0, 7)] } 0x01000003
    s.fabric = true ∧ s.twCtl 0 = true ∧ (s.tw 0).held = [(TWP_CFG 0, 7)] ∧ (s.tw 0).cmd = some c ∧ c.run = false ∧
    (twp.answers 0 c.addr = true ↔ a = 0x58) ∧ fieldOf 7 TWP_CFG_EN = 1 ∧ fieldOf 7 TWP_CFG_ROLE = 3 ∧ fieldOf 7 TWP_CFG_ADDRMODE = 0 ∧
    (c.addr = 0x58 + s.pow.addrSampled.toNat ↔ a = 0x58) ∧ s.get (TWP_WBASE 0) TWP_WBASE_BASE + s.winSize 0 ≤ 0x100000 := by
  decide +kernel

/-- An entry of the section table for a body at an offset (R403). -/
def sectEntry (typ at_ : Nat) (body : List Byte) : List Byte :=
  bytesLE 4 typ ++ bytesLE 4 at_ ++ bytesLE 4 body.length ++ bytesLE 4 (crc32c body).toNat ++ sha256 body

/-- The header and the section table of an image with SEQ 5 and a length (R402). -/
def imageHead (len : Nat) (l : List (List Byte)) : List Byte :=
  let h := [0x47, 0x4C, 0x52, 0x53, 1, 0, 0, 0] ++ bytesLE 4 1 ++ bytesLE 4 5 ++ [0, BitVec.ofNat 8 l.length, 0, 7] ++ bytesLE 4 len ++
    List.replicate 36 0
  h ++ bytesLE 4 (crc32c h).toNat ++ l.flatten

/-- The public key of the secret key 1: the base point. -/
def keyG : List Byte := bytesBE 32 ecG.x ++ bytesBE 32 ecG.y

/-- An image of one empty section, with a signature that the test's author computed with the secret key 1 and the nonce 1. -/
def signedImage : List Byte :=
  imageHead 240 [sectEntry 0x30 240 []] ++ keyG ++ bytesBE 32 ecG.x ++
    bytesBE 32 0x883348f9c442c165d9441e88c60b09d86a2c8836d655707b8127214a659e7c90

/-- A load in a phase, with an image from slot 0. -/
def loading (phase : Nat) (head : List Byte) (b : BootSt := {}) : State :=
  let x := { b with load := some .cold, src := .slot 0, img := { head := head } }
  { up.set BOOT_STATUS BOOT_STATUS_PHASE phase with boot := x }

/-- The retained copy of an image that has an AO section. -/
def retained : RetSt := { copy := { head := imageHead 248 [sectEntry 0x1E 240 (List.replicate 8 0)] }, valid := true }

/-- A fast read with 2 mode and 4 dummy cycles. -/
def fast : FastRead := { instr := 0xEB, mode := 2, dummy := 4 }

/-- What a flash's tables say, with QER 0 and the fast reads given (R398, R399). -/
def sfdp (dwords density : Nat) (quad fourByte r144 r114 : Bool) : Sfdp :=
  let on := fun (b : Bool) => if b then some fast else none
  { present := true, major := 1, dwords, density, qer := if quad then 0 else 1, qe := false
    fourByte := if fourByte then some { r111 := 0x13, r112 := 0x3C, r122 := 0xBC, r114 := 0x6C, r144 := 0xEC } else none
    r144 := on r144, r114 := on r114, r122 := on true, r112 := on true }

/-- BootAndFlash: what a load begins with, in BLANK and in OPEN, from flash and from the copy. -/
theorem witness_BootAndFlash_start :
    (∀ p ∈ [(Load.cold, 0), (.cold, 2), (.warm, 2), (.wake, 2), (.aoreset, 2)],
      let s := { up with lcs := { counter := p.2 }, boot := { due := [p.1], ret := if p.1 = Load.aoreset then retained else {} } }
      s.fabric = true ∧ s.boot.due = p.1 :: [] ∧ s.boot.load = none ∧ (s.lcState < 2 ↔ p.2 = 0) ∧
      (s.boot.ret.valid = true ↔ p.1 = Load.aoreset)) ∧
    (retained.copy.retained.any fun k => appliesOn Load.aoreset (retained.copy.sect k) (tget retained.copy.bodies [] k)) = true := by
  decide +kernel

/-- BootAndFlash: heads without the magic bytes; one that passes; a signature that is right and one that is not. -/
theorem witness_BootAndFlash_heads :
    (let s := loading 1 []; s.fabric = true ∧ s.boot.load.isSome = true ∧ s.get BOOT_STATUS BOOT_STATUS_PHASE = 1 ∧
      4 ≤ (List.replicate 4 (0 : Byte)).length ∧ (List.replicate 4 (0 : Byte)).take 4 ≠ [0x47, 0x4C, 0x52, 0x53] ∧
      (let one : Image := { head := signedImage, slot := 0, density := 0 }
       signedImage.length = 0x40 + 48 * one.nsect + 128 ∧ s.reason one = 0)) ∧
    (let s := loading 3 signedImage; s.get BOOT_STATUS BOOT_STATUS_PHASE = 3 ∧ s.boot.src = .slot 0 ∧ s.boot.img.signatureOk = true ∧
      1 ≤ s.boot.img.nsect) ∧
    (let s := loading 3 []; s.boot.img.signatureOk = false ∧ s.boot.queue = []) ∧
    (∀ w ∈ [8, 9], let f := sfdp w (2 ^ 25) true false true false
      (f.present = true ∧ 1 ≤ f.major ∧ 9 ≤ f.dwords ↔ w = 9) ∧ f.qer = 0 ∧ f.r144 = some fast ∧ f.fourByte = none ∧ 2 ^ 25 ≤ f.density % 2 ^ 32 ∧
      (loading 1 []).boot.mode4 = false) ∧
    (∀ b ∈ [true, false], let f := sfdp 9 (2 ^ 24) true b false b
      f.qer = 0 ∧ f.r144 = none ∧ f.r114.isSome = b ∧ (f.fourByte.isSome = true ∨ f.density % 2 ^ 32 ≤ 2 ^ 24)) ∧
    (let f := sfdp 9 0 false false true true; ¬(f.qer = 0 ∨ f.qe = true)) := by
  decide +kernel

/-- BootAndFlash: a last section that fails and one that passes, with an image committed and none; a data section with one after it. -/
theorem witness_BootAndFlash_sections :
    (∀ ret ∈ [({} : RetSt), { committed := some 4 }], let s := loading 4 signedImage { ret := ret }
      let sect := s.boot.img.sect s.boot.idx
      s.get BOOT_STATUS BOOT_STATUS_PHASE = 4 ∧ s.boot.applied = false ∧ s.boot.src = .slot 0 ∧ s.boot.idx + 1 = s.boot.img.nsect ∧
      ([] : List Byte).length = sect.len ∧ sect.typ = 0x30 ∧ s.boot.load = some .cold ∧ (crc32c []).toNat = sect.scrc ∧
      sha256 [] = sect.digest ∧ s.boot.held = [] ∧ s.boot.touched = [] ∧ s.boot.queue = [] ∧ s.boot.img.coldResume = false ∧
      s.boot.img.seq = 5) ∧
    (let s := loading 4 (imageHead 241 [sectEntry 0x30 240 [1]])
     let sect := s.boot.img.sect s.boot.idx
     [(0 : Byte)].length = sect.len ∧ (crc32c [0]).toNat ≠ sect.scrc) ∧
    (let body : List Byte := [0, 1, 0, 0, 9]
     let s := loading 4 (imageHead 288 [sectEntry 0x20 288 body, sectEntry 0x30 296 []])
     let sect := s.boot.img.sect s.boot.idx
     s.boot.idx + 1 < s.boot.img.nsect ∧ sect.typ = 0x20 ∧ body.length = sect.len ∧ 4 ≤ body.length ∧
       ofBytesLE (body.take 4) + (body.length - 4) ≤ 0x100000 ∧ (crc32c body).toNat = sect.scrc ∧ sha256 body = sect.digest ∧ s.flips = []) := by
  decide +kernel

/-- BootAndFlash: a copy that is being stored; keys; flash commands that are refused, that read and that write; polls. -/
theorem witness_BootAndFlash_flash :
    (let s := { up with boot := { copying := true } }; s.fabric = true ∧ s.boot.copying = true) ∧
    (let s := up.set BOOT_STATUS BOOT_STATUS_TRIAL 1; s.get BOOT_STATUS BOOT_STATUS_TRIAL = 1 ∧ fieldOf 0x3D710001 BOOT_COMMIT_KEY = 0x3D71 ∧
      fieldOf 0x3D710001 BOOT_COMMIT_COMMIT = 1 ∧ fieldOf 1 BOOT_COMMIT_KEY ≠ 0x3D71) ∧
    fieldOf 0x3D710001 BOOT_UPDATE_KEY = 0x3D71 ∧ fieldOf 1 BOOT_UPDATE_KEY ≠ 0x3D71 ∧ up.lcs.waiting = none ∧
    (let s := (up.wr BOOT_FLEN 4).wr BOOT_FBUF 0xFFFFC
     up.get BOOT_FSTAT BOOT_FSTAT_BUSY = 0 ∧ fieldOf 0x400000 BOOT_FCMD_WREN = 1 ∧ fieldOf 0x400000 BOOT_FCMD_ADDREN = 0 ∧
       fieldOf 0x9F BOOT_FCMD_WREN = 0 ∧ fieldOf 0x9F BOOT_FCMD_WRITE = 0 ∧ [(0 : Byte), 1, 2, 3].length = s.get BOOT_FLEN BOOT_FLEN_LEN ∧
       s.get BOOT_FBUF BOOT_FBUF_BASE + s.get BOOT_FLEN BOOT_FLEN_LEN ≤ 0x100000 ∧ fieldOf 0x1C00002 BOOT_FCMD_WREN = 1 ∧
       fieldOf 0x1C00002 BOOT_FCMD_ADDREN = 1 ∧ fieldOf 0x1C00002 BOOT_FCMD_WRITE = 1 ∧ s.boot.run.head = []) ∧
    (let s := up.set BOOT_FSTAT BOOT_FSTAT_BUSY 1; s.get BOOT_FSTAT BOOT_FSTAT_BUSY = 1 ∧ (2 : Byte).toNat % 2 = 0 ∧ (1 : Byte).toNat % 2 = 1) := by
  decide +kernel

/-- A group of one LCS-EVENT record, or of one record of kind 1 for entry 3. -/
def event : Group := { frm := .lcs, recs := [{ kind := 8, src := 1, argd := 0, body := [0] }] }
def commit3 : Group := { frm := .launch 3, recs := [{ kind := 1, src := 2, argd := 3, body := [7, 0, 0, 0, 0] }] }

/-- The hub with what the journal holds. -/
def jrnl (j : JrnSt) : State := { up with jrn := j }

/-- What a table with one entry holds: it stands for one flipped bit of a word of the staging SRAM. -/
theorem single {α : Type} (k : Nat) (v d : α) (n : Nat) : tget [(k, v)] d n = if n = k then v else d := by
  simp only [tget]; split <;> split <;> simp_all

/-- JournalLines: groups that are always taken and others, with room in staging and without it; acknowledgements. -/
theorem witness_JournalLines_groups :
    (let full := List.replicate 54 (List.replicate 64 (0 : Byte))
     ∀ l ∈ [[], full], let s := (jrnl { handed := [commit3], lines := l }).set JRN_POLICY JRN_POLICY_KINDEN 0x3F
      let lines := ((groupBytes s.jseq false commit3.recs).foldl JrnSt.stage s.jrn).lines
      s.jrn.handed = commit3 :: [] ∧ s.fabric = true ∧ commit3.sure = false ∧ (commit3.recs.all (fun r => s.kindOn r.kind) = true) ∧
      (lines.length ≤ max s.jrn.lines.length 54 ↔ l = []) ∧ s.listFull commit3 = none) ∧
    (let full := List.replicate 64 (List.replicate 64 (0 : Byte))
     ∀ l ∈ [[], full], let s := jrnl { handed := [event], lines := l }
      let lines := ((groupBytes s.jseq false event.recs).foldl JrnSt.stage s.jrn).lines
      event.sure = true ∧ (64 < lines.length ↔ l = full)) ∧
    (let s := jrnl { toAck := [(0, commit3), (1, { frm := .snap, recs := [] })] }
     s.jrn.toAck = (0, commit3) :: [(1, { frm := .snap, recs := [] })] ∧ s.pair ≠ 2 ∧ s.fabric = true ∧
       commit3.recs = [{ kind := 1, src := 2, argd := 3, body := [7, 0, 0, 0, 0] }]) ∧
    (∀ g ∈ ([{ frm := .qmark 1, recs := [{ kind := 3, src := 1, argd := 0, body := [0] }] },
        { frm := .ckpt 2, recs := [{ kind := 5, src := 2, argd := 0, body := [] }] },
        { frm := .snap, recs := [{ kind := 6, src := 0, argd := 0, body := [] }] }] : List Group),
      let s := jrnl { toAck := [(1, g)] }
      s.jrn.toAck = (1, g) :: [] ∧ g.recs.head?.isSome = true) := by
  decide +kernel

/-- JournalLines: a record that goes into a line partly filled, and one in a flush. -/
theorem witness_JournalLines_rooms :
    (let g : Group := { frm := .qmark 1, recs := [{ kind := 3, src := 1, argd := 0, body := [0] }] }
     let s := (jrnl { handed := [g], lines := List.replicate 54 (List.replicate 64 0) ++ [List.replicate 16 0] }).set JRN_POLICY
      JRN_POLICY_KINDEN 0x3F
     let lines := ((groupBytes s.jseq false g.recs).foldl JrnSt.stage s.jrn).lines
     54 < lines.length ∧ lines.length ≤ max s.jrn.lines.length 54) ∧
    (let s := { jrnl { handed := [commit3], lines := List.replicate 54 (List.replicate 64 0) } with pow := { flushing := true } }
     let lines := ((groupBytes s.jseq false commit3.recs).foldl JrnSt.stage s.jrn).lines
     s.pow.flushing = true ∧ ¬lines.length ≤ max s.jrn.lines.length 54 ∧ lines.length ≤ max s.jrn.lines.length 64) := by
  decide +kernel

/-- JournalLines: a full line and one that is not; a line that has been written, with records behind it and without; a flush; reads. -/
theorem witness_JournalLines_lines :
    (∀ l ∈ [List.replicate 64 (0 : Byte), List.replicate 16 1], ∀ e ∈ [[], [(0, 2 ^ 38)]], let s := jrnl { lines := [l], flips := e }
      s.jrn.lines = l :: [] ∧ s.aoOn = true ∧ s.jrn.writing = none ∧ (l.length = 64 ∨ l.length < 64) ∧ s.fabric = true ∧
      s.jrn.offset 0 0 = 0 ∧ s.jrn.flips = e ∧ 4 ≤ l.length) ∧
    (∀ m ∈ [[(1 : Byte), 2], [1, 2, 3]], let s := jrnl { writing := some (9, [1, 2]), lines := [m] }
      s.jrn.writing = some (9, [1, 2]) ∧ s.jrn.lines = m :: [] ∧ (m.length = 2 ↔ m = [1, 2])) ∧
    (∀ l ∈ [[], [[(1 : Byte)]]], let s := { jrnl { lines := l } with pow := { flushing := true } }
      s.pow.flushing = true ∧ s.aoOn = true ∧ s.jrn.writing = none ∧ s.jrn.lines = l ∧ s.jrn.flips = []) ∧
    (∀ k ∈ [0, 1, 5], let s := { jrnl { reading := some k, bad := [5] } with boot := { ret := { lines := 1 } } }
      s.fabric = true ∧ s.jrn.reading = some k ∧ s.lcs.waiting = none ∧ (k < s.boot.ret.lines ↔ k = 0) ∧ (k ∈ s.jrn.bad ↔ k = 5)) ∧
    fieldOf 0x80000003 JRN_RDCTL_GO = 1 ∧ up.jrn.reading = none := by
  decide +kernel

/-- A replay that has come to the journal's part. -/
def replays (l : Load) (j : JrnSt) : State :=
  let h := imageHead 240 []
  { up.set JRN_STATUS JRN_STATUS_REPLAYING 1 with boot := { load := some l, applied := true, run := { head := h }, ran := h }, jrn := j }

/-- ReplayAndMirror: a replay that is skipped, for either reason, and one that is not; a core's checkpoint and a queue's mark; the end, with a snapshot and
without one. -/
theorem witness_ReplayAndMirror_replay :
    (∀ b ∈ [true, false],
      let s := (replays .warm { quick := if b then 3 else 0 }).set JRN_POLICY JRN_POLICY_RLIMIT 3
      let t := if b then s else { s with boot := { s.boot with ran := [] } }
      t.replayDue .warm = true ∧ t.boot.held = [] ∧ (t.boot.ran = t.boot.run.head ↔ b = true) ∧
      (t.get JRN_POLICY JRN_POLICY_RLIMIT ≠ 0 ∧ t.get JRN_POLICY JRN_POLICY_RLIMIT ≤ t.jrn.quick ↔ b = true)) ∧
    (let ck : Rec := { kind := 5, src := 2, argd := 0, body := [] }
     let qm : Rec := { kind := 3, src := 1, argd := 3, body := [(up.rd (QM_Q_CFG 1)).toNat % 2 ^ 20] }
     let s := (replays .warm { epoch := some (5, 0), ckpts := [(2, some (7, [ck]))], qmarks := [(1, some (8, qm))] }).setQ 1 { restore := true }
     s.replayDue .warm = true ∧ s.boot.ran = s.boot.run.head ∧ s.jrn.quick = 0 ∧ s.get JRN_POLICY JRN_POLICY_RLIMIT ≠ 0 ∧ 2 < s.nCore ∧ tget s.jrn.ckpts none 2 = some (7, ck :: []) ∧ (s.qst 1).restore = true ∧
       tget s.jrn.qmarks none 1 = some (8, qm) ∧ qm.body.getD 0 0 = (s.rd (QM_Q_CFG 1)).toNat % 2 ^ 20) ∧
    (let s := jrnl { restored := true }; s.fabric = true ∧ s.jrn.restored = true ∧ s.scansDone = true ∧ s.boot.held = [] ∧ s.jrn.snap = none) ∧
    (∀ n ∈ [0, 1], let r : Rec := { kind := 6, src := 0, argd := 1, body := [4] }
      let s := { (teu 0 {}).wr (TEU_BANK_CFG 0) (BitVec.ofNat 32 (n * 2 ^ 16)) with
        jrn := { restored := true, snap := some (3, [r]), stepsSince := 9 } }
      s.jrn.snap = some (3, r :: []) ∧ s.hasTeu = true ∧ s.bankValid (r.argd / 1024 % 2) = true ∧
      (s.nStates (r.argd / 1024 % 2) = r.argd % 1024 ↔ n = 1) ∧ 8 < s.jrn.stepsSince ∧ s.scansDone = true) := by
  decide +kernel

/-- ReplayAndMirror: a COLD resume; the partner ring; a baseline that is due. -/
theorem witness_ReplayAndMirror_mirror :
    (let s := replays .cold {}; s.replayDue .cold = true ∧ s.boot.held = [] ∧ s.jrn.written = []) ∧
    ({ up with variant := .gls9624 } : State).mirrors = false ∧ up.mirrors = true ∧
    (∀ b ∈ [[], [16383 - 5]], let s := jrnl { writing := some (16380, [1]), partialAt := some 16380, bad := b }
      (16383 - fieldOf 5 JRN_PCFG_PLINES ∉ s.jrn.bad ↔ b = []) ∧ s.jrn.writing.filter (·.1 < 16383 - 5) = none) ∧
    fieldOf 0x3BFF JRN_PCFG_PLINES + up.boot.ret.lines + 1024 ≤ 16383 ∧ 16383 < fieldOf 0x3C00 JRN_PCFG_PLINES + up.boot.ret.lines + 1024 ∧
    (let s := { up.set CAER_PAIR_STAT CAER_PAIR_STAT_STATE 2 with caer := { gap := true } }
     s.fabric = true ∧ s.pair = 2 ∧ s.caer.gap = true ∧ s.caer.jbuf = [] ∧ s.linkUp s.plink = false) := by
  decide +kernel

/-- The hub in a life-cycle state: the counter, and what LCS holds besides. -/
def cycle (n : Nat) (x : LcsSt := {}) : State := { up with lcs := { x with counter := n }, fuse := { up.fuse with rowA := n, rowB := n } }

/-- A session with roles. -/
def session (roles : Nat) : LcsSt := { session := some { roles, slot := 0, minutes := 60, left := 30 } }

/-- A frame of `n` bytes of payload. -/
def blank (cmd n : Nat) : UFrame := frame cmd (List.replicate n 0)

/-- LifeCycleAndService: frames that are malformed, that come to a busy port, and to a closed DAP, for every command. -/
theorem witness_LifeCycleAndService_frames :
    (∀ p ∈ [(1, 0), (4, 4), (6, 0), (7, 192), (8, 0), (9, 0), (10, 4)], let f := blank p.1 p.2
      up.pathUp f = true ∧ frameOk f p.1 = true ∧ f.len = p.2 ∧ f.path = .dap) ∧
    (let f := frame 2 (bytesLE 4 0x40000000 ++ bytesLE 4 1); frameOk f 2 = true ∧ f.len = 8 ∧ ofBytesLE (f.payload.drop 4 |>.take 4) = 1) ∧
    (let f := frame 3 (bytesLE 4 0x100 ++ bytesLE 4 5); frameOk f 3 = true ∧ f.len = 8) ∧
    (let f := frame 5 (bytesLE 4 0x9F ++ bytesLE 4 0 ++ bytesLE 4 3); frameOk f 5 = true ∧ flashLenOk f = true) ∧
    frameOk { blank 1 0 with crc := 0 } 1 = false ∧ (cycle 2 { waiting := some (.token, blank 7 192) }).lcs.waiting.isSome = true ∧
    (cycle 3).dapClosed = true ∧ (cycle 2).dapClosed = false ∧ (cycle 2).lcs.waiting = none := by
  decide +kernel

/-- LifeCycleAndService: reads and writes that succeed and that meet an error; rights that are had and not. -/
theorem witness_LifeCycleAndService_commands :
    (up.busLoad .dbg 0x40000000 4).2.2 = none ∧ (up.busLoad .dbg 0x180000 4).2.2 = some .decode ∧
    (cycle 2).mayStore .dbg 0x100 = true ∧ ((cycle 2).busStore .dbg 0x100 4 5).1.lcs.waiting = none ∧
    ((cycle 2).busStore .dbg 0x100 4 5).2 = none ∧ ((cycle 2).busStore .dbg 0x180000 4 5).2 = some .decode ∧
    (cycle 3 (session 16)).mayStore .dbg 0x100 = false ∧ (cycle 3 (session 16)).dapClosed = false ∧ up.jrn.reading = none ∧
    (let s := { cycle 2 { waiting := some (.line, blank 4 4) } with jrn := { reading := some 7, store := [(7, List.replicate 64 0)] } }
     s.fabric = true ∧ s.jrn.reading = some 7 ∧ s.boot.ret.lines ≤ 7 ∧ (s.lineAt 7).length = 64) ∧
    up.get BOOT_FSTAT BOOT_FSTAT_BUSY = 0 ∧ (cycle 2).roleRight 3 = true ∧ (cycle 3 (session 16)).roleRight 3 = false ∧
    fieldOf 0x9F BOOT_FCMD_WREN = 0 ∧ fieldOf 0x9F BOOT_FCMD_WRITE = 0 ∧ (cycle 2 { fails := 8 }).lcs.fails = 8 ∧
    (cycle 2).roleRight 1 = true ∧ (cycle 3 (session 16)).roleRight 1 = false ∧
    (∀ n ∈ [2, 3], (cycle n (session 1)).lcState = 4 ↔ n = 3) ∧ (cycle 2).lockOk = true ∧ (cycle 2).lcPend < 3 ∧ (cycle 1).lockOk = false ∧
    (let f := frame 10 (bytesLE 4 0x4C4F434B); frameOk f 10 = true ∧ ofBytesLE (f.payload.take 4) = 0x4C4F434B) := by
  decide +kernel

/-- A token for this device and the nonce 9, signed by the test's author with the secret key 1 and the nonce 1 (R456). -/
def token (typ slot minutes arg sig : Nat) : List Byte :=
  [0x47, 0x4C, 0x54, 0x4B] ++ bytesLE 1 typ ++ bytesLE 1 slot ++ bytesLE 2 minutes ++ bytesLE 4 arg ++ List.replicate 20 0 ++ bytesLE 8 9 ++
    List.replicate 24 0 ++ keyG ++ bytesBE 32 ecG.x ++ bytesBE 32 sig

/-- LOCKED, with that key in slots 0 and 2 and as the vendor's, while a token is checked. -/
def checking (p : List Byte) (held : Bool := true) : State :=
  let h := some (sha256 keyG)
  { cycle 3 { waiting := some (.token, frame 7 p), nonce := some 9, heldRet := held } with
    fuse := { rowA := 3, rowB := 3, vendor := h, slots := [(0, { hash := h }), (2, { hash := h })] } }

/-- LifeCycleAndService: SERVICE and RETURN-OEM. -/
theorem witness_LifeCycleAndService_service :
    let p := token 1 0 60 1 0x495A55767D49F91504F8F3E736F1D3B374D8759595CACD6ADBB22AB48B341774
    let q := token 2 0 0 0 0x5988F265AFBA0B579F4A1505E31BD67F7E2EE97C5DDFC95C439CB1F78D71F525
    ((checking p).tokenReason p = 0 ∧ (tokenOf p).typ = 1) ∧ (checking q).tokenReason q = 0 ∧ (tokenOf q).typ = 2 := by
  decide +kernel

/-- LifeCycleAndService: RETURN-VENDOR, with a RETURN-OEM held and without, and REVOKE; a token that is rejected. -/
theorem witness_LifeCycleAndService_return :
    let p := token 3 255 0 0 0x7C9078CD1ECA5CC533C75D37B9A1B4EC4A830CBF7FE3583F2CDD0AFA364BBE47
    let q := token 4 0 0 1 0x3634B1102DA2CF8784B8DFEE56D572919591E1DF061F2895EC2680A92EE2ED7
    (∀ b ∈ [true, false], (checking p b).lcs.heldRet = b) ∧ (checking p).lcs.waiting = some (.token, frame 7 p) ∧ (checking p).fabric = true ∧
    (checking p).tokenReason p = 0 ∧ (tokenOf p).typ = 3 ∧ (checking p).lcPend < 4 ∧ (checking q).tokenReason q = 0 ∧ (tokenOf q).typ = 4 ∧
    (checking []).tokenReason [] ≠ 0 := by
  decide +kernel

/-- A vendor command is well-formed, whatever its code. -/
theorem frameOk_vendor (n : Nat) : frameOk (frame n []) n = true := by
  simp [frameOk, frame, frameBytes]

/-- LifeCycleAndService: vendor commands in each state. -/
theorem witness_LifeCycleAndService_vendor :
    (∀ op : VendorOp, frameOk (frame (vendorCode op) []) (vendorCode op) = true) ∧ (∀ op : VendorOp, up.pathUp (frame (vendorCode op) []) = true) ∧
    ((cycle 2).lcState = 2 ∧ (cycle 0).lcState = 0 ∧ (cycle 0).lcPend < 1 ∧ (cycle 1).lcState = 1 ∧ (cycle 1).lcPend < 2 ∧
    (cycle 1).fuse.devid = 0 ∧ (cycle 1).fuse.vendor.isSome = true ∧ { (cycle 1).fuse with devid := 5 }.devid ≠ 0 ∧
    (∀ n ∈ [0, 1, 2], (cycle n).dapClosed = false) ∧ (cycle 5).lcState = 5 ∧ vendorCode (.other 0xEF) < 0xF0 ∧
      0xF0 ≤ vendorCode (.other 0xF0)) ∧ 0xF0 ≤ vendorCode .toMaker :=
  ⟨fun _ => frameOk_vendor _, fun _ => rfl, by decide +kernel, Nat.le_add_right 0xF0 _⟩

/-- A device on the bus, configured or not. -/
def attachedDevice (b : Bool) : State := { up.set LCS_USB LCS_USB_EN 1 with lcs := { vbus := .high, usb := { configured := b } } }

/-- LifeCycleAndService: USB_VBUS at each level, a device that is attached, configured and not. -/
theorem witness_LifeCycleAndService_usb :
    (∀ v ∈ [VbusLevel.low, .mid, .high], (cycle 2 { vbus := v }).lcs.vbus = v) ∧
    (∀ b ∈ [true, false], (attachedDevice b).attached = true ∧ (attachedDevice b).lcs.usb.configured = b) ∧
    0x40 / 32 % 4 ≠ 0 ∧ (cycle 3 (session 1)).lcs.session.isSome = true ∧ up.pow.phase ≠ .cold := by
  decide +kernel

/-- A string's index is a byte, and not 0. -/
theorem stringIx_fits : ∀ b : Byte, stringIx [] b ≠ 0 ∧ stringIx [] b < 256 := by
  decide +kernel

/-- LifeCycleAndService: the two numbers of the descriptors that the model leaves open fit their fields of a request, and are not 0. -/
theorem witness_LifeCycleAndService_requests :
    (BitVec.ofNat 16 usbConfigValue).toNat = usbConfigValue ∧ usbConfigValue ≠ 0 ∧
    (BitVec.ofNat 16 (0x300 + usbSerialIx)).toNat = 0x300 + usbSerialIx ∧ usbSerialIx ≠ 0 := by
  have h := stringIx_fits (Config.usbByte 9)
  simp only [usbConfigValue, usbSerialIx, BitVec.toNat_ofNat] at *; omega

/-- LifeCycleAndService: a debug command, whatever its code, over the DAP and over USB, with the DAP open and closed. -/
theorem witness_LifeCycleAndService_debug :
    (∀ op : DebugOp, let code := (Config.debugCode (debugKind op)).toNat
      up.pathUp (frame code []) = true ∧ frameOk (frame code []) code = true) ∧
    ((attachedDevice true).pathUp (frame 0x20 [] .usb) = true ∧ up.lcs.waiting = none ∧ up.dapClosed = false ∧ (cycle 3).dapClosed = true ∧
      up.hasCore 8 = true ∧ ({ up with variant := .gls9624 } : State).hasCore 7 = false) :=
  ⟨fun _ => ⟨rfl, frameOk_vendor _⟩, by decide +kernel⟩

/-- RegisterWrite: the debugger; SEL at the limits; an address that is not mapped. -/
theorem witness_RegisterWrite :
    (∀ a ∈ [SYS_TEMPCFG, SYS_CLKOUT, SYS_STATUS], up.onBus .dbg = true ∧ up.fabric = true ∧ up.mayStore .dbg a = true) ∧
    (∀ k ∈ [0, 1], (up.set SYS_STATUS SYS_STATUS_VCOREWARN k).get SYS_STATUS SYS_STATUS_VCOREWARN = k) ∧ bitAt (0x80 : Word) 7 = true ∧
    fieldOf 4 SYS_CLKOUT_SEL < 5 ∧ 5 ≤ fieldOf 5 SYS_CLKOUT_SEL ∧ up.busErr .dbg (0x180000 : Word).toNat 4 true = some .decode := by
  decide +kernel

/-- EveryStepKeepsMemoryCanonical: the reset state, and a step that stores. -/
theorem witness_EveryStepKeepsMemoryCanonical :
    State.reset.Inv ∧ step State.reset = .next State.reset ∧
    (let s := { State.reset with pending := [.programWindowStore .dbg 0 0 5] }; s.Inv ∧ ∃ t, step s = .next t ∧ t.mem ≠ []) := by
  refine ⟨by unfold State.Inv; decide +kernel, rfl, by unfold State.Inv; decide +kernel, _, rfl, by decide +kernel⟩

/-- FusesNeverFall: a step that blows a fuse. -/
theorem witness_FusesNeverFall :
    let s := { State.reset with pending := [.lcsLock] }
    ∃ t, step s = .next t ∧ t.fuse.rowA = 3 := by
  exact ⟨_, rfl, by decide +kernel⟩

/-! ## Further clauses of the statements -/

/-- A core whose read cursor stands at `g4` and whose write cursor at `g5`, before a block element's word. -/
def elemAt (w g4 g5 : Nat) : State := withG (c0 [w]) 0 [(4, BitVec.ofNat 32 g4), (5, BitVec.ofNat 32 g5), (6, 2)]

/-- PreciseFaults: every block element, single and in a run, whose first read is not mapped; a copy whose write is not. -/
theorem witness_PreciseFaults_elements :
    (∀ p ∈ ([(0x0708, 0x0710, .xcpy 0 (enc 1), .xcpyRun 0 (enc 1)), (0x070A, 0x0712, .xcmp 0 (enc 1), .xcmpRun 0 (enc 1)),
        (0x070B, 0x0713, .xfnd 0 (enc 1), .xfndRun 0 (enc 1)), (0x070C, 0x0714, .xcrc 0 (enc 1), .xcrcRun 0 (enc 1))] :
          List (Nat × Nat × Instr × Instr)),
      (elemAt p.1 0x180000 0x100).stands 0 (enc 1) p.2.2.1 ∧ (elemAt p.2.1 0x180000 0x100).ready 0 = true ∧
      (elemAt p.2.1 0x180000 0x100).fetchOf 0 = .op p.2.2.2 ∧
      ∀ w ∈ [p.1, p.2.1], (((elemAt w 0x180000 0x100).began 0 1).byteAt 0 0x180000).2.2 = some .decode ∧
        (((elemAt w 0x180000 0x100).began 0 1).core 0).gr 6 ≠ 0) ∧
    (let r := ((elemAt 0x0708 0x100 0x180000).began 0 1).byteAt 0 0x100
     r.2.2 = none ∧ r.1.busErr (.core 0) ((r.1.core 0).gr 5).toNat 1 true = some .decode) := by
  unfold State.stands; decide +kernel

/-- Sources 1 and 3 are pending for core 0, which has accepted, and cores have reserved sources. -/
def reserved (own other : List Nat) : State :=
  let h : HicSt := { cores := [(0, { accept := true, resv := own }), (1, { resv := other })], pend := [(1, 1), (3, 1)] }
  (src 1 0x101 h).wr (HIC_SRC_CFG 3) 0x101

/-- InterruptDelivery: grants of a reserved source, of one above it, of none, and a source that another core has reserved. -/
theorem witness_InterruptDelivery_reserved :
    (∀ r ∈ [[3], [4], [1, 3]], (reserved r []).candidates 0 = [1, 3] ∧ ((reserved r []).hc 0).resv = r) ∧
    (let s := reserved [0] []; s.candidates 0 = [1, 3] ∧ ∀ q ∈ s.candidates 0, ¬(q ∈ (s.hc 0).resv ∨ ∀ r ∈ (s.hc 0).resv, q ≤ r)) ∧
    (let s := reserved [] [3]; 3 ∈ (s.hc 1).resv ∧ s.candidates 0 = [1] ∧ s.fabric = true ∧ (s.hc 0).accept = true ∧ s.pstate = 0) := by
  decide +kernel

/-- PowerStates: requests while a wake runs, ignored and without effect. -/
theorem witness_PowerStates_waking :
    let s := inState 1 { waking := some 1 }
    s.fabric = true ∧ s.pow.entry = none ∧ s.pow.waking.isSome = true ∧ (s.pstate, 2) ∈ [(1, 2), (1, 3), (2, 3)] ∧ s.pstate = 1 ∧ s.pstate < 4 := by
  decide +kernel

/-- QueueEnableAndRestore: a queue that enters RESTORE after step 3, with a QMARK of its layout and with one of another. -/
theorem witness_QueueEnableAndRestore_late :
    ∀ b ∈ [0x40010, 0x40020], let y : Rec := { kind := 3, src := 0, argd := 9, body := [b] }
      let s := { up.set JRN_STATUS JRN_STATUS_REPLAYING 1 with
        boot := { load := some .warm }, jrn := { restored := true, qmarks := [(0, some (5, y))] } }
      s.get JRN_STATUS JRN_STATUS_REPLAYING = 1 ∧ s.jrn.restored = true ∧ (tget s.jrn.qmarks none 0).map Prod.snd = some y ∧
      (y.body.getD 0 0 = (0xE0040010 : Word).toNat % 2 ^ 20 ↔ b = 0x40010) := by
  decide +kernel

/-- DmaElements: an element, and one that stops, which arrive while one is being moved. -/
theorem witness_DmaElements_ahead :
    let e : DmaEl := { addr := 0xF8, len := 8, mark := false, fin := false, fixEnd := 0 }
    let s := { dma 1 0 { cur := some e, fetch := some (0x100, 0) } with mem := mwrites [] 0x100 (bytesLE 4 0x200 ++ bytesLE 4 16) }
    s.get (DME_CH_STAT 0) DME_CH_STAT_BUSY = 1 ∧ (s.dch 0).cur.isSome = true ∧ (s.dch 0).fetch = some (0x100, 0) ∧
    (s.dch 0).err = none ∧ (s.dch 0).aborting = false := by
  decide +kernel

/-- DmaMovesBytes: bursts to and from one fixed word; pops of items and of an empty queue, with QWAIT and without it; pushes. -/
theorem witness_DmaMovesBytes_fixed :
    (∀ cfg ∈ [0x10, 0x14], let s := moves (BitVec.ofNat 32 cfg) 0x1000 {}
      s.fabric = true ∧ s.dmePick = some 0 ∧ (s.dch 0).part = [] ∧ (s.dch 0).ahead = none ∧ s.fixMode 0 = 1 ∧
      (s.listDest 0 = true ↔ cfg = 0x14) ∧ (s.rd (DME_CH_FIX 0)).toNat + 4 ≤ 0x100000 ∧ (s.rd (DME_CH_FIX 0)).toNat % 4 = 0 ∧
      (s.rd (DME_CH_ADDR 0)).toNat % 8 = 0 ∧ s.get (DME_CH_REM 0) DME_CH_REM_REM % 8 = 0) ∧
    (∀ cfg ∈ [0x20, 0x24, 0x64], ∀ o ∈ [0, 8],
      let s := ((moves (BitVec.ofNat 32 cfg) 0x50000000 {}).wr (QM_Q_CFG 0) (BitVec.ofNat 32 (0x40000 + en))).setQ 0 { wr := o }
      s.dmePick = some 0 ∧ s.fixMode 0 = 2 ∧ (s.rd (DME_CH_FIX 0)).toNat = 0x50000000 + 256 * 0 ∧ s.qlive 0 = true ∧
      (s.listDest 0 = true ↔ cfg ≠ 0x20) ∧ (s.get (DME_CH_CFG 0) DME_CH_SCFG_QWAIT = 1 ↔ cfg = 0x64) ∧ s.avail 0 = o ∧
      (∀ j, j < 8 → (s.getSlot 0 j).2 = 0 ∧ (s.getSlot 0 j).1 ≠ emptyItem ∧ s.mrd (0x200 + 8 * j) 8 ≠ emptyItem.toNat) ∧
      (o = 0 → s.occ 0 + 8 + 1 ≤ s.qsize 0)) := by
  decide +kernel

/-- A step and a swap, on one tick; the swap's entry may have been taken already. -/
def stepAndSwap (given : Bool) : State :=
  let s := ((entry0 0x6000 1 .armed).set TEU_CTL TEU_CTL_ENABLE 1).setValid 1 true
  s.setL 1 { w0 := 1000000, w2 := 1, w3 := 0x7000, st := .armed, given := given }

/-- LaunchActions: a step with a swap on its tick; a swap that a step has taken; HIC raises of a doorbell, above the doorbells and of none. -/
theorem witness_LaunchActions_swaps :
    (let s := stepAndSwap false
     let e := s.lent 0
     s.onTime 0 6 = true ∧ s.teuOn = true ∧ s.get TEU_CTL TEU_CTL_ENABLE = 1 ∧ s.teu.run = none ∧ s.teu.last = none ∧
       s.get TEU_STATUS TEU_STATUS_PENDV = 0 ∧ (s.atSlot e).swapsBefore e = [(1, s.lent 1)] ∧ s.bankValid ((s.lent 1).w2.toNat % 2) = true) ∧
    (let s := { timed with tim := { table := [(0, { w0 := 1000000, w3 := 0x7000, st := .armed, given := true })] } }
     s.onTime 0 7 = true ∧ (s.lent 0).given = true) ∧
    (∀ k ∈ [224, 239, 240, 255], let s := entry0 0x9000 k .armed; s.onTime 0 9 = true ∧ (s.lent 0).w2.toNat % 256 = k) ∧
    ((entry0 0x9000 240 .armed).set (HIC_SRC_CFG 240) HIC_SRC_CFG_EN 1).srcEn 240 = true := by
  decide +kernel

/-- LaunchActions: SAFE has come on the tick on which an entry sets the output's level. -/
theorem witness_LaunchActions_safe :
    let s := entry0 0x1000 1 .armed
    let x := { s with act := { s.act with safeAt := [(0, s.raw + 256000 + 1)] } }
    ∃ t, exec (.actSet 0) x = .next t ∧ tget t.act.safeAt 0 0 = t.raw + 1 := by
  exact ⟨_, rfl, by decide +kernel⟩

/-- CaerReceives: acknowledgements in a header; HOPS = 15; hubs that no link leads to. -/
theorem witness_CaerReceives_relays :
    (let g : CFrame := { typ := 4, src := 1, lseq := 3 }
     let s := line 2 { unacked := [g] }
     let h := { hdr with ackv := true, ackseq := 3 }
     s.fabric = true ∧ s.linkUp 0 = true ∧ h.ackv = true ∧ (s.link 0).unacked = [] ++ g :: [] ∧ g.lseq = h.ackseq.toNat ∧
       (s.link 0).waiting = [] ∧ s.caer.jbuf = [] ∧ ∀ y ∈ (s.link 0).unacked, y.lseq ≠ { h with ackseq := 4 }.ackseq.toNat) ∧
    { hdr with hops := 15 }.hops.toNat = 15 ∧ both.linkUp (1 - 0) = true ∧ both.roomOn 1 ∧
    (both.dirOf 3).getD (1 - 0) = 1 ∧ (both.dirOf 4).getD (1 - 0) = 1 ∧ (line 2).linkUp 1 = false ∧
    ((both.wr CAER_DIR 0x40).dirOf 3).getD (1 - 0) = 0 := by
  unfold State.roomOn; decide +kernel

/-- A partner that keeps its ring, with what the journal holds. -/
def partner (j : JrnSt) : State :=
  { (((line 2).set CAER_PAIR_STAT CAER_PAIR_STAT_STATE 2).set JRN_PCFG JRN_PCFG_PLINES 2).set JRN_PSTAT JRN_PSTAT_PHEAD 16381 with jrn := j }

/-- CaerReceives: a ring of two lines, with a line partly filled and none, a bad line, and FROZEN; records of both sizes. -/
theorem witness_CaerReceives_stores :
    (∀ p ∈ [[], List.replicate 48 (0 : Byte)], let s := partner { pLine := p }
      s.mirrors = true ∧ s.pair = 2 ∧ s.get JRN_PCFG JRN_PCFG_PLINES ≠ 0 ∧ s.jrn.pLine = p ∧ s.get JRN_PSTAT JRN_PSTAT_PHEAD = 16381 ∧
      s.pNext 16381 1 = 16382 ∧ s.pNext 16382 1 = 16381 ∧ (64 ≤ (p ++ record false).length ↔ p ≠ [])) ∧
    (let s := partner { bad := [16382] }; s.pNext 16381 (s.jrn.bad.length + 1) = 16381) ∧
    ((partner {}).set JRN_PSTAT JRN_PSTAT_FROZEN 1).get JRN_PSTAT JRN_PSTAT_FROZEN = 1 ∧ (record true).length = 16 ∧
    (let r : Rec := { kind := 5, src := 0, argd := 0, body := [] }; (r.bytes 8 false true).length = 64 ∧ recordOk (r.bytes 8 false true) = true) := by
  decide +kernel

/-- TheMirrorPair: a HEART before any live record, with a record of a baseline in the send buffer, a live one, and one to acknowledge. -/
theorem witness_TheMirrorPair_heart :
    (∀ l ∈ [[], [record true], [record true, record false]], let s := paired 2 2 { jbuf := l }
      s.caer.lastLive = none ∧ s.pair = 2 ∧ s.caer.jbuf.filter (fun b => !isBase b) = (if l.length = 2 then [record false] else [])) ∧
    (paired 2 2 { jbuf := [record false] }).roomOn 0 := by
  unfold State.roomOn; decide +kernel

/-- BootAndFlash: WARM loads from the copy, and those that a trial, a trial image tried before, and FLASH send to the flash; fast reads. -/
theorem witness_BootAndFlash_sources :
    (∀ b ∈ [true, false], ∀ tr ∈ [none, some 5], ∀ f ∈ [0, 1],
      let s := { up.set BOOT_UPDATE BOOT_UPDATE_FLASH f with boot := { due := [.warm], ret := { retained with trial := tr, tried := b } } }
      s.boot.due = .warm :: [] ∧ s.boot.ret.valid = true ∧
      (s.boot.ret.trial = none ∧ s.boot.ret.tried = false ∧ s.get BOOT_UPDATE BOOT_UPDATE_FLASH = 0 ↔ (b, tr, f) = (false, none, 0))) ∧
    (∀ d ∈ [2 ^ 24, 2 ^ 25], let f := sfdp 9 d true true true false
      f.present = true ∧ 1 ≤ f.major ∧ 9 ≤ f.dwords ∧ f.qer = 0 ∧ f.r144 = some fast ∧ f.fourByte.isSome = true ∧
      (f.density % 2 ^ 32 ≤ 2 ^ 24 ↔ d = 2 ^ 24)) := by
  decide +kernel

/-- A load whose next section has a TYPE, an INST and a body, with one more behind it. -/
def section_ (typ inst : Nat) (body : List Byte) (l : Load := .cold) : State :=
  let s := loading 4 (imageHead 288 [sectEntry (typ + 256 * inst) 288 body, sectEntry 0x30 296 []])
  { s with boot := { s.boot with load := some l } }

/-- A section's body passes its checks, and another section follows. -/
def passes (s : State) (body : List Byte) : Bool :=
  let x := s.boot.img.sect s.boot.idx
  x.len = body.length && x.scrc = (crc32c body).toNat && x.digest = sha256 body && s.boot.idx + 1 < s.boot.img.nsect &&
    s.boot.src = .slot 0 && !s.boot.noTable4 && s.boot.queue = [] && s.boot.touched = []

/-- BootAndFlash: programs of C0 and C8, with a word that is too great; a TEU table. -/
theorem witness_BootAndFlash_programs :
    (∀ c ∈ [0, 8], ∀ b ∈ [([0xFF, 0x3F] : List Byte), [0, 0x40]], let s := section_ 1 c b
      let x := s.boot.img.sect s.boot.idx
      passes s b = true ∧ x.typ = 1 ∧ x.inst = c ∧ s.hasCore x.inst = true ∧ s.running x.inst = false ∧
      (ofBytesLE (b.drop 0 |>.take 2) < 2 ^ 14 ↔ b = [0xFF, 0x3F]) ∧ ofBytesLE b < 2 ^ 16) ∧
    (let b : List Byte := bytesLE 8 5; let s := section_ 2 1 b
     let x := s.boot.img.sect s.boot.idx
     passes s b = true ∧ x.typ = 2 ∧ x.inst = 1 ∧ b.length / 8 ≤ s.nTeu ∧ s.bankLocked x.inst = false) := by
  decide +kernel

/-- BootAndFlash: write lists: of the cores, held back; of FLT, in its window and outside; of TIME in a wake. -/
theorem witness_BootAndFlash_lists :
    (let b := bytesLE 4 (CORE_CTL 8) ++ bytesLE 4 1; let s := section_ 0x15 0 b
     passes s b = true ∧ (s.boot.img.sect s.boot.idx).typ = 0x15 ∧ b.length = 8 ∧ holdsBack (ofBytesLE (b.take 4)) = true) ∧
    (∀ a ∈ [FLT_PROF_B 0, CORE_START 0], let b := bytesLE 4 a ++ bytesLE 4 0x10001
     let s := section_ 0x12 0 b
     let u := { s with boot := { s.boot with touched := [0x12] } }
     passes s b = true ∧ (s.boot.img.sect s.boot.idx).typ = 0x12 ∧ (ofBytesLE (b.take 4) / 0x10000 = windowOf 0x12 ↔ a = FLT_PROF_B 0) ∧
       holdsBack (ofBytesLE (b.take 4)) = false ∧ (u.busStore .boot a 4 0x10001).2 = none ∧ (u.busStore .boot a 4 0x10001).1.boot = u.boot) ∧
    (∀ a ∈ [TIME_CTL, TIME_STEPNS], let b := bytesLE 4 a ++ bytesLE 4 1; let s := section_ 0x18 0 b .wake
     passes s b = true ∧ (s.boot.img.sect s.boot.idx).typ = 0x18 ∧ s.boot.load = some .wake ∧ ofBytesLE (b.take 4) = a) := by
  decide +kernel

/-- BootAndFlash: a committed image that loads again, with its copy and without one. -/
theorem witness_BootAndFlash_reload :
    ∀ v ∈ [true, false], let s := loading 4 signedImage { ret := { committed := some 5, valid := v, copy := { head := signedImage } } }
      s.boot.ret.committed = some s.boot.img.seq ∧ s.boot.ret.trial = none ∧ s.boot.ret.valid = v ∧ s.boot.ret.copy.head = s.boot.img.head ∧
      s.boot.img.copyLines ≤ 8192 := by
  decide +kernel

/-- JournalLines: a record of each size and one with its fields at their limits; a record into each kind of newest line. -/
theorem witness_JournalLines_records :
    (∀ k ∈ [1, 2], let r : Rec := { kind := k, src := 255, argd := 65535, body := [2 ^ 32 - 1] }
      r.kind < 16 ∧ r.src < 256 ∧ r.argd < 65536 ∧ (∀ w ∈ r.body, w < 2 ^ 32) ∧ (r.long = true ↔ k = 1)) ∧
    (∀ m ∈ [List.replicate 16 (0 : Byte), List.replicate 64 0], (m.length = 64 ∨ m.length < 64) ∧ (jrnl { lines := [m] }).jrn.lines = [] ++ [m] ∧
      (jrnl { lines := [m] }).jrn.tail = none) ∧
    (jrnl { tail := some (9, [1]) }).jrn.tail = some (9, [1]) ∧ commit3.recs[0]? = commit3.recs.head? := by
  decide +kernel

/-- A hub of a pair whose oldest group is to be acknowledged, with a send buffer. -/
def streams (b : List (List Byte)) : State :=
  { paired 2 2 { (line 2).caer with jbuf := b } with jrn := { toAck := [(7, commit3)] } }

/-- JournalLines: records for the partner: while the link is not UP, with room in the send buffer and without, and at once; two lines in
a flush. -/
theorem witness_JournalLines_stream :
    (∀ n ∈ [63, 64], let s := (streams (List.replicate n (List.replicate 64 0))).set (CAER_LINK_STAT 0) CAER_LINK_STAT_STATE 1
      s.jrn.toAck = (7, commit3) :: [] ∧ s.fabric = true ∧ s.pair = 2 ∧ s.linkUp s.plink = false ∧
      ((groupBytes 7 false commit3.recs).flatten.length ≤ 4096 - ((s.caer.jbuf.filter fun b => !isBase b).map List.length).sum ↔ n = 63)) ∧
    (streams []).roomOn (streams []).plink ∧ (streams []).caer.jbuf = [] ∧
    (let s := { jrnl { lines := [[1], [2]] } with pow := { flushing := true } }
     s.jrn.lines = [[1], [2]] ∧ s.jrn.partialAt = none ∧ s.jrn.bad = [] ∧ s.aoOn = true ∧ s.jrn.writing = none) := by
  unfold State.roomOn; decide +kernel

/-- A checkpoint of core 2, and the commit of entry 3. -/
def ckpt2 : Rec := { kind := 5, src := 2, argd := 0, body := [1, 2] }
def commit : Rec := { kind := 1, src := 2, argd := 3, body := [7, 1, 2, 3, 4] }

/-- ReplayAndMirror: DMA channels that are armed again and that are not; catch-up steps of which none, and one, remains; rings that hold a
checkpoint, a launch, half a group, and a bad line. -/
theorem witness_ReplayAndMirror_rest :
    (∀ a ∈ [1, 2], let r : Rec := { kind := 4, src := 5, argd := a, body := [8, 0x1000, 0, 0x10] }
      let s := jrnl { restored := true, dmas := [(5, some (7, r))] }
      tget s.jrn.dmas none 5 = some (7, r) ∧ s.jrn.snap = none ∧ (r.argd % 4 < 2 ↔ a = 1) ∧ s.dstat 5 DME_CH_STAT_SHVALID = false ∧
      shadowOk .scfg (BitVec.ofNat 32 (r.body.getD 3 0)) = true ∧ shadowOk .slist (BitVec.ofNat 32 (r.body.getD 0 0)) = true) ∧
    (∀ k ∈ [0, 1], let r : Rec := { kind := 6, src := 0, argd := 1, body := [4] }
      let p : Rec := { kind := 6, src := 1, argd := 0, body := [9] }
      let s := { (teu 0 {}).wr (TEU_BANK_CFG 0) 0x10000 with
        jrn := { restored := true, snap := some (3, [r, p]), stepsSince := k, stepIn := [{ vals := [], valid := [] }] } }
      s.jrn.snap = some (3, r :: [p]) ∧ s.hasTeu = true ∧ s.bankValid (r.argd / 1024 % 2) = true ∧ s.nStates (r.argd / 1024 % 2) = r.argd % 1024 ∧
      s.jrn.stepsSince = k ∧ s.get TEU_STATUS TEU_STATUS_PENDV = 0 ∧ snapStates (r.argd % 1024) [p] = [9] ∧ s.flips = []) ∧
    (∀ p ∈ [(ckpt2, false), (commit, false), (commit, true)],
      let s := replays .cold { epoch := some (5, 7), store := [(3, p.1.bytes 7 p.2 false)], written := [3] }
      s.replayDue .cold = true ∧ s.jrn.written = [3] ∧ (3 : Nat) ∉ s.jrn.bad ∧
      lineRecords (s.lineAt 3) = [(7, p.2, recordOf (p.1.bytes 7 p.2 false) |>.2.2)] ∧ (p.2 = false → s.ringGroups.length = 1)) ∧
    commit.body.length = 5 ∧ (∀ w ∈ commit.body, w < 2 ^ 32) := by
  decide +kernel

/-- ReplayAndMirror: baselines of one record, and of two where one frame may leave; what they hold. -/
theorem witness_ReplayAndMirror_baseline :
    (∀ p ∈ [([(2, some (7, [ckpt2]))], 0), ([(2, some (7, [ckpt2])), (3, some (8, [ckpt2]))], 15)],
      let s := { paired 2 2 { link := [(0, { unacked := List.replicate p.2 { typ := 4, src := 1 } })], gap := true } with jrn := { ckpts := p.1 } }
      s.fabric = true ∧ s.pair = 2 ∧ s.caer.gap = true ∧ s.caer.jbuf = [] ∧ s.roomOn s.plink ∧ (s.link s.plink).unacked.length = p.2 ∧
      s.baseline.length = p.1.length) ∧
    (let s := { (paired 2 2 {}).set (QM_Q_CFG 1) QM_Q_CFG_JRNEN 1 with
       jrn := { qmarks := [(1, some (7, ckpt2))], dmas := [(1, some (7, ckpt2))], snap := some (7, [ckpt2]), launches := [(3, some (7, commit))] }
       tim := { table := [(3, { st := .armed, w3 := 0x40001000 })] } }
     s.get (QM_Q_CFG 1) QM_Q_CFG_JRNEN = 1 ∧ s.baseline.length = 4 ∧ (s.lent 3).journal = true) := by
  unfold State.roomOn; decide +kernel

/-- LifeCycleAndService: a device with a halted endpoint, and responses that wait. -/
theorem witness_LifeCycleAndService_halts :
    (∀ b ∈ [true, false], let u : UsbSt := { configured := true, haltOut := b, haltIn := true, late := [{ path := .usb, cmd := 1, tag := 7, len := 0, status := 0, detail := 0, payload := [] }] }
      let s := { attachedDevice true with lcs := { vbus := .high, usb := u } }
      s.attached = true ∧ s.lcs.usb.configured = true ∧ s.lcs.usb.haltIn = true ∧ s.lcs.usb.late ≠ [] ∧
      (s.pathUp (frame 1 [] .usb) = true ↔ b = false)) ∧
    (attachedDevice true).lcs.usb.late = [] ∧ (attachedDevice false).lcs.usb.configured = false := by
  decide +kernel

/-- PreciseFaults: a run form whose word cannot be fetched; a compare whose second read is not mapped. -/
theorem witness_PreciseFaults_further :
    runOf (.xcpyRun 0 (enc 1)) = some (0, enc 1) ∧
    (let s := { c0 [0x0710] with flips := [(0x10000000, 1)] }; s.ready 0 = true ∧ ∃ a, s.fetchOf 0 = .fault 5 a) ∧
    (let r := ((elemAt 0x070A 0x100 0x180000).began 0 1).byteAt 0 0x100
     r.2.2 = none ∧ (r.1.byteAt 0 ((r.1.core 0).gr 5).toNat).2.2 = some .decode) := by
  refine ⟨by decide +kernel, ⟨by decide +kernel, 0, by decide +kernel⟩, by decide +kernel⟩

/-- EventsReachTheController: a change of a rule unit's request that is the first on its way. -/
theorem witness_EventsReachTheController_asks :
    ∀ u ∈ [0, 95], let s := { up with hic := { asks := [u, 3] } }
      s.fabric = true ∧ s.hic.asks = u :: [3] ∧ u < 96 ∧ islandOf (32 + u) = .flt := by
  decide +kernel

/-- TheLaunchTable: an entry whose answer waits, taken and refused. -/
theorem witness_TheLaunchTable_answers :
    ∀ ok ∈ [true, false], let g : Group := { frm := .launch 0, recs := [{ kind := 1, src := 0, argd := 0, body := [0] }] }
      let s := { entry0 0x1000 1 .pending with jrn := { acked := [(g, ok)] } }
      (s.answersIn.lent 0).st = (if ok then .armed else .free) ∧ s.answersIn.jrn.acked = [] ∧
      s.mayStore .dbg (0x40088000 + 16 * 0 + 4 * 3) = true ∧ s.fabric = true := by
  decide +kernel

/-- LaunchActions: a late entry whose tick lies ahead. -/
theorem witness_LaunchActions_ahead :
    ∀ p ∈ [0, 1, 2], let s := entry0 (p * 2 ^ 27 + 0x1000) 1 .armed true 0
      s.nextLate = some 0 ∧ (s.lent 0).policy = p ∧ s.time < (s.lent 0).due := by
  decide +kernel

/-- OutputsUnderSoftware: reserved values of SAFE and of PHASE. -/
theorem witness_OutputsUnderSoftware_reserved :
    fieldOf 0x3000 ACT_OUT_CFG_SAFE = 3 ∧ fieldOf 0x300 ACT_OUT_CFG_PHASE = 3 ∧ fieldOf 0x3000 ACT_OUT_CFG_PHASE = 0 := by decide +kernel

/-- SampleItems: an item that is SETTLE already, of a channel that cannot be linearised. -/
theorem witness_SampleItems_settling :
    ∀ cfg ∈ [0x40100, 0x900], ∀ valid ∈ [true, false], let s := filter0 { main := some (path64 0), next := 63 } valid cfg
      (cfg = 0x40100 → s.coldJunction 0 = none) ∧ (cfg = 0x900 → s.sourceOff (s.get (FLT_CH_CFG 0) FLT_CH_CFG_EXC) = true) ∧
      (s.fch 0).due = some 63 ∧ (s.fch 0).fade = 0 := by
  decide +kernel

/-- CaerReceives: a record of a record's length that fails its CRC. -/
theorem witness_CaerReceives_spoilt :
    let b := (record false).set 8 1
    sizeOk b = true ∧ recordOk b = false ∧ sizeOk [] = false ∧ b.length = 16 := by
  decide +kernel

/-- TwoWirePorts: commands whose CBUF runs out of the SRAM in the write part and in the read part. -/
theorem witness_TwoWirePorts_cbuf :
    ∀ p ∈ [(2, 0), (1, 2)], let c : TwpCmd := { wlen := p.1, rlen := p.2, cbuf := if p.2 = 0 then 0xFFFFF else 0xFFFFE, run := true }
      let s := twp { cmd := some c }
      s.twOn 0 = true ∧ (s.tw 0).cmd = some c ∧ s.flips = [] ∧ (p.2 = 0 → c.cbuf + 1 = 0x100000 ∧ 1 < c.wlen) ∧
      (p.2 = 2 → c.cbuf + c.wlen + 1 = 0x100000 ∧ 1 < c.rlen ∧ 1 < [(5 : Byte), 6].length) := by
  decide +kernel

/-- A port that is off, with its bus busy or free. -/
def twpOff (b : Bool) : State := { up.wr (TWP_CFG 0) 0 with twp := [(0, { busy := b })] }

/-- TwoWirePorts: a port that is switched on while its bus is busy, and while it is free. -/
theorem witness_TwoWirePorts_on :
    (∀ b ∈ [true, false], (twpOff b).onBus .dbg = true ∧ (twpOff b).fabric = true ∧ (twpOff b).twCfg 0 TWP_CFG_EN = 0 ∧
      ((twpOff b).tw 0).cmd = none ∧ ((twpOff b).tw 0).held = [] ∧
      (twpOff b).get (TWP_WBASE 0) TWP_WBASE_BASE + (twpOff b).winSize 0 ≤ 0x100000) ∧
    (∀ b ∈ [true, false], (twpOff b).mayStore .dbg (TWP_CFG 0) = true) ∧
    ∀ k ∈ [3, 11], let v := BitVec.ofNat 32 k; fieldOf v TWP_CFG_EN = 1 ∧ fieldOf v TWP_CFG_ROLE = 1 ∧ fieldOf v TWP_CFG_ADDRMODE = 0 ∧
      (fieldOf v TWP_CFG_AUTOREC = 1 ↔ k = 11) := by
  refine ⟨by decide +kernel, by decide +kernel, by decide +kernel⟩

/-- BootAndFlash: loads that end with an image on trial, and fail; a hub whose settings name no pair; an update request in a WARM reset. -/
theorem witness_BootAndFlash_trial :
    (∀ v ∈ [true, false],
      let s := loading 4 signedImage { ret := { committed := some 5, trial := some 6, valid := v, copy := { head := signedImage } } }
      s.boot.ret.committed = some s.boot.img.seq ∧ s.boot.ret.trial = some 6 ∧ s.boot.load ≠ some .aoreset ∧ s.mirrors = true ∧
      s.get CAER_PAIR_CFG CAER_PAIR_CFG_PEN = 0) ∧
    { up with pow := { phase := .warm } }.pow.phase = .warm := by
  decide +kernel

/-- JournalLines: a group behind an event of its island; a group of an earlier epoch that is acknowledged; an escalated fault's. -/
theorem witness_JournalLines_order :
    (let g : Group := { frm := .launchDone, recs := [{ kind := 2, src := 0, argd := 0, body := [0] }], events := 1 }
     let s := { (jrnl { handed := [g] }).set JRN_POLICY JRN_POLICY_KINDEN 0x3F with hic := { inflight := [8, 9] } }
     s.eventsAhead.hic.inflight = [9] ∧ s.eventsAhead.jrn.handed = [{ g with events := 0 }] ∧ s.fabric = true ∧
     (g.recs.all fun r => s.eventsAhead.kindOn r.kind) = true ∧ s.eventsAhead.listFull g = none) ∧
    (∀ g ∈ [commit3, { frm := .fault 2 true, recs := [] }], let s := jrnl { toAck := [(0, g)], stale := 1 }
      s.jrn.toAck = (0, g) :: [] ∧ s.pair ≠ 2 ∧ s.jrn.stale ≠ 0 ∧ s.fabric = true) := by
  decide +kernel

/-- LifeCycleAndService: SET_INTERFACE. -/
theorem witness_LifeCycleAndService_interface :
    let rq : UsbRequest := { typ := 1, req := 11, value := 0, index := 0, length := 0 }
    (rq.typ.toNat, rq.req.toNat, rq.value.toNat, rq.index.toNat, rq.length.toNat) = (1, 11, 0, 0, 0) := by decide +kernel

end Sys2Proof.Tests
end

section
/-! SUPPORT. The short form of the Dexgar cores: what an instruction does once it stands at its PC, flags and results of the register
instructions, the CRC steps, and what a precise fault leaves alone; then the statements of chapter 7. -/

namespace Sys2Proof.Machine

open Sys2Proof

/-! ## Issue and the moves of PC -/

/-- Of its core, the fetch changes the fetch buffer alone (R224). -/
theorem began_core (s : State) (c : Core) (len : Nat) :
    ∃ l, (s.began c len).core c = { s.core c with fetched := l } := by
  unfold State.began
  simp only
  split
  · exact ⟨_, rfl⟩
  · split
    · exact ⟨_, by rw [State.core, checks_cores]; rfl⟩
    · rw [State.core_modCore, if_pos rfl]
      unfold CoreSt.executes CoreSt.touch
      simp only
      split <;> exact ⟨_, rfl⟩

/-- An instruction that a ready core finds at its PC has its effect under its condition, and else PC passes it (R184). -/
theorem gated_of_fetched {s : State} {c : Core} {e : Enc} {i : Instr} (hr : s.ready c = true) (hf : s.fetchOf c = .op i)
    (k : State → State) : s.gated c e i k =
      if holds (s.core c).flags e.cond then k (s.began c e.len) else (s.began c e.len).advance c e.len := by
  obtain ⟨-, hflags, -⟩ := began_core_g s c e.len
  simp only [State.gated, State.issue, hr, hf, hflags, if_true]

theorem gated_of_stands {s : State} {c : Core} {e : Enc} {i : Instr} (h : s.stands c e i) (k : State → State) :
    s.gated c e i k = k (s.began c e.len) := by
  obtain ⟨hr, hf, hc⟩ := h
  rw [gated_of_fetched hr hf, if_pos hc]

/-- What a gated form does once it stands at its PC, where its effect is known. -/
theorem exec_of_stands {s t : State} {c : Core} {e : Enc} {i : Instr} (h : s.stands c e i) (k : State → State)
    (hx : exec i s = .next (s.gated c e i k)) (hk : k (s.began c e.len) = t) : exec i s = .next t := by
  rw [hx, gated_of_stands h, hk]

theorem advance_core (s : State) (c len : Nat) :
    (s.advance c len).core c = (s.core c).moveTo c (nextPc (s.core c).pc len) := by
  simp [State.advance, State.core_modCore]

theorem onlyCore_modCore (u : State) (c : Core) (f : CoreSt → CoreSt) : u.onlyCore (u.modCore c f) c :=
  ⟨rfl, fun d hd => by simp [State.core_modCore, Ne.symm hd]⟩

/-- A core that has been moved to `pc` beside another change. -/
theorem modCore_moveTo_coreIs (u : State) (c : Core) (f : CoreSt → CoreSt) (pc : CoreSt → Word) :
    u.coreIs (u.modCore c fun x => (f x).moveTo c (pc x)) c (pc (u.core c)) (f (u.core c)) := by
  refine ⟨onlyCore_modCore _ _ _, ?_⟩
  obtain ⟨r, hr⟩ := moveTo_eq (f (u.core c)) c (pc (u.core c))
  rw [State.core_modCore, if_pos rfl, hr]

/-- A core that has been changed and passes its instruction. -/
theorem modCore_advance_coreIs (u : State) (c : Core) (f : CoreSt → CoreSt) (len : Nat) :
    u.coreIs ((u.modCore c f).advance c len) c (nextPc (f (u.core c)).pc len) (f (u.core c)) := by
  refine ⟨onlyCore_modCore2 _ _ _ _, ?_⟩
  obtain ⟨r, hr⟩ := moveTo_eq (f (u.core c)) c (nextPc (f (u.core c)).pc len)
  rw [advance_core, State.core_modCore, if_pos rfl, hr]

/-- An instruction that changes FLAGS alone. -/
theorem flagsOnly_completes (s : State) (c : Core) (e : Enc) (i : Instr) (fl : CoreSt → Flags) (k : NewFlags)
    (hx : exec i s = .next (s.regOp c e i fun x => { x with flags := fl x })) (h : s.stands c e i)
    (hf : ∀ x : CoreSt, (∀ q, x.gr q = (s.core c).gr q) → x.flags = (s.core c).flags → e.noFlags = false →
      k.hold e (s.core c).flags (fl x)) : s.completes c e i none 0 k :=
  regOp_completes s c e i _ _ _ _ hx h fun x hg hfl _ => ⟨fun q => (hg q).trans (by simp), hf x hg hfl, rfl⟩

/-! ## Conditions (R183, R184, R204) -/

/-- The condition of a gated form is a gate on the whole of its effect. -/
theorem exec_of_gatedForm {i : Instr} {c : Core} {e : Enc} (h : gatedForm i = some (c, e)) :
    ∃ k, ∀ s, exec i s = .next (s.gated c e i k) := by
  unfold gatedForm at h
  split at h
  case h_55 => cases h -- no gated form
  all_goals
    obtain ⟨rfl, rfl⟩ := Prod.mk.inj (Option.some.inj h)
    exact ⟨_, fun _ => rfl⟩

theorem tstc_completes (s : State) (c : Core) (e : Enc) (t : Cond) (h : s.stands c e (.tstc c e t)) :
    s.completes c e (.tstc c e t) none 0 { t := some (holds (s.core c).flags t) } := by
  refine flagsOnly_completes s c e _ _ _ rfl h fun x _ hf hn => ?_
  simp [NewFlags.hold, hn, hf, flagAt_putFlag]

/-- Settles O1: the effect of each gated form lies behind its condition. -/
theorem conditions : Obligations.Conditions := by
  refine ⟨fun i c e s hi hr hf hc => ?_, fun s c e t h => ?_⟩
  · obtain ⟨k, hk⟩ := exec_of_gatedForm hi
    obtain ⟨-, -, hpc⟩ := began_core_g s c e.len
    obtain ⟨hother, hcore⟩ := modCore_moveTo_coreIs (s.began c e.len) c id fun x => nextPc x.pc e.len
    refine ⟨(s.began c e.len).advance c e.len, ?_, hother, ?_⟩
    · rw [hk, gated_of_fetched hr hf, hc, if_neg Bool.false_ne_true]
    · rw [← hpc]
      have hpc' := congrArg CoreSt.pc hcore
      exact ⟨hpc', hpc' ▸ hcore⟩
  · have htest := tstc_completes s c e t h
    cases t <;> exact htest

/-! ## Additions and subtractions (R188) -/

theorem aluAdd_res (f : Flags) (x y : Word) (cin : Bool) : (aluAdd f x y cin).res = x + y + BitVec.ofNat 32 cin.toNat :=
  ofNat_sum x y cin

/-- Settles O2: every form is `aluAdd` or `aluSub` of its operands. -/
theorem additionsAndSubtractions : Obligations.AdditionsAndSubtractions := by
  intro s c e d r imm
  refine ⟨fun h => ?add, fun h => ?adc, fun h => ?addi, fun h => ?sub, fun h => ?sbc, fun h => ?cmp, fun h => ?neg⟩
  case cmp =>
    refine flagsOnly_completes s c e _ _ _ rfl h fun x hg hf hn => ?_
    simp only [hg, hf]
    exact aluSub_hold e _ _ _ true hn
  all_goals
    refine alu_completes s c e _ d _ _ _ rfl h fun x hg hf => ?_
    simp only [hg, hf]
  case add => exact ⟨by simp [aluAdd_res], aluAdd_hold e _ _ _ false⟩
  case adc => exact ⟨aluAdd_res _ _ _ _, aluAdd_hold e _ _ _ _⟩
  case addi => exact ⟨by simp [aluAdd_res], aluAdd_hold e _ _ _ false⟩
  case sub => exact ⟨by simp [aluSub_res], aluSub_hold e _ _ _ true⟩
  case sbc => exact ⟨aluSub_res _ _ _ _, aluSub_hold e _ _ _ _⟩
  case neg => exact ⟨by simp [aluSub_res], aluSub_hold e _ _ _ true⟩

/-! ## Logic, moves and shifts (R185, R191, R192, R212) -/

/-- An instruction that leaves FLAGS. -/
theorem NewFlags.hold_none (e : Enc) (f : Flags) : ({} : NewFlags).hold e f f := by
  simp [NewFlags.hold]

/-- An instruction that writes a register and leaves FLAGS. -/
theorem setG_completes (s : State) (c : Core) (e : Enc) (i : Instr) (d : GReg) (v : CoreSt → Word) (r : Word)
    (hx : exec i s = .next (s.regOp c e i fun x => x.setG d (v x))) (h : s.stands c e i)
    (hv : ∀ x : CoreSt, (∀ q, x.gr q = (s.core c).gr q) → v x = r) : s.completes c e i (some d) r {} := by
  refine regOp_completes s c e i _ _ _ _ hx h fun x hg hf _ => ⟨fun q => ?_, fun _ => ?_, rfl⟩
  · rw [CoreSt.gr_setG, hv x hg, hg]
    by_cases hq : d = q
    · simp [hq]
    · simp [hq, Fin.val_ne_of_ne hq]
  · rw [← hf]; exact NewFlags.hold_none e _

/-- An instruction with a logical result. -/
theorem aluLogic_completes (s : State) (c : Core) (e : Enc) (i : Instr) (d : GReg) (v : CoreSt → Word) (r : Word)
    (hx : exec i s = .next (s.regOp c e i fun x => x.putAlu d (aluLogic x.flags (v x)))) (h : s.stands c e i)
    (hv : ∀ x : CoreSt, (∀ q, x.gr q = (s.core c).gr q) → v x = r) : s.completes c e i (some d) r (znOf r) := by
  refine alu_completes s c e i d _ _ _ hx h fun x hg hf => ?_
  rw [hv x hg, hf]
  exact ⟨rfl, znOf_hold e _ _⟩

theorem reverseBits_lt (k n : Nat) : reverseBits k n < 2 ^ k := by
  induction k generalizing n with
  | zero => simp [reverseBits]
  | succ k ih =>
    have := ih (n / 2)
    have : n % 2 * 2 ^ k ≤ 1 * 2 ^ k := Nat.mul_le_mul_right _ (by omega)
    rw [reverseBits, Nat.pow_succ]; omega

theorem reverseBits_testBit (k n i : Nat) : (reverseBits k n).testBit i = (decide (i < k) && n.testBit (k - 1 - i)) := by
  induction k generalizing n with
  | zero => simp [reverseBits]
  | succ k ih =>
    rw [reverseBits, Nat.mul_comm, Nat.testBit_two_pow_mul_add _ (reverseBits_lt k _)]
    split
    · rename_i h
      rw [ih, ← Nat.testBit_succ, show (k - 1 - i).succ = k + 1 - 1 - i by omega]
      simp [h, show i < k + 1 by omega]
    · rename_i h
      by_cases hi : i = k
      · subst hi; simp [Nat.testBit_zero]
      · have hlt : n % 2 < 2 ^ (i - k) := Nat.lt_of_lt_of_le (by omega) (Nat.pow_le_pow_right (by decide) (show 1 ≤ i - k by omega))
        simp [Nat.testBit_lt_two_pow hlt, show ¬ i < k + 1 by omega]

/-- The number whose `m` bytes are those of `n`, each reversed. -/
def reverseInBytes (n m : Nat) : Nat :=
  (List.range m).foldl (fun v k => v + reverseBits 8 (n / 2 ^ (8 * k) % 256) * 2 ^ (8 * k)) 0

theorem brevbOf_eq (w : Word) : brevbOf w = BitVec.ofNat 32 (reverseInBytes w.toNat 4) := rfl

theorem reverseInBytes_succ (n m : Nat) : reverseInBytes n (m + 1) =
    2 ^ (8 * m) * reverseBits 8 (n / 2 ^ (8 * m) % 256) + reverseInBytes n m := by
  simp only [reverseInBytes, List.range_succ, List.foldl_append, List.foldl_cons, List.foldl_nil]
  rw [Nat.add_comm, Nat.mul_comm]

theorem reverseInBytes_lt (n m : Nat) : reverseInBytes n m < 2 ^ (8 * m) := by
  induction m with
  | zero => simp [reverseInBytes]
  | succ m ih =>
    have h8 := reverseBits_lt 8 (n / 2 ^ (8 * m) % 256)
    calc reverseInBytes n (m + 1)
        = 2 ^ (8 * m) * reverseBits 8 (n / 2 ^ (8 * m) % 256) + reverseInBytes n m := reverseInBytes_succ n m
      _ < 2 ^ (8 * m) * (reverseBits 8 (n / 2 ^ (8 * m) % 256) + 1) := by rw [Nat.mul_succ]; omega
      _ ≤ 2 ^ (8 * m) * 2 ^ 8 := Nat.mul_le_mul_left _ h8
      _ = 2 ^ (8 * (m + 1)) := by rw [← Nat.pow_add, Nat.mul_succ]

theorem reverseInBytes_testBit (n m i : Nat) (hi : i < 8 * m) :
    (reverseInBytes n m).testBit i = n.testBit (i / 8 * 8 + (7 - i % 8)) := by
  induction m with
  | zero => omega
  | succ m ih =>
    rw [reverseInBytes_succ, Nat.testBit_two_pow_mul_add _ (reverseInBytes_lt n m)]
    split
    · exact ih ‹_›
    · rw [reverseBits_testBit, show (256 : Nat) = 2 ^ 8 from rfl, Nat.testBit_mod_two_pow, Nat.testBit_div_two_pow,
        decide_eq_true (show i - 8 * m < 8 by omega), decide_eq_true (show 8 - 1 - (i - 8 * m) < 8 by omega),
        show 8 - 1 - (i - 8 * m) + 8 * m = i / 8 * 8 + (7 - i % 8) by omega]
      rfl

theorem onesIn_eq (k n : Nat) : onesIn k n = ((List.range k).filter fun j => n.testBit j).length := by
  induction k generalizing n with
  | zero => rfl
  | succ k ih =>
    have hbit : ((fun j => n.testBit j) ∘ Nat.succ) = fun j => (n / 2).testBit j := funext fun j => Nat.testBit_succ n j
    rw [onesIn, ih, List.range_succ_eq_map, List.filter_cons, List.filter_map, hbit, Nat.testBit_zero]
    by_cases h : n % 2 = 1
    · simp [h, Nat.add_comm]
    · simp [show n % 2 = 0 by omega]

theorem brevOf_eq_of_bits (a y : Word) (h : ∀ k, k < 32 → y.getLsbD k = a.getLsbD (31 - k)) : brevOf a = y := by
  refine BitVec.eq_of_getLsbD_eq fun k hk => ?_
  rw [h k hk, brevOf, BitVec.getLsbD_ofNat, reverseBits_testBit]
  simp [hk]; rfl

theorem brevbOf_eq_of_bits (a y : Word) (h : ∀ k, k < 32 → y.getLsbD k = a.getLsbD (k / 8 * 8 + (7 - k % 8))) : brevbOf a = y := by
  refine BitVec.eq_of_getLsbD_eq fun k hk => ?_
  rw [h k hk, brevbOf_eq, BitVec.getLsbD_ofNat, reverseInBytes_testBit _ _ _ hk]
  simp [hk]; rfl

/-! ### Shifts -/

theorem shiftFlags_hold (e : Enc) (f : Flags) (r : Word) (n : Nat) (cy : Bool) (hn : e.noFlags = false) :
    ({ znOf r with c := if n = 0 then none else some cy } : NewFlags).hold e f (shiftFlags f r n cy).flags := by
  unfold shiftFlags
  by_cases h : n = 0 <;> simp [NewFlags.hold, hn, znOf, h, flagAt_putZN, flagAt_putC]

theorem ofNat_mul_two_pow (a : Word) (n : Nat) : BitVec.ofNat 32 (a.toNat * 2 ^ n) = a <<< n := by
  apply BitVec.eq_of_toNat_eq
  simp [Nat.shiftLeft_eq]

theorem ofNat_div_two_pow (a : Word) (n : Nat) : BitVec.ofNat 32 (a.toNat / 2 ^ n) = a >>> n := by
  apply BitVec.eq_of_toNat_eq
  have := Nat.div_le_self a.toNat (2 ^ n)
  simp [Nat.shiftRight_eq_div_pow]; omega

theorem ofInt_fdiv_two_pow (a : Word) (n : Nat) : BitVec.ofInt 32 (a.toInt.fdiv (2 ^ n)) = a.sshiftRight n := by
  have hpow : (2 : Int) ^ n = ((2 ^ n : Nat) : Int) := (Int.natCast_pow 2 n).symm
  rw [BitVec.sshiftRight, Int.shiftRight_eq_div_pow, hpow, Int.fdiv_eq_ediv_of_nonneg _ (Int.natCast_nonneg _)]

/-- Settles O3: each form is a logical result, a register write or a shift with its flags. -/
theorem logicMovesAndShifts : Obligations.LogicMovesAndShifts := by
  intro s c e d r imm
  refine ⟨fun h => ?and, fun h => ?or, fun h => ?xor, fun h => ?not, fun h => ?tst, fun h => ?mov, fun h => ?movi, fun h => ?nop,
    fun y hy h => ?brev, fun y hy h => ?brevb, fun y hy h => ?par, fun h => ?shl, fun h => ?shr, fun h => ?sar, fun h => ?ror⟩
  case and | or | xor | not => exact aluLogic_completes s c e _ d _ _ rfl h fun x hg => by simp only [hg]
  case brev => exact aluLogic_completes s c e _ d _ _ rfl h fun x hg => by rw [hg]; exact brevOf_eq_of_bits _ _ hy
  case brevb => exact aluLogic_completes s c e _ d _ _ rfl h fun x hg => by rw [hg]; exact brevbOf_eq_of_bits _ _ hy
  case par => exact aluLogic_completes s c e _ d _ _ rfl h fun x hg => by rw [hg, hy, parityOf, onesIn_eq]; rfl
  case mov => exact setG_completes s c e _ d _ _ rfl h fun x hg => hg r
  case movi => exact setG_completes s c e _ d _ _ rfl h fun _ _ => rfl
  case tst => exact flagsOnly_completes s c e _ _ _ rfl h fun x hg hf hn => by simp only [hg, hf]; exact znOf_hold e _ _ hn
  case nop =>
    exact regOp_completes s c e _ id _ _ _ rfl h fun x hg hf _ =>
      ⟨fun q => (hg q).trans (by simp), fun _ => hf ▸ NewFlags.hold_none e _, rfl⟩
  all_goals
    refine alu_completes s c e _ d _ _ _ rfl h fun x hg hf => ?_
    simp only [hg, hf]
  case shl => rw [← ofNat_mul_two_pow]; exact ⟨rfl, shiftFlags_hold e _ _ _ _⟩
  case shr => rw [← ofNat_div_two_pow]; exact ⟨rfl, shiftFlags_hold e _ _ _ _⟩
  case sar => rw [← ofInt_fdiv_two_pow]; exact ⟨rfl, shiftFlags_hold e _ _ _ _⟩
  case ror => exact ⟨rfl, shiftFlags_hold e _ _ _ _⟩

/-! ## Products and quotients (R189, R190) -/

theorem aluMul_hold (e : Enc) (f : Flags) (a b : Word) (hn : e.noFlags = false) :
    (zncvOf (a * b) (decide (2 ^ 32 ≤ a.toNat * b.toNat)) (outOfRange (a.toInt * b.toInt))).hold e f (aluMul f a b).flags := by
  have hv : outOfRange (a.toInt * b.toInt) = decide (a.toInt * b.toInt < -2 ^ 31 ∨ 2 ^ 31 ≤ a.toInt * b.toInt) := by
    simp [outOfRange]
  rw [hv]
  exact zncvOf_hold e f _ _ _ hn

theorem divFlags_hold (e : Enc) (f : Flags) (y : Word) (v z : Bool) (hn : e.noFlags = false) :
    ({ zncvOf y false v with dz := if z then some true else none } : NewFlags).hold e f (divFlags f y v z).flags := by
  cases z <;> simp [NewFlags.hold, hn, zncvOf, divFlags, flagAt_putFlag, flagAt_putZN, flagAt_putC, flagAt_putV]

/-- A division that writes `y`, with V and DZ as its row of R190 says. -/
theorem divFlags_completes (s : State) (c : Core) (e : Enc) (i : Instr) (d r : GReg) (al : Flags → Word → Word → Alu) (y : Word)
    (v z : Bool) (hx : exec i s = .next (s.regOp c e i fun x => x.putAlu d (al x.flags (x.gr d) (x.gr r)))) (h : s.stands c e i)
    (hal : ∀ f, al f ((s.core c).gr d) ((s.core c).gr r) = divFlags f y v z) :
    s.completes c e i (some d) y { zncvOf y false v with dz := if z then some true else none } := by
  refine alu_completes s c e i d _ _ _ hx h fun x hg hf => ?_
  rw [hg, hg, hf, hal]
  exact ⟨rfl, divFlags_hold e _ _ _ _⟩

theorem divOverflow_iff (a b : Word) : divOverflow a b = true ↔ a = 0x80000000 ∧ b = 0xFFFFFFFF := by
  simp [divOverflow]

section Quotients
variable (f : Flags) {a b : Word}

theorem aluDiv_zero (h : b = 0) : aluDiv f a b = divFlags f 0xFFFFFFFF false true := if_pos h
theorem aluRem_zero (h : b = 0) : aluRem f a b = divFlags f a false true := if_pos h
theorem aluDivu_zero (h : b = 0) : aluDivu f a b = divFlags f 0xFFFFFFFF false true := if_pos h
theorem aluRemu_zero (h : b = 0) : aluRemu f a b = divFlags f a false true := if_pos h
theorem aluDivu_of_ne (h : b ≠ 0) : aluDivu f a b = divFlags f (BitVec.ofNat 32 (a.toNat / b.toNat)) false false := if_neg h
theorem aluRemu_of_ne (h : b ≠ 0) : aluRemu f a b = divFlags f (BitVec.ofNat 32 (a.toNat % b.toNat)) false false := if_neg h

theorem aluDiv_overflow (h : a = 0x80000000 ∧ b = 0xFFFFFFFF) : aluDiv f a b = divFlags f 0x80000000 true false := by
  rw [aluDiv, if_neg (by simp [h.2]), if_pos ((divOverflow_iff a b).mpr h)]

theorem aluRem_overflow (h : a = 0x80000000 ∧ b = 0xFFFFFFFF) : aluRem f a b = divFlags f 0 true false := by
  rw [aluRem, if_neg (by simp [h.2]), if_pos ((divOverflow_iff a b).mpr h)]

theorem aluDiv_of_ne (h : b ≠ 0) (ho : ¬(a = 0x80000000 ∧ b = 0xFFFFFFFF)) :
    aluDiv f a b = divFlags f (BitVec.ofInt 32 (a.toInt.tdiv b.toInt)) false false := by
  rw [aluDiv, if_neg h, if_neg (mt (divOverflow_iff a b).mp ho)]

theorem aluRem_of_ne (h : b ≠ 0) (ho : ¬(a = 0x80000000 ∧ b = 0xFFFFFFFF)) :
    aluRem f a b = divFlags f (BitVec.ofInt 32 (a.toInt.tmod b.toInt)) false false := by
  rw [aluRem, if_neg h, if_neg (mt (divOverflow_iff a b).mp ho)]

end Quotients

/-- Settles O4: each row of R190's table is an equation of its division. -/
theorem productsAndQuotients : Obligations.ProductsAndQuotients := by
  intro s c e d r
  refine ⟨fun h => ?mul, fun h => ?mulhu, fun h => ?mulh, fun h => ?div, fun h => ?rem, fun h => ?divu, fun h => ?remu⟩
  case mul =>
    refine alu_completes s c e _ d _ _ _ rfl h fun x hg hf => ?_
    simp only [hg, hf]
    exact ⟨rfl, aluMul_hold e _ _ _⟩
  case mulhu | mulh => exact aluLogic_completes s c e _ d _ _ rfl h fun x hg => by simp only [hg]
  case div =>
    exact ⟨fun hb => divFlags_completes s c e _ d r aluDiv _ _ _ rfl h fun f => aluDiv_zero f hb,
      fun ho => divFlags_completes s c e _ d r aluDiv _ _ _ rfl h fun f => aluDiv_overflow f ho,
      fun hb ho => divFlags_completes s c e _ d r aluDiv _ _ _ rfl h fun f => aluDiv_of_ne f hb ho⟩
  case rem =>
    exact ⟨fun hb => divFlags_completes s c e _ d r aluRem _ _ _ rfl h fun f => aluRem_zero f hb,
      fun ho => divFlags_completes s c e _ d r aluRem _ _ _ rfl h fun f => aluRem_overflow f ho,
      fun hb ho => divFlags_completes s c e _ d r aluRem _ _ _ rfl h fun f => aluRem_of_ne f hb ho⟩
  case divu =>
    exact ⟨fun hb => divFlags_completes s c e _ d r aluDivu _ _ _ rfl h fun f => aluDivu_zero f hb,
      fun hb => divFlags_completes s c e _ d r aluDivu _ _ _ rfl h fun f => aluDivu_of_ne f hb⟩
  case remu =>
    exact ⟨fun hb => divFlags_completes s c e _ d r aluRemu _ _ _ rfl h fun f => aluRemu_zero f hb,
      fun hb => divFlags_completes s c e _ d r aluRemu _ _ _ rfl h fun f => aluRemu_of_ne f hb⟩

/-! ## CRC steps (R210, R211) -/

theorem timesN_eq_repeat {α : Type} (f : α → α) (n : Nat) (x : α) : timesN f n x = Nat.repeat f n x := by
  have hcomm : ∀ n x, Nat.repeat f n (f x) = f (Nat.repeat f n x) := by
    intro n
    induction n with
    | zero => exact fun _ => rfl
    | succ n ih => exact fun x => congrArg f (ih x)
  induction n generalizing x with
  | zero => rfl
  | succ n ih => rw [timesN, ih, hcomm]; rfl

/-- One CRC step on numbers, with the reflected polynomial `q` (R211). -/
def crcNat (refl : Bool) (w p q v b : Nat) : Nat :=
  if refl then Nat.repeat (fun y => if y % 2 = 1 then (y / 2) ^^^ q else y / 2) 8 ((v % 2 ^ w) ^^^ b)
  else Nat.repeat (fun y => if y.testBit (w - 1) then ((2 * y) ^^^ p) % 2 ^ w else 2 * y % 2 ^ w) 8
    ((v % 2 ^ w) ^^^ (b * 2 ^ (w - 8)))

theorem crcBit_eq (w p : Nat) :
    crcBit w p = fun y => if y.testBit (w - 1) then ((2 * y) ^^^ p) % 2 ^ w else 2 * y % 2 ^ w := by
  funext y; rw [crcBit, Nat.mul_comm]

theorem crcWidth_le (k : BitVec 3) : crcWidth k ≤ 32 := by
  unfold crcWidth; split <;> decide

theorem reverseBits_eq (w p q : Nat) (hq : q < 2 ^ w) (h : ∀ k, k < w → q.testBit k = p.testBit (w - 1 - k)) :
    reverseBits w p = q := by
  refine Nat.eq_of_testBit_eq fun k => ?_
  rw [reverseBits_testBit]
  by_cases hk : k < w
  · simp [hk, h k hk]
  · have hlt : q < 2 ^ k := Nat.lt_of_lt_of_le hq (Nat.pow_le_pow_right (by decide) (Nat.le_of_not_lt hk))
    simp [hk, Nat.testBit_lt_two_pow hlt]

theorem crcStep_eq {k : BitVec 3} {p v : Word} {q n : Nat} (hq : reverseBits (crcWidth k) (p.toNat % 2 ^ crcWidth k) = q)
    (hv : v = BitVec.ofNat 32 n) (b : Nat) : crcStep k p v (BitVec.ofNat 8 b) =
      BitVec.ofNat 32 (crcNat (k.toNat.testBit 2) (crcWidth k) (p.toNat % 2 ^ crcWidth k) q n (b % 256)) := by
  have hn : n % 2 ^ 32 % 2 ^ crcWidth k = n % 2 ^ crcWidth k := Nat.mod_mod_of_dvd _ (Nat.pow_dvd_pow 2 (crcWidth_le k))
  unfold crcStep crcNat
  simp only [hq, hv, timesN_eq_repeat, crcBit_eq, BitVec.toNat_ofNat, hn]
  split <;> rfl

/-- A CRC instruction changes CRCV alone. -/
theorem crc_coreIs (s : State) (c : Core) (e : Enc) (i : Instr) (l : CoreSt → List Byte) (v : Word)
    (hx : exec i s = .next (s.regOp c e i fun x => x.crc (l x))) (h : s.stands c e i)
    (hv : ∀ x : CoreSt, (∀ q, x.gr q = (s.core c).gr q) → l x = l (s.core c))
    (hcrc : crcBytes (s.core c).crcc (s.core c).crcp (s.core c).crcv (l (s.core c)) = v) :
    s.does i fun t => (s.began c e.len).coreIs t c (nextPc (s.core c).pc e.len) { (s.began c e.len).core c with crcv := v } := by
  refine does_of_next hx ?_
  rw [State.regOp, gated_of_stands h]
  obtain ⟨b, hb⟩ := began_core s c e.len
  have hk : keepFlags e ((s.began c e.len).core c) (((s.began c e.len).core c).crc (l ((s.began c e.len).core c))) =
      { (s.began c e.len).core c with crcv := v } := by
    rw [hv _ (began_core_g s c e.len).1, hb, CoreSt.crc, hcrc]
    unfold keepFlags; split <;> rfl
  have hm := modCore_advance_coreIs (s.began c e.len) c (fun x => keepFlags e x (x.crc (l x))) e.len
  simp only [hk] at hm
  rwa [hb] at hm ⊢

/-- Settles O6: CRCB's byte is the low one, CRCW's are the four of the register, low one first. -/
theorem crcSteps : Obligations.CrcSteps := by
  intro s c e r w q x p one g after hw hq hr
  obtain rfl : w = crcWidth x.crcc := hw
  have hp : reverseBits (crcWidth x.crcc) (x.crcp.toNat % 2 ^ crcWidth x.crcc) = q := reverseBits_eq _ _ _ hq hr
  have hv : x.crcv = BitVec.ofNat 32 x.crcv.toNat := by simp
  refine ⟨fun h => crc_coreIs s c e _ (fun x => bytesLE 1 (x.gr r).toNat) _ rfl h (fun y hg => by simp only [hg]) ?_,
    fun h => crc_coreIs s c e _ (fun x => bytesLE 4 (x.gr r).toNat) _ rfl h (fun y hg => by simp only [hg]) ?_⟩
  · show crcBytes x.crcc x.crcp x.crcv [BitVec.ofNat 8 g] = _
    rw [crcBytes, crcStep_eq hp hv]
    rfl
  · have hg : g / 256 / 256 / 256 % 256 = g / 2 ^ 24 := by have := (x.gr r).isLt; omega
    show crcBytes x.crcc x.crcp x.crcv (bytesLE 4 g) = _
    simp only [bytesLE, crcBytes]
    rw [crcStep_eq hp hv, crcStep_eq hp rfl, crcStep_eq hp rfl, crcStep_eq hp rfl, hg, Nat.div_div_eq_div_mul g]
    rfl

/-! ## What a suppression list leaves alone (R443)

The end of a list stores the core's held words into the launch table: that reaches TIME, JRN, Caer and three registers of TIME. -/

/-- The registers that TIME writes when a word is stored into the launch table. -/
def tableRegs : List Nat := [TIME_LTERR, TIME_STATUS, TIME_SEQ]

/-- Cores, memory, what the HIC holds for the cores, and the registers outside the launch table's are as before. -/
def State.sparesCores (s t : State) : Prop :=
  t.cores = s.cores ∧ t.mem = s.mem ∧ t.hic.cores = s.hic.cores ∧ s.sameRegs t tableRegs

theorem sparesCores_refl (s : State) : s.sparesCores s := ⟨rfl, rfl, rfl, fun _ _ => rfl⟩

theorem State.sparesCores.trans {s t u : State} (h : s.sparesCores t) (k : t.sparesCores u) : s.sparesCores u := by
  obtain ⟨hc, hm, hh, hr⟩ := h
  obtain ⟨kc, km, kh, kr⟩ := k
  exact ⟨kc.trans hc, km.trans hm, kh.trans hh, fun a ha => (kr a ha).trans (hr a ha)⟩

theorem foldl_sparesCores {α : Type} (f : State → α → State) (hf : ∀ (s : State) (x : α), s.sparesCores (f s x)) (l : List α)
    (s : State) : s.sparesCores (l.foldl f s) := by
  induction l generalizing s with
  | nil => exact sparesCores_refl s
  | cons x r ih => exact (hf s x).trans (ih _)

theorem wr_sparesCores (s : State) (a : Nat) (v : Word) (h : a ∈ tableRegs) : s.sparesCores (s.wr a v) :=
  ⟨rfl, rfl, rfl, fun b hb => by rw [rd_wr, if_neg fun e : a = b => hb (e ▸ h)]⟩

theorem set_sparesCores (s : State) (a : Nat) (f : Fld) (v : Nat) (h : a ∈ tableRegs) : s.sparesCores (s.set a f v) :=
  wr_sparesCores s a _ h

theorem tRaise_sparesCores (s : State) (n : Nat) : s.sparesCores (s.tRaise n) := by
  unfold State.tRaise
  split <;> exact ⟨rfl, rfl, rfl, fun _ _ => rfl⟩

theorem lterr_sparesCores (s : State) (kind i : Nat) : s.sparesCores (s.lterr kind i) :=
  ((wr_sparesCores s TIME_LTERR _ (by decide)).trans (set_sparesCores _ TIME_STATUS _ _ (by decide))).trans (tRaise_sparesCores _ _)

theorem setL_sparesCores (s : State) (i : Nat) (e : LEnt) : s.sparesCores (s.setL i e) := ⟨rfl, rfl, rfl, fun _ _ => rfl⟩

theorem hand_sparesCores (s : State) (f : JFrom) (l : List Rec) : s.sparesCores (s.hand f l) := ⟨rfl, rfl, rfl, fun _ _ => rfl⟩

theorem doneRec_sparesCores (s : State) (i : Nat) (e : LEnt) (outcome : Nat) : s.sparesCores (s.doneRec i e outcome) := by
  unfold State.doneRec
  split
  · exact hand_sparesCores _ _ _
  · exact sparesCores_refl s

theorem send_sparesCores (s : State) (n : Nat) (f : CFrame) : s.sparesCores (s.send n f) := by
  unfold State.send
  split
  · exact ⟨rfl, rfl, rfl, fun _ _ => rfl⟩
  · split <;> exact ⟨rfl, rfl, rfl, fun _ _ => rfl⟩

/-- A broadcast frame goes out on the links that are up, and is never undeliverable (R361). -/
theorem originate_sparesCores (s : State) (f : CFrame) (hb : f.bc = true) : s.sparesCores (s.originate f) := by
  unfold State.originate
  simp only [hb, if_true]
  split
  · exact sparesCores_refl s
  · exact foldl_sparesCores _ (fun s n => send_sparesCores s n _) _ s

theorem arm_sparesCores (s : State) (i : Nat) : s.sparesCores (s.arm i) := by
  unfold State.arm
  simp only
  split
  · exact (setL_sparesCores s i _).trans (originate_sparesCores _ _ rfl)
  · exact setL_sparesCores s i _

theorem commitL_sparesCores (s : State) (i src : Nat) : s.sparesCores (s.commitL i src) := by
  have hseq := wr_sparesCores s TIME_SEQ (s.rd TIME_SEQ + 1) (by decide)
  unfold State.commitL
  simp only
  split
  · exact (set_sparesCores s TIME_STATUS _ _ (by decide)).trans (lterr_sparesCores _ _ _)
  · split
    · exact (hseq.trans (setL_sparesCores _ i _)).trans (hand_sparesCores _ _ _)
    · exact (hseq.trans (setL_sparesCores _ i _)).trans (arm_sparesCores _ i)

theorem tableStore_sparesCores (s : State) (i src w : Nat) (v : Word) : s.sparesCores (s.tableStore i src w v) := by
  have hcancel : ∀ e e' : LEnt, s.sparesCores ((s.doneRec i e 4).setL i e') := fun e e' =>
    (doneRec_sparesCores s i e 4).trans (setL_sparesCores _ i e')
  unfold State.tableStore
  simp only
  split
  case h_4 => -- word 3: a commit, or what its entry's state makes of it
    split
    · split
      · exact (setL_sparesCores s i _).trans (commitL_sparesCores _ i src)
      · exact lterr_sparesCores s _ _
    · split
      case h_1 =>
        split
        · exact lterr_sparesCores s _ _
        · exact setL_sparesCores s i _
      case h_2 => exact hcancel _ _
      case h_3 =>
        split
        · exact lterr_sparesCores s _ _
        · exact hcancel _ _
      case h_4 => exact lterr_sparesCores s _ _
  all_goals
    split
    · exact setL_sparesCores s i _
    · exact lterr_sparesCores s _ _

theorem launchAnswer_sparesCores (s : State) (i : Nat) (g : Group) (ok : Bool) : s.sparesCores (s.launchAnswer i g ok) := by
  unfold State.launchAnswer
  simp only
  split
  · split
    · exact arm_sparesCores s i
    · exact (setL_sparesCores s i _).trans (lterr_sparesCores _ _ _)
  · exact sparesCores_refl s

theorem jrn_sparesCores (s : State) (j : JrnSt) : s.sparesCores { s with jrn := j } := ⟨rfl, rfl, rfl, fun _ _ => rfl⟩

theorem takeArm_sparesCores (s : State) (i : Nat) : s.sparesCores (s.takeArm i) := by
  unfold State.takeArm
  split
  · exact sparesCores_refl s
  · exact (jrn_sparesCores s _).trans (launchAnswer_sparesCores _ i _ _)

theorem answersIn_sparesCores (s : State) : s.sparesCores s.answersIn := by
  refine foldl_sparesCores _ (fun s a => ?_) _ s
  split
  · exact takeArm_sparesCores s _
  · exact sparesCores_refl s

theorem flushHold_sparesCores (s : State) (c : Nat) : s.sparesCores (s.flushHold c) := by
  unfold State.flushHold
  split
  · exact sparesCores_refl s
  · refine ((jrn_sparesCores s _).trans (answersIn_sparesCores _)).trans (foldl_sparesCores _ (fun s p => ?_) _ _)
    split
    · exact tableStore_sparesCores s _ _ _ _
    · exact sparesCores_refl s

theorem dropList_sparesCores (s : State) (c : Nat) : s.sparesCores (s.dropList c) :=
  (jrn_sparesCores s _).trans (flushHold_sparesCores _ c)

/-! ## Precise faults (R230, R231) -/

theorem faultRegs_addresses (c : Core) :
    CORE_FAULT c ≠ CORE_FLTPC c ∧ CORE_FAULT c ≠ CORE_FLTADDR c ∧ CORE_FLTPC c ≠ CORE_FLTADDR c ∧
    CORE_ESC ∉ [CORE_FAULT c, CORE_FLTPC c, CORE_FLTADDR c] ∧
    CORE_FAULT c ∉ tableRegs ∧ CORE_FLTPC c ∉ tableRegs ∧ CORE_FLTADDR c ∉ tableRegs := by
  revert c; decide

/-- What the registers of a fault show once they are written. -/
theorem faultRegs_rd (s : State) (c : Core) (cause kind addr : Nat) :
    (s.faultRegs c cause kind addr).rd (CORE_FAULT c) = BitVec.ofNat 32 (cause + 256 * kind) ∧
    (s.faultRegs c cause kind addr).rd (CORE_FLTPC c) = (s.core c).pc ∧
    (s.faultRegs c cause kind addr).rd (CORE_FLTADDR c) = BitVec.ofNat 32 addr ∧
    (s.faultRegs c cause kind addr).rd CORE_ESC = s.rd CORE_ESC := by
  obtain ⟨h1, h2, h3, hesc, -⟩ := faultRegs_addresses c
  simp only [List.mem_cons, List.not_mem_nil, not_or] at hesc
  obtain ⟨h4, h5, h6, -⟩ := hesc
  refine ⟨?_, ?_, ?_, ?_⟩ <;>
    simp [State.faultRegs, rd_wr, h1.symm, h2.symm, h3.symm, Ne.symm h4, Ne.symm h5, Ne.symm h6]

theorem faulted_of_rd (s : State) (c cause kind : Nat) (h : cause % 16 ≠ 0)
    (hr : s.rd (CORE_FAULT c) = BitVec.ofNat 32 (cause + 256 * kind)) : s.faulted c = true := by
  have hf : s.get (CORE_FAULT c) CORE_FAULT_CAUSE = cause % 16 := by
    simp only [State.get, hr, fieldOf, bitsOf, CORE_FAULT_CAUSE, BitVec.toNat_ofNat]
    omega
  simp [State.faulted, hf, h]

/-- The FAULT record sets out for JRN, where there is one (R230). -/
def State.faultHanded (s : State) (c cause kind addr : Nat) : State :=
  let u := s.faultRegs c cause kind addr
  if u.fabric then u.hand (.fault c (u.escalates c)) [u.faultRec c cause kind addr] else u

theorem coreFault_eq (s : State) (c cause kind addr : Nat) : s.coreFault c cause kind addr =
    if c = 8 then s.faultHanded c cause kind addr else (s.faultHanded c cause kind addr).dropList c := rfl

theorem faultRegs_sparesCores_faultHanded (s : State) (c cause kind addr : Nat) :
    (s.faultRegs c cause kind addr).sparesCores (s.faultHanded c cause kind addr) := by
  unfold State.faultHanded
  simp only
  split
  · exact hand_sparesCores _ _ _
  · exact sparesCores_refl _

theorem coreFault_sparesCores (s : State) (c cause kind addr : Nat) :
    (s.faultRegs c cause kind addr).sparesCores (s.coreFault c cause kind addr) := by
  refine (faultRegs_sparesCores_faultHanded s c cause kind addr).trans ?_
  rw [coreFault_eq]
  split
  · exact sparesCores_refl _
  · exact dropList_sparesCores _ c

/-- The registers that record a fault show it once it has been taken. -/
theorem coreFault_rd (s : State) (c : Core) (cause kind addr : Nat) :
    (s.coreFault c cause kind addr).rd (CORE_FAULT c) = BitVec.ofNat 32 (cause + 256 * kind) ∧
    (s.coreFault c cause kind addr).rd (CORE_FLTPC c) = (s.core c).pc ∧
    (s.coreFault c cause kind addr).rd (CORE_FLTADDR c) = BitVec.ofNat 32 addr := by
  obtain ⟨-, -, -, hsame⟩ := coreFault_sparesCores s c cause kind addr
  obtain ⟨hfault, hpc, haddr, -⟩ := faultRegs_rd s c cause kind addr
  obtain ⟨-, -, -, -, n1, n2, n3⟩ := faultRegs_addresses c
  exact ⟨(hsame _ n1).trans hfault, (hsame _ n2).trans hpc, (hsame _ n3).trans haddr⟩

/-- A precise fault with a cause of R229 has its whole effect, and only that. -/
theorem coreFault_trapped (s : State) (c : Core) (cause kind addr : Nat) (h : cause % 16 ≠ 0) :
    s.trapped (s.coreFault c cause kind addr) c cause kind addr := by
  obtain ⟨hcores, hmem, -, -⟩ := coreFault_sparesCores s c cause kind addr
  obtain ⟨hfault, hpc, haddr⟩ := coreFault_rd s c cause kind addr
  obtain ⟨-, -, -, hesc⟩ := faultRegs_rd s c cause kind addr
  refine ⟨hfault, hpc, haddr, faulted_of_rd _ c cause kind h hfault, hmem, fun d => ?_, ?_⟩
  · rw [State.core, hcores]; rfl
  · rw [coreFault_eq, State.faultHanded, State.escalates, hesc]
    rfl

/-- ILLEGAL, which has no KIND and no address (R214, R230). -/
theorem illegal_trapped (s : State) (c : Core) : s.trapped (s.illegal c) c 1 0 0 := coreFault_trapped s c 1 0 0 (by decide)

/-! ## Faults of a fetch (R221, R229) -/

theorem raise_hicCores (s : State) (n : Nat) : (s.raise n).hic.cores = s.hic.cores := rfl

theorem eccBad_hicCores (s : State) (m a y : Nat) : (s.eccBad m a y).hic.cores = s.hic.cores := by
  have key : ∀ u : State, u.hic = s.hic → ((if u.flag SYS_ECC_INFO SYS_ECC_INFO_V then u else
      (((u.set SYS_ECC_INFO SYS_ECC_INFO_V 1).set SYS_ECC_INFO SYS_ECC_INFO_MEM m).set
        SYS_ECC_INFO SYS_ECC_INFO_SYNDROME y).wr SYS_ECC_ADDR (BitVec.ofNat 32 a)).raise 5).hic.cores = s.hic.cores := by
    intro u hu
    split
    · rw [raise_hicCores, hu]
    · obtain ⟨r, hr⟩ := eccInfo_eq u m a y
      rw [hr, raise_hicCores, ← hu]
  unfold State.eccBad
  cases s.fabric
  · rfl
  · exact key _ ((congrArg State.hic (bumpSat_eq s SYS_ECC_CNT SYS_ECC_CNT_UNCORR 1)).trans rfl)

theorem eccCorr_hic (s : State) : s.eccCorr.hic = s.hic := by
  obtain ⟨r, hr⟩ := eccCorr_eq s
  rw [hr]

/-- The check of a word tells the HIC of an error, and leaves what the HIC holds for the cores. -/
theorem check_hicCores (s : State) (a : Nat) : (s.check a).1.hic.cores = s.hic.cores := by
  unfold State.check
  split
  · rfl
  · rename_i p size code _
    simp only
    split
    · rfl
    · cases p with
      | secded bits =>
        simp only
        cases judge bits (syndromeOf bits (tget s.flips 0 (a / size * size))) with
        | clean => rfl
        | single pos => rw [eccCorr_hic]
        | bad => exact eccBad_hicCores _ _ _ _
      | perByte | groups =>
        simp only
        split
        · rfl
        · exact eccBad_hicCores _ _ _ _

/-- A FETCH fault is a precise fault after the memory's own report of the word, which leaves the cores alone (R33, R229). -/
theorem fetchFault_eq (s : State) (c kind addr : Nat) : ∃ v : State, v.cores = s.cores ∧ v.hic.cores = s.hic.cores ∧
    s.fetchFault c kind addr = v.coreFault c 3 kind addr := by
  unfold State.fetchFault
  simp only
  split
  · exact ⟨_, check_cores _ _, check_hicCores _ _, rfl⟩
  · split
    · exact ⟨_, check_cores _ _, check_hicCores _ _, rfl⟩
    · exact ⟨_, rfl, rfl, rfl⟩

/-- After a FETCH fault the core is stopped; the cores and what the HIC holds for them are as before. -/
theorem fetchFault_spec (s : State) (c : Core) (kind addr : Nat) : (s.fetchFault c kind addr).cores = s.cores ∧
    (s.fetchFault c kind addr).hic.cores = s.hic.cores ∧ (s.fetchFault c kind addr).faulted c = true := by
  obtain ⟨v, hc, hh, hv⟩ := fetchFault_eq s c kind addr
  obtain ⟨kc, -, kh, -⟩ := coreFault_sparesCores v c 3 kind addr
  obtain ⟨hfault, -, -⟩ := coreFault_rd v c 3 kind addr
  rw [hv]
  exact ⟨kc.trans hc, kh.trans hh, faulted_of_rd _ c 3 kind (by decide) hfault⟩

/-- A transfer of control changes the core alone, but for the fault of a target that cannot be fetched (R221). -/
theorem landed_spec (s : State) (c : Core) : (s.landed c).cores = s.cores ∧ (s.landed c).hic.cores = s.hic.cores ∧
    ((s.landed c).faulted c = false → s.landed c = s) := by
  unfold State.landed
  split
  · split
    · rename_i kind addr _
      obtain ⟨hc, hh, hf⟩ := fetchFault_spec s c kind addr
      exact ⟨hc, hh, fun h => by simp [hf] at h⟩
    · exact ⟨rfl, rfl, fun _ => rfl⟩
  · exact ⟨rfl, rfl, fun _ => rfl⟩

theorem core_eq_of_cores {s t : State} (h : t.cores = s.cores) (d : Nat) : t.core d = s.core d := by
  rw [State.core, h, State.core]

/-- A core that jumps, beside another change, as long as its target can be fetched (R221). -/
theorem jump_spec (s : State) (c : Core) (f : CoreSt → CoreSt) (pc : CoreSt → Word) :
    (∃ r, (s.jump c f pc).core c = { f (s.core c) with pc := pc (s.core c), requested := r }) ∧
    (s.jump c f pc).hic.cores = s.hic.cores ∧ ((s.jump c f pc).faulted c = false → s.onlyCore (s.jump c f pc) c) := by
  obtain ⟨hc, hh, hf⟩ := landed_spec (s.modCore c fun x => (f x).moveTo c (pc x)) c
  obtain ⟨hother, hcore⟩ := modCore_moveTo_coreIs s c f pc
  exact ⟨⟨_, (core_eq_of_cores hc c).trans hcore⟩, hh, fun h => by rw [State.jump, hf h]; exact hother⟩

/-! ## RETI, SLEEP and WAITEV (R200–R202, R214) -/

theorem hc_modHc (s : State) (c : Nat) (f : HicCore → HicCore) : (s.modHc c f).hc c = f (s.hc c) := by
  simp [State.hc, State.modHc]

/-- RETI in a handler: the jump back, with the completion on its way to the HIC (R200, R251). -/
def State.returned (s : State) (c : Core) : State :=
  (s.modHc c fun h => { h with done := true }).jump c (fun x => { x with flags := x.savedFlags, inHandler := false }) fun x => x.savedPc

theorem returned_spec (s : State) (c : Core) :
    (∃ r, (s.returned c).core c = { s.core c with
      pc := (s.core c).savedPc, flags := (s.core c).savedFlags, inHandler := false, requested := r }) ∧
    ((s.returned c).hc c).done = true ∧
    ((s.returned c).faulted c = false → ({ s with hic := (s.returned c).hic } : State).onlyCore (s.returned c) c) := by
  obtain ⟨hcore, hh, hf⟩ := jump_spec (s.modHc c fun h => { h with done := true }) c
    (fun x => { x with flags := x.savedFlags, inHandler := false }) fun x => x.savedPc
  refine ⟨hcore, ?_, fun h => ?_⟩
  · have hdone := hc_modHc s c fun h => { h with done := true }
    rw [State.hc, State.returned, hh]
    exact congrArg HicCore.done hdone
  · obtain ⟨heq, hother⟩ := hf h
    have hhic : (s.returned c).hic = (s.modHc c fun h => { h with done := true }).hic := (congrArg State.hic heq).trans rfl
    exact ⟨by rw [hhic]; exact heq, hother⟩

/-- Settles O8: each wait and each return is one change of its core. -/
theorem handlersAndWaits : Obligations.HandlersAndWaits := by
  intro s c e x u
  obtain ⟨l, hu⟩ : ∃ l, u.core c = { x with fetched := l } := began_core s c e.len
  have hin : (u.core c).inHandler = x.inHandler := by rw [hu]
  have hlatch : (u.core c).latch = x.latch := by rw [hu]
  refine ⟨fun h hx => ?reti, fun h hx => ?retiOutside, fun h hx => ?sleepInside, fun h hx => ?sleep, fun h hx => ?waitevSet,
    fun h hx => ?waitevClear, fun ha hm hl => ?resume⟩
  case reti =>
    obtain ⟨⟨rq, hcore⟩, hdone, hother⟩ := returned_spec u c
    rw [hu] at hcore
    exact does_of_next (t := u.returned c) (exec_of_stands h _ rfl (if_pos (hin.trans hx)))
      ⟨by rw [hcore], by rw [hcore], by rw [hcore], hdone, by rw [hcore, hu], hother⟩
  case retiOutside => exact does_of_next (exec_of_stands h _ rfl (if_neg (Bool.eq_false_iff.mp (hin.trans hx)))) (illegal_trapped u c)
  case sleepInside => exact does_of_next (exec_of_stands h _ rfl (if_pos (hin.trans hx))) (illegal_trapped u c)
  case sleep =>
    refine does_of_next (exec_of_stands h _ rfl (if_neg (Bool.eq_false_iff.mp (hin.trans hx)))) ⟨onlyCore_modCore u c _, ?_⟩
    rw [State.core_modCore, if_pos rfl, hu]
  case waitevSet =>
    have hm := modCore_advance_coreIs u c (fun x => { x with latch := false }) e.len
    refine does_of_next (exec_of_stands h _ rfl (if_pos (hlatch.trans hx))) ?_
    rwa [hu] at hm ⊢
  case waitevClear =>
    refine does_of_next (exec_of_stands h _ rfl (if_neg (Bool.eq_false_iff.mp (hlatch.trans hx)))) ⟨onlyCore_modCore u c _, ?_⟩
    rw [State.core_modCore, if_pos rfl, hu]
  case resume =>
    exact does_of_next (congrArg Host.Outcome.next (if_pos ⟨ha, hm, hl⟩))
      (modCore_moveTo_coreIs s c (fun x => { x with latch := false, mode := .run }) fun x => x.next)

end Sys2Proof.Machine
end
